-- ==== Sys2Proof/Word.lean ====
section
/-! DEFINITION. Word types of the BX16: the byte of a frame, the set of positions, programs or variants as
R192 lays it out (member m in bit m), and the 32-bit line clock (R168). -/

namespace Sys2Proof

/-- One byte of a frame on a link (R180). -/
abbrev Byte := BitVec 8

/-- A set of positions, programs or variants: member `m` is bit `m` (R192). -/
abbrev Mask := BitVec 16

/-- The line clock: a 32-bit count of milliseconds that wraps (R168). -/
abbrev Clock := BitVec 32

end Sys2Proof
end

