-- ==== Sys2Proof/Syntax.lean ====
section
/-! DEFINITION. The commands of the BX16: one constructor of `Instr` for each row of spec/opcode_table.json.
A command is either a wired or timer event, a grant of the Index Controller or of the scrubber, an event on a
link, or a request of one party, which carries the link it arrives on, its tag (R183) and its arguments (R192).
An enumeration argument is an `Option`: `none` is a code that stands for no value of the enumeration, which the
request's own rule refuses with RANGE in its own place among the checks (R2). -/

namespace Sys2Proof

/-- The eighteen links: SLk of position k, the supervisor's and the drive's. -/
inductive Link where
  | sl (k : Fin 16)
  | supl
  | drvl
deriving DecidableEq, Repr

/-- What the station at an intermediate position does (R3). -/
inductive WorkKind where
  | process
  | check
deriving DecidableEq, Repr

/-- A position's mode (R10, chapter 1.4). -/
inductive Mode where
  | active
  | bypass
deriving DecidableEq, Repr

/-- The self-test flag of a JOIN (R10, R194). -/
inductive SelfTest where
  | pass
  | fail
deriving DecidableEq, Repr

/-- The quality standing of a workpiece, in rising severity (R28). -/
inductive Disposition where
  | good
  | rework
  | suspect
  | reject
deriving DecidableEq, Repr

/-- The run mode (R43). -/
inductive RunMode where
  | auto
  | step
deriving DecidableEq, Repr

/-- What a position holds (R12). -/
inductive Occupant where
  | unknown
  | empty
  | pallet (number : Nat)
deriving DecidableEq, Repr

/-- The two channels of the carry axis encoder (R121). -/
inductive Channel where
  | a
  | b
deriving DecidableEq, Repr

/-- The direction the phase relation of an encoder edge shows (R121). -/
inductive Travel where
  | carry
  | home
deriving DecidableEq, Repr

/-- A change of the encoder inputs: an edge of one channel, or a transition of both together, which shows no
direction (R121). -/
inductive EncoderChange where
  | edge (channel : Channel) (travel : Travel)
  | both
deriving DecidableEq, Repr

/-- The regions of the Record Store, in the order of the table of R158. -/
inductive Region where
  | geometry
  | transfer
  | positionConfig
  | positionTracking
  | orderDetail
  | palletSlot
  | returnQueue
  | schedule
  | log
  | routing
  | budget
  | window
deriving DecidableEq, Repr

/-- One 128-bit cell of the store, named by its region and its index in the region (R158, R159). -/
structure Cell where
  region : Region
  index : Nat
deriving DecidableEq, Repr

/-- What the comparison of a cell with its check code shows: an error in one bit, which is corrected (R159), or
an error that cannot be corrected (R160). -/
inductive CellError where
  | correctable
  | uncorrectable
deriving DecidableEq, Repr

/-- The results a CLEAR of the row CLEAR may name: the five results of PROCESS and CHECK orders (R81), and the
result names of R192 that fit no order. The results of the two ends of the line have rows of their own. -/
inductive PlainResult where
  | done
  | incomplete
  | scrapped
  | passed
  | failed
  | noPallet
  | missed
  | abandoned
  | lost
deriving DecidableEq, Repr

/-- The commands: one constructor per row of the table of operations and events. -/
inductive Instr where
  -- wired lines
  | deviceReset
  | deviceResetComplete
  | homeRising
  | homeFalling
  | inPositionEdge (k : Fin 16) (active : Bool)
  | lineStopActive
  | lineStopInactive
  | encoderEdge (change : EncoderChange)
  -- timers
  | liftTimeout
  | carryTimeout
  | sweepTimeout
  | settleEnd
  | homeTimeout
  | startTimeout (k : Fin 16)
  | startTimeoutWrite (k : Fin 16)
  | overrun (k : Fin 16)
  -- grants of the Index Controller and of the scrubber
  | advance
  | learnWrite
  | scrubberRead (upsets : List (Cell × CellError))
  -- link events
  | frameReceived (link : Link) (kind : Byte) (tag : Byte) (body : List Byte) (check : BitVec 16)
  | receiveGapTimeout (link : Link)
  | frameSent (link : Link)
  -- reads
  | readPosition (link : Link) (tag : Byte) (position : Option Nat)
  | readPallet (link : Link) (tag : Byte) (number : Option Nat)
  | readIndex (link : Link) (tag : Byte)
  | readRouting (link : Link) (tag : Byte) (variant : Option Nat) (position : Option Nat)
  | readOrder (link : Link) (tag : Byte) (position : Option Nat)
  | readReturn (link : Link) (tag : Byte)
  | readSchedule (link : Link) (tag : Byte)
  | readCompletion (link : Link) (tag : Byte)
  | readTarget (link : Link) (tag : Byte)
  | readLearn (link : Link) (tag : Byte)
  | readStore (link : Link) (tag : Byte)
  | readBudget (link : Link) (tag : Byte) (position : Option Nat)
  | readTiming (link : Link) (tag : Byte) (position : Option Nat)
  | readStatus (link : Link) (tag : Byte)
  | readLinks (link : Link) (tag : Byte)
  -- joining
  | join (link : Link) (tag : Byte) (programs : Mask) (selfTest : Option SelfTest)
  | driveJoin (link : Link) (tag : Byte)
  | leave (link : Link) (tag : Byte)
  | hold (link : Link) (tag : Byte)
  | unhold (link : Link) (tag : Byte)
  -- station reports
  | start (link : Link) (tag : Byte) (order : Nat)
  | clear (link : Link) (tag : Byte) (order : Nat) (result : Option PlainResult)
  | clearLoaded (link : Link) (tag : Byte) (order : Nat) (serial : List Byte)
  | clearReady (link : Link) (tag : Byte) (order : Nat)
  | clearEmpty (link : Link) (tag : Byte) (order : Nat)
  | clearRemoved (link : Link) (tag : Byte) (order : Nat)
  | clearUnloaded (link : Link) (tag : Byte) (order : Nat)
  | clearKept (link : Link) (tag : Byte) (order : Nat)
  | clearStuck (link : Link) (tag : Byte) (order : Nat)
  | stationFault (link : Link) (tag : Byte) (code : Nat)
  | recovered (link : Link) (tag : Byte)
  | arrived (link : Link) (tag : Byte) (order : Nat) (pallet : Nat)
  | arrivedNoPallet (link : Link) (tag : Byte) (order : Nat)
  -- drive reports
  | lifted (link : Link) (tag : Byte)
  | lowered (link : Link) (tag : Byte)
  | driveFault (link : Link) (tag : Byte)
  | driveRecovered (link : Link) (tag : Byte)
  -- supervisor requests
  | setGeometry (link : Link) (tag : Byte) (count : Nat) (kinds : List (Option WorkKind)) (pitch : Nat) (resolution : Nat) (service : Option Nat)
  | setTransfer (link : Link) (tag : Byte) (settings : List (Nat × Int))
  | setMode (link : Link) (tag : Byte) (position : Nat) (mode : Option Mode)
  | setOccupant (link : Link) (tag : Byte) (position : Nat) (occupant : Occupant)
  | survey (link : Link) (tag : Byte)
  | registerPallet (link : Link) (tag : Byte) (number : Nat) (variants : Mask)
  | retirePallet (link : Link) (tag : Byte) (number : Nat)
  | markOut (link : Link) (tag : Byte) (number : Nat)
  | resetClamps (link : Link) (tag : Byte) (number : Nat) (variants : Option Mask)
  | setDisposition (link : Link) (tag : Byte) (number : Nat) (disposition : Option Disposition)
  | run (link : Link) (tag : Byte) (mode : Option RunMode)
  | halt (link : Link) (tag : Byte)
  | index (link : Link) (tag : Byte)
  | abort (link : Link) (tag : Byte)
  | clearFault (link : Link) (tag : Byte)
  | recoverForward (link : Link) (tag : Byte)
  | recoverBack (link : Link) (tag : Byte)
  | holdLine (link : Link) (tag : Byte)
  | releaseLine (link : Link) (tag : Byte)
  | lineReset (link : Link) (tag : Byte)
  | setRouting (link : Link) (tag : Byte) (variant : Nat) (position : Nat) (program : Nat)
  | insertReturn (link : Link) (tag : Byte) (number : Nat)
  | withdrawReturn (link : Link) (tag : Byte) (number : Nat)
  | appendSchedule (link : Link) (tag : Byte) (variant : Nat) (quantity : Nat)
  | clearSchedule (link : Link) (tag : Byte)
  | fetchCompletion (link : Link) (tag : Byte)
  | setTarget (link : Link) (tag : Byte) (target : Int)
  | learn (link : Link) (tag : Byte)
  | acceptLearn (link : Link) (tag : Byte)
  | discardLearn (link : Link) (tag : Byte)
  | setBudget (link : Link) (tag : Byte) (position : Nat) (program : Nat) (budget : Nat)
  | clearTiming (link : Link) (tag : Byte)
  | acknowledge (link : Link) (tag : Byte) (attentions : Mask)
  | characterReceived (link : Link) (character : Option Byte)
deriving DecidableEq, Repr

end Sys2Proof
end

