-- ==== Sys2Proof/Config.lean ====
section
/-! DEFINITION. Fixed sizes of the BX16 and the ends of its saturating counters, as the manual states them.
The manual leaves no result of a command undefined, so this file holds no free value. -/

namespace Sys2Proof.Config

/-- Positions 0 to 15 have a position table entry, whatever N is (chapter 1.3). -/
def positionCount : Nat := 16
/-- Eighteen links: SL0 to SL15, SUPL, DRVL (chapter "Parties and links"). -/
def linkCount : Nat := 18
/-- The pallet table holds at most 64 records (R20). -/
def palletPlaces : Nat := 64
/-- The return queue holds at most 64 entries (R94). -/
def queuePlaces : Nat := 64
/-- The load schedule holds at most 32 entries (R98). -/
def schedulePlaces : Nat := 32
/-- The completion log holds at most 32 records (R117). -/
def logPlaces : Nat := 32
/-- A history holds at most 28 entries (R26, R32). -/
def historyPlaces : Nat := 28
/-- A link's response queue holds up to 4 responses (R179). -/
def responsePlaces : Nat := 4
/-- The end of a 16-bit saturating count (R2 and the rules that give 0 to 65,535). -/
def max16 : Nat := 65535
/-- The end of a 32-bit saturating count or duration (R117, R168, R174). -/
def max32 : Nat := 4294967295
/-- The lowest value of the bar counter (R121). -/
def counterMin : Int := -8388608
/-- The highest value of the bar counter (R121). -/
def counterMax : Int := 8388607
/-- The service interval taken when SET GEOMETRY names none (R4), and by the repair of R165. -/
def defaultService : Nat := 20000
/-- The greatest budget in milliseconds (R170). -/
def maxBudget : Nat := 600000
/-- The greatest body length a frame may announce (R182, R191). -/
def maxBody : Nat := 240
/-- The preamble byte of every frame (R180). -/
def preamble : Byte := 165#8

end Sys2Proof.Config
end

