-- ==== Sys2Proof/Machine/State.lean ====
section
/-! DEFINITION. The state of the BX16, one structure per block of the block diagram (RST, IXC, BTK, WLU, CTM, AAR,
LIU) and one for the wired inputs, all plain data; the queue of waiting commands; and the state after device reset. -/

namespace Sys2Proof.Machine

/-! ### Stops -/

/-- The block has no fault: no rule gives a command an outcome other than a next state. -/
inductive Fault where
deriving DecidableEq, Repr

/-- Why a command is not carried out by the model. -/
inductive Refusal where
  /-- An arm of `exec` whose command has no meaning yet. Safe: nothing is claimed of it. No arm answers so. -/
  | notModelled (mnemonic : String)
deriving DecidableEq, Repr

/-! ### Geometry and transfer settings (chapter 1) -/

/-- The geometry record of R3. `kinds` lists positions 1 to N−2. -/
structure Geometry where
  count : Nat
  kinds : List WorkKind
  pitch : Nat
  resolution : Nat
  service : Nat
deriving DecidableEq, Repr

/-- One copy of the staged transfer settings of R7. -/
structure Staged where
  target : Int
  stopBand : Int
  overtravel : Int
  sweepMargin : Int
  bias : Int
  minWidth : Int
  driftLimit : Int
  entryTolerance : Int
  homeTolerance : Int
  extend : Bool
  settleTime : Nat
  liftTimeout : Nat
  carryTimeout : Nat
  sweepTimeout : Nat
  homeTimeout : Nat
deriving DecidableEq, Repr

/-- The transfer settings: the pending and the working copy, and the two direct settings (R7). -/
structure Transfer where
  pending : Staged
  working : Staged
  startTimeout : Nat
  budgetTolerance : Nat
deriving DecidableEq, Repr

/-! ### Positions and orders (chapters 1 and 4) -/

/-- A position's kind (R10). -/
inductive PositionKind where
  | load
  | unload
  | process
  | check
  | unused
deriving DecidableEq, Repr

/-- A position's phase (R10, chapter 4.2). -/
inductive Phase where
  | idle
  | ordered
  | working
  | done
  | fault
deriving DecidableEq, Repr

/-- The fault code of a position in phase FAULT (R10). -/
inductive FaultCode where
  | noStart
  | selfTest
  | store
  | station (code : Nat)
deriving DecidableEq, Repr

/-- An order's kind (R10); `noOrder` is NONE. -/
inductive OrderKind where
  | noOrder
  | process
  | check
  | feed
  | load
  | unload
deriving DecidableEq, Repr

/-- Why a pallet is given the load instruction EMPTY (R106). -/
inductive EmptyReason where
  | maintenance
  | noSchedule
  | fixture
deriving DecidableEq, Repr

/-- The lane of an unload order (R113); `noLane` is NONE. -/
inductive Lane where
  | ship
  | reject
  | keep
  | noLane
deriving DecidableEq, Repr

/-- The route of an unload order (R113). -/
inductive Route where
  | out
  | loop
deriving DecidableEq, Repr

/-- The instruction of a LOAD or UNLOAD order (R10, R106, R113). The reason of EMPTY is kept with it, because the
ORDER frame carries it (R191). -/
inductive Instruction where
  | passTwo
  | remove
  | empty (reason : EmptyReason)
  | load (variant : Nat)
  | unload (lane : Lane) (route : Route)
deriving DecidableEq, Repr

/-- The joined field of a position whose station has joined (R10). -/
structure Joined where
  programs : Mask
  selfTest : SelfTest
deriving DecidableEq, Repr

/-- A position table entry (R10). -/
structure Position where
  kind : PositionKind
  mode : Mode
  joined : Option Joined
  occupant : Occupant
  phase : Phase
  faultCode : Option FaultCode
  orderNumber : Nat
  orderKind : OrderKind
  program : Option Nat
  instruction : Option Instruction
  hold : Bool
deriving DecidableEq, Repr

/-- What has become of the current order (R75). -/
inductive Closing where
  | noOrder
  | opened
  | cleared
  | missed
  | abandoned
  | withdrawn
deriving DecidableEq, Repr

/-- The results of R192. A LOADED result carries the serial it named (R107). -/
inductive Result where
  | done
  | incomplete
  | scrapped
  | passed
  | failed
  | loaded (serial : List Byte)
  | ready
  | empty
  | removed
  | unloaded
  | kept
  | stuck
  | noPallet
  | missed
  | abandoned
  | lost
deriving DecidableEq, Repr

/-- The order detail record of a position (R75). -/
structure OrderDetail where
  copyNumber : Nat
  copyKind : OrderKind
  closing : Closing
  resultTaken : Option Result
  faultReport : Option (Nat × Clock)
  faultCount : Nat
deriving DecidableEq, Repr

/-! ### Pallets and workpieces (chapter 2) -/

/-- A workpiece's serial: characters, or LOST (R26). -/
inductive Serial where
  | lost
  | text (characters : List Byte)
deriving DecidableEq, Repr

/-- The results a history entry may record, but for LOST (R31). -/
inductive HistoryResult where
  | done
  | incomplete
  | scrapped
  | passed
  | failed
  | missed
  | abandoned
deriving DecidableEq, Repr

/-- A history entry (R31): an outcome, or a LOST entry, in which every other field is absent. -/
inductive HistoryEntry where
  | outcome (position program pass : Nat) (result : HistoryResult) (workTime : Option Nat)
  | lost
deriving DecidableEq, Repr

/-- A workpiece record (R26). -/
structure Workpiece where
  serial : Serial
  variant : Nat
  disposition : Disposition
  pass : Nat
  history : List HistoryEntry
deriving DecidableEq, Repr

/-- A pallet record (R21). -/
structure Pallet where
  number : Nat
  variants : Mask
  clamps : Nat
  divert : Bool
  damaged : Bool
  workpiece : Option Workpiece
deriving DecidableEq, Repr

/-! ### Load schedule, completion log and windows (chapters 5 and 7) -/

/-- A load schedule entry (R98). -/
structure ScheduleEntry where
  variant : Nat
  quantity : Nat
deriving DecidableEq, Repr

/-- The lane of a completion record (R117). -/
inductive LogLane where
  | ship
  | reject
  | removedAtLoad
deriving DecidableEq, Repr

/-- The fields of a completion record that its header cells hold (R117, R158). -/
structure CompletionDetail where
  lane : LogLane
  pallet : Nat
  variant : Nat
  disposition : Disposition
  passes : Nat
  stamp : Clock
deriving DecidableEq, Repr

/-- A completion record (R117). `detail` is `none` where the repair of both its header cells reports those fields
as LOST (R164). -/
structure CompletionRecord where
  number : Nat
  detail : Option CompletionDetail
  serial : Serial
  history : List HistoryEntry
deriving DecidableEq, Repr

/-- A seat window [L, U] (R151). -/
structure Window where
  low : Int
  high : Int
deriving DecidableEq, Repr

/-- A cell as the last-cell records and the STORE attentions name it: with the pallet number of a pallet slot and
the place of a queue, schedule or log cell (R159). -/
structure CellName where
  cell : Cell
  pallet : Option Nat
  place : Option Nat
deriving DecidableEq, Repr

/-- The Record Store (RST), with its error counts and the scrubber's walk position. `errors` lists the cells that
disagree with their check codes. `slots` holds the 64 pallet slots, `logHead` the log's head place (R158). -/
structure Rst where
  geometry : Option Geometry
  unconfirmed : Bool
  transfer : Option Transfer
  positions : List Position
  details : List OrderDetail
  slots : List (Option Pallet)
  returnQueue : List Nat
  schedule : List ScheduleEntry
  log : List CompletionRecord
  logHead : Nat
  recordCounter : Nat
  lastFetched : Option CompletionRecord
  routing : List Nat
  budgets : List Nat
  windows : List (Option Window)
  errors : List (Cell × CellError)
  corrections : Nat
  damages : Nat
  lastCorrected : Option CellName
  lastDamaged : Option CellName
  walk : Cell
deriving DecidableEq, Repr

/-! ### Index Controller (chapter 3) -/

/-- The states of the Index Controller (R43). -/
inductive IxcState where
  | halt
  | collect
  | permit
  | carry
  | sweep
  | reseat
  | settle
  | advance
  | fault
deriving DecidableEq, Repr

/-- The kinds of motion (R43). -/
inductive MotionKind where
  | index
  | learn
  | forward
  | back
deriving DecidableEq, Repr

/-- The motion record (R43). -/
structure Motion where
  kind : MotionKind
  origin : Mask
  target : Int
  sample : Option Int
deriving DecidableEq, Repr

/-- The fault causes, in the order of the STATUS body (R191). -/
inductive Cause where
  | stopped
  | aborted
  | stationFault (k : Nat)
  | driveFault
  | liftTimeout
  | carryTimeout
  | overtravel
  | encoderRange
  | stopMiss
  | seat
  | tracking
  | config
  | homeTimeout
deriving DecidableEq, Repr

/-- What STOP_MISS and SEAT record (R54, R60). -/
structure SeatCheck where
  sample : Int
  target : Int
  missing : Mask
  unexpected : Mask
deriving DecidableEq, Repr

/-- The current or last fault (R60). -/
structure FaultRecord where
  cause : Cause
  check : Option SeatCheck
  kind : Option MotionKind
  stamp : Clock
deriving DecidableEq, Repr

/-- A timer with a fixed limit, in milliseconds. -/
structure Timer where
  elapsed : Nat
  limit : Nat
deriving DecidableEq, Repr

/-- The Index Controller (IXC): the record of R43 and the motion timers of R52. The motion-pending flag is the
presence of the motion record. `configDue` is the CONFIG fault of R165 that waits for the end of the advance. -/
structure Ixc where
  state : IxcState
  runMode : RunMode
  motion : Option Motion
  haltRequested : Bool
  indexPending : Bool
  learnArmed : Bool
  lineHold : Bool
  currentFault : Option FaultRecord
  lastFault : Option FaultRecord
  driveJoined : Bool
  driveFaulted : Bool
  liftTimer : Option Timer
  carryTimer : Option Timer
  sweepTimer : Option Timer
  settleTimer : Option Timer
  configDue : Bool
deriving DecidableEq, Repr

/-! ### Bar Tracker (chapter 6) -/

/-- Entry-capture states (R131). -/
inductive CaptureState where
  | idle
  | awaitDeparture
  | armed
  | captured
  | noEntry
deriving DecidableEq, Repr

/-- An entry-capture record (R131). -/
structure EntryCapture where
  state : CaptureState
  entry : Option Int
  drift : Option Int
  largest : Nat
deriving DecidableEq, Repr

/-- The Bar Tracker (BTK): the counter values of R121, the captures of positions 1 to 15 (place k−1), the home
timer (R136) and whether the tighter limit of R128 has been taken up in RESEAT. -/
structure Btk where
  counter : Int
  saturated : Bool
  transitionErrors : Nat
  lastHomeError : Option Int
  largestHomeError : Nat
  captures : List EntryCapture
  homeTimer : Option Timer
  reseatTight : Bool
deriving DecidableEq, Repr

/-! ### Window Learn Unit (chapter 7) -/

/-- States of the learn result record (R140); `absent` is NONE. -/
inductive LearnState where
  | absent
  | inProgress
  | applied
  | held
  | accepted
  | discarded
  | failed
  | aborted
deriving DecidableEq, Repr

/-- Why a learn failed (R140, R144). -/
inductive LearnFailure where
  | position
  | noWindow
  | disjoint
  | outside
deriving DecidableEq, Repr

/-- What ended an aborted learn (R140). -/
inductive AbortCause where
  | fault (cause : Cause)
  | lineReset
deriving DecidableEq, Repr

/-- The learn settings (R139). -/
structure LearnSettings where
  start : Int
  sweepMargin : Int
  limit : Int
  bias : Int
  minWidth : Int
  driftLimit : Int
  extend : Bool
deriving DecidableEq, Repr

/-- Sweep-capture states (R141). -/
inductive SweepState where
  | notExpected
  | awaitDeparture
  | armed
  | risen
  | fallen
deriving DecidableEq, Repr

/-- Per-position outcomes of a sweep (R143). -/
inductive SweepOutcome where
  | window
  | narrow
  | stillOpen
  | noArrival
  | noDeparture
  | notExpected
deriving DecidableEq, Repr

/-- A per-position entry of the learn result record (R140). -/
structure SweepEntry where
  expected : Bool
  capture : SweepState
  low : Option Int
  high : Option Int
  outcome : Option SweepOutcome
deriving DecidableEq, Repr

/-- The learn result record (R140). `entries` holds positions 1 to 15 at places 0 to 14 and is empty before the
first learn. `intersection` is L* and U*, `candidate` q(C + bias) and Tnew, `margins` Tnew − L* and U* − Tnew. -/
structure LearnRecord where
  state : LearnState
  failure : Option LearnFailure
  abortCause : Option AbortCause
  settings : Option LearnSettings
  startTime : Option Clock
  endTime : Option Clock
  entries : List SweepEntry
  intersection : Option (Int × Int)
  centre : Option Int
  candidate : Option (Int × Int)
  margins : Option (Int × Int)
  drift : Option Int
  resulting : Option Int
deriving DecidableEq, Repr

/-- The outcome of the computation of R144. -/
inductive LearnOutcome where
  | applied
  | held
  | failed (reason : LearnFailure)
deriving DecidableEq, Repr

/-- The Window Learn Unit (WLU): the learn result record and the outcome held until the learn write (R144, R145). -/
structure Wlu where
  record : LearnRecord
  outcome : Option LearnOutcome
deriving DecidableEq, Repr

/-! ### Cycle Timer (chapter 9) and the start timers (R86) -/

/-- The classes of gating source (R47, R175). -/
inductive Gate where
  | position (k : Nat)
  | home
  | supervisor
  | drive
  | stop
deriving DecidableEq, Repr

/-- A position's work timer (R169, R171, R172): the value while running, the limit, the overrun-taken flag. -/
structure WorkTimer where
  running : Option Nat
  limit : Option Nat
  overrunTaken : Bool
deriving DecidableEq, Repr

/-- A position's statistics (R169, R172, R175). -/
structure WorkStats where
  last : Option Nat
  longest : Option Nat
  overruns : Nat
  gating : Nat
deriving DecidableEq, Repr

/-- Last, shortest and longest value of a measured time (R173, R174). -/
structure Span where
  last : Option Nat
  shortest : Option Nat
  longest : Option Nat
deriving DecidableEq, Repr

/-- The Cycle Timer (CTM) and, beside its work timers, the start timers of R86 (their value while running). The recovered mark
of the last index time is absent with that time (R177). -/
structure Ctm where
  clock : Clock
  startTimers : List (Option Nat)
  work : List WorkTimer
  stats : List WorkStats
  indexTimer : Option Nat
  indexRecovered : Bool
  indexTimes : Span
  lastIndexRecovered : Option Bool
  cycleTimer : Option Nat
  cycleTimes : Span
  advances : Nat
  gateHome : Nat
  gateSupervisor : Nat
  gateDrive : Nat
  gateStop : Nat
  lastGate : Option (Gate × Clock)
deriving DecidableEq, Repr

/-! ### Access Arbiter (chapter 8) -/

/-- An entry of the IXC work list (R156). -/
inductive WorkItem where
  | advance
  | learnWrite
  | startExpiry (k : Nat)
deriving DecidableEq, Repr

/-- The Access Arbiter (AAR): the round-robin pointer (R154) and the IXC work list (R156). -/
structure Aar where
  pointer : Link
  workList : List WorkItem
deriving DecidableEq, Repr

/-! ### Links and the attention set (chapter 10) -/

/-- What LEARN_DONE carries (R145, R146, R147). -/
inductive LearnReport where
  | applied
  | held
  | failed (reason : LearnFailure)
  | aborted (cause : Cause)
deriving DecidableEq, Repr

/-- The fourteen acknowledgeable attentions (R186). The two reflecting ones follow their conditions and are
computed from them. -/
structure Attentions where
  fault : Option Cause
  overrun : Mask
  locatorDrift : Mask
  homeDrift : Option Int
  learnDone : Option LearnReport
  logFull : Option Nat
  scheduleEmpty : Bool
  orderSlip : Option (Nat × Nat)
  unknownPallet : Option Nat
  fixtureMismatch : Option (Nat × Nat)
  duplicateSerial : Option Nat
  maintenanceOut : Option Nat
  storeCorrected : Option CellName
  storeDamaged : Option CellName
deriving DecidableEq, Repr

/-- The status content of R187 and R191. -/
structure StatusContent where
  ixc : IxcState
  fault : Option FaultRecord
  motionPending : Bool
  attentions : Attentions
  positionFault : Mask
  logPending : Bool
deriving DecidableEq, Repr

/-- The content of an ORDER frame (R191). -/
structure OrderFrame where
  position : Nat
  number : Nat
  kind : OrderKind
  program : Option Nat
  pallet : Option Nat
  workpiece : Option (Serial × Nat × Nat)
  instruction : Option Instruction
deriving DecidableEq, Repr

/-- The step of a MOTION frame (R127). -/
inductive MotionStep where
  | start
  | reseat
deriving DecidableEq, Repr

/-- The sense of an overtravel limit (R191). -/
inductive LimitSense where
  | upper
  | lower
deriving DecidableEq, Repr

/-- The content of a MOTION frame (R127, R191). -/
structure MotionFrame where
  step : MotionStep
  kind : MotionKind
  target : Int
  stopBand : Int
  limit : Int
  sense : LimitSense
deriving DecidableEq, Repr

/-- An unsolicited frame (R185). -/
inductive Unsolicited where
  | order (f : OrderFrame)
  | motion (f : MotionFrame)
  | status (sequence : Nat) (content : StatusContent)
deriving DecidableEq, Repr

/-- The reasons of a refusal, in the order of their codes (R184). -/
inductive Reason where
  | wrongState
  | staleOrder
  | unknownPallet
  | duplicatePallet
  | duplicate
  | tableFull
  | queueFull
  | logFull
  | range
  | notPermitted
  | notInLine
  | notJoined
  | lineRunning
  | programUnknown
  | routingMismatch
  | geometryAbsent
  | trackingIncomplete
deriving DecidableEq, Repr

/-- The result of a response (R184). -/
inductive ResponseResult where
  | ok
  | accepted
  | busy
  | refused (reason : Reason)
deriving DecidableEq, Repr

/-- A response (R184). -/
structure Response where
  tag : Byte
  result : ResponseResult
  data : List Byte
deriving DecidableEq, Repr

/-- What a transmitter is sending (R185). -/
inductive Outgoing where
  | response (r : Response)
  | unsolicited (f : Unsolicited)
deriving DecidableEq, Repr

/-- The receiver of a link: HUNTING, or IN_FRAME with the bytes received after the preamble (R179, R181). -/
inductive Receiver where
  | hunting
  | inFrame (bytes : List Byte)
deriving DecidableEq, Repr

/-- The record of one link (R179) and what its transmitter is sending (R185). The request in the slot is held as
the command that its grant is. -/
structure LinkRecord where
  receiver : Receiver
  slot : Option Instr
  responses : List Response
  unsolicited : Option Unsolicited
  sending : Option Outgoing
  errorCount : Nat
  busyCount : Nat
deriving DecidableEq, Repr

/-- The Link Interface Unit (LIU): link records in the order SL0 to SL15, SUPL, DRVL, the attention set and the
status sequence number (R179, R186, R187). -/
structure Liu where
  links : List LinkRecord
  attentions : Attentions
  sequence : Nat
deriving DecidableEq, Repr

/-! ### Wired inputs (chapter "Parties and links", R1) -/

/-- The wired inputs as filtered: HOME, IP0 to IP15, LINE STOP, the RESET input, and the two encoder channels.
The two permit outputs follow their level rules and are computed. -/
structure Pins where
  home : Bool
  ip : Mask
  lineStop : Bool
  resetInput : Bool
  encoderA : Bool
  encoderB : Bool
deriving DecidableEq, Repr

/-- The state of the BX16 and the queue of the commands that wait, first in, first out. -/
structure State where
  rst : Rst
  ixc : Ixc
  btk : Btk
  wlu : Wlu
  ctm : Ctm
  aar : Aar
  liu : Liu
  pins : Pins
  pending : List Instr
deriving DecidableEq, Repr

/-! ### Values after device reset -/

/-- R10, right-hand column. -/
def Position.reset : Position :=
  { kind := .unused, mode := .active, joined := none, occupant := .empty, phase := .idle, faultCode := none,
    orderNumber := 0, orderKind := .noOrder, program := none, instruction := none, hold := false }

/-- R75, column "After device reset". -/
def OrderDetail.reset : OrderDetail :=
  { copyNumber := 0, copyKind := .noOrder, closing := .noOrder, resultTaken := none, faultReport := none, faultCount := 0 }

/-- R167 and R193: every cell of the store at its device-reset value. -/
def Rst.reset : Rst :=
  { geometry := none, unconfirmed := false, transfer := none,
    positions := List.replicate 16 Position.reset, details := List.replicate 16 OrderDetail.reset,
    slots := List.replicate 64 none, returnQueue := [], schedule := [],
    log := [], logHead := 0, recordCounter := 0, lastFetched := none,
    routing := List.replicate 128 0, budgets := List.replicate 240 0, windows := List.replicate 15 none,
    errors := [], corrections := 0, damages := 0, lastCorrected := none, lastDamaged := none,
    walk := ⟨.geometry, 0⟩ }

/-- R43, column "After device reset". -/
def Ixc.reset : Ixc :=
  { state := .halt, runMode := .step, motion := none, haltRequested := false, indexPending := false,
    learnArmed := false, lineHold := false, currentFault := none, lastFault := none, driveJoined := false,
    driveFaulted := false, liftTimer := none, carryTimer := none, sweepTimer := none, settleTimer := none,
    configDue := false }

/-- R131, column "After device reset". -/
def EntryCapture.reset : EntryCapture := { state := .idle, entry := none, drift := none, largest := 0 }

/-- R121, R131 and R137. -/
def Btk.reset : Btk :=
  { counter := 0, saturated := false, transitionErrors := 0, lastHomeError := none, largestHomeError := 0,
    captures := List.replicate 15 EntryCapture.reset, homeTimer := none, reseatTight := false }

/-- R140: state NONE with every other field absent. -/
def LearnRecord.reset : LearnRecord :=
  { state := .absent, failure := none, abortCause := none, settings := none, startTime := none, endTime := none,
    entries := [], intersection := none, centre := none, candidate := none, margins := none, drift := none, resulting := none }

/-- R153. -/
def Wlu.reset : Wlu := { record := LearnRecord.reset, outcome := none }

/-- R178: work timers stopped with the overrun-taken flag clear. -/
def WorkTimer.reset : WorkTimer := { running := none, limit := none, overrunTaken := false }

/-- R178: statistics absent, counts 0. -/
def WorkStats.reset : WorkStats := { last := none, longest := none, overruns := 0, gating := 0 }

/-- R178. -/
def Span.reset : Span := { last := none, shortest := none, longest := none }

/-- R178. -/
def Ctm.reset : Ctm :=
  { clock := 0#32, startTimers := List.replicate 16 none, work := List.replicate 16 WorkTimer.reset,
    stats := List.replicate 16 WorkStats.reset, indexTimer := none, indexRecovered := false,
    indexTimes := Span.reset, lastIndexRecovered := none, cycleTimer := none, cycleTimes := Span.reset,
    advances := 0, gateHome := 0, gateSupervisor := 0, gateDrive := 0, gateStop := 0, lastGate := none }

/-- R154, R156. -/
def Aar.reset : Aar := { pointer := .sl 0, workList := [] }

/-- R186: every attention absent, the masks empty. -/
def Attentions.reset : Attentions :=
  { fault := none, overrun := 0#16, locatorDrift := 0#16, homeDrift := none, learnDone := none, logFull := none,
    scheduleEmpty := false, orderSlip := none, unknownPallet := none, fixtureMismatch := none,
    duplicateSerial := none, maintenanceOut := none, storeCorrected := none, storeDamaged := none }

/-- R187: state HALT and an empty attention set. -/
def StatusContent.reset : StatusContent :=
  { ixc := .halt, fault := none, motionPending := false, attentions := Attentions.reset, positionFault := 0#16,
    logPending := false }

/-- R179, column "After device reset". -/
def LinkRecord.reset : LinkRecord :=
  { receiver := .hunting, slot := none, responses := [], unsolicited := none, sending := none, errorCount := 0,
    busyCount := 0 }

/-- R179 and R187: every link idle, and on SUPL the STATUS frame with sequence number 0. -/
def Liu.reset : Liu :=
  { links := List.replicate 16 LinkRecord.reset ++
      [{ LinkRecord.reset with unsolicited := some (.status 0 StatusContent.reset) }, LinkRecord.reset],
    attentions := Attentions.reset, sequence := 0 }

/-- The filtered HOME level starts inactive (R123); the other levels are the model's choice (assumption 1). -/
def Pins.reset : Pins :=
  { home := false, ip := 0#16, lineStop := false, resetInput := false, encoderA := false, encoderB := false }

/-- The BX16 right after device reset (R193), with no command waiting. -/
def State.reset : State :=
  { rst := Rst.reset, ixc := Ixc.reset, btk := Btk.reset, wlu := Wlu.reset, ctm := Ctm.reset, aar := Aar.reset,
    liu := Liu.reset, pins := Pins.reset, pending := [] }

end Sys2Proof.Machine
end

