-- ==== Sys2Proof/Machine/Ops.lean ====
section
/-! DEFINITION. The named operations on the state that every command shares: one update per block, saturating
counts, masks, positions, pallets and their locations, disposition and history, links, and the target arithmetic. -/

namespace Sys2Proof

/-! ### Severity and the cyclic order of the links -/

/-- Severity (R28). -/
def Disposition.severity : Disposition → Nat
  | .good => 0 | .rework => 1 | .suspect => 2 | .reject => 3

/-- To raise a disposition to `e` is to set it to the more severe of the two (R28). -/
def Disposition.raise (d e : Disposition) : Disposition := if d.severity < e.severity then e else d

/-- A link's place in the order SL0 to SL15, SUPL, DRVL. -/
def Link.place : Link → Nat
  | .sl k => k.val
  | .supl => 16
  | .drvl => 17

/-- The link at a place of the cyclic order (R154). -/
def Link.at (i : Nat) : Link := if h : i < 16 then .sl ⟨i, h⟩ else if i = 16 then .supl else .drvl

/-- The slot after a link's in the cyclic order; after DRVL comes SL0 (R154). -/
def Link.next (l : Link) : Link := Link.at ((l.place + 1) % 18)

/-- A link's position, when it is a station link. -/
def Link.station : Link → Option Nat
  | .sl k => some k.val
  | .supl => none
  | .drvl => none

end Sys2Proof

namespace Sys2Proof.Machine

/-! ### One update per block -/

/-- Update the Record Store. -/
def State.onRst (s : State) (f : Rst → Rst) : State := { s with rst := f s.rst }
/-- Update the Index Controller. -/
def State.onIxc (s : State) (f : Ixc → Ixc) : State := { s with ixc := f s.ixc }
/-- Update the Bar Tracker. -/
def State.onBtk (s : State) (f : Btk → Btk) : State := { s with btk := f s.btk }
/-- Update the Window Learn Unit. -/
def State.onWlu (s : State) (f : Wlu → Wlu) : State := { s with wlu := f s.wlu }
/-- Update the Cycle Timer. -/
def State.onCtm (s : State) (f : Ctm → Ctm) : State := { s with ctm := f s.ctm }
/-- Update the Access Arbiter. -/
def State.onAar (s : State) (f : Aar → Aar) : State := { s with aar := f s.aar }
/-- Update the Link Interface Unit. -/
def State.onLiu (s : State) (f : Liu → Liu) : State := { s with liu := f s.liu }
/-- Update the wired inputs. -/
def State.onPins (s : State) (f : Pins → Pins) : State := { s with pins := f s.pins }

/-! ### Counts, clamps and masks -/

/-- A counter stops at its maximum value instead of wrapping (R2). -/
def countUp (top n : Nat) : Nat := if n < top then n + 1 else n

/-- A numeric setting is clamped into its range (R2). -/
def clampInt (lo hi x : Int) : Int := min (max x lo) hi

/-- Member `k` of a set (R192). -/
def member (m : Mask) (k : Nat) : Bool := m.getLsbD k

/-- The set of the members 0 to 15 for which `p` holds. -/
def maskOf (p : Nat → Bool) : Mask :=
  (List.range 16).foldl (fun m k => if p k then m ||| (1#16 <<< k) else m) 0#16

/-- A set with member `k` added. -/
def withMember (m : Mask) (k : Nat) : Mask := m ||| (1#16 <<< k)

/-- Whether some member of 0 to `n`−1 has the property. -/
def anyBelow (n : Nat) (p : Nat → Bool) : Bool := (List.range n).any p

/-- Whether every member of 0 to `n`−1 has the property. -/
def allBelow (n : Nat) (p : Nat → Bool) : Bool := (List.range n).all p

/-! ### Geometry and targets -/

/-- N, the number of positions in the line; 0 while the geometry record is absent (R3). -/
def State.count (s : State) : Nat := match s.rst.geometry with | none => 0 | some g => g.count

/-- Quantizing: q(x) = Q × floor((x + floor(Q/2)) ÷ Q) (R124). -/
def Geometry.quantize (g : Geometry) (x : Int) : Int :=
  (g.resolution : Int) * ((x + (g.resolution : Int) / 2) / (g.resolution : Int))

/-- Tlo, the smallest multiple of Q not less than P − floor(P/4) (R3, R124). -/
def Geometry.tlo (g : Geometry) : Int :=
  (g.resolution : Int) * (((g.pitch : Int) - (g.pitch : Int) / 4 + ((g.resolution : Int) - 1)) / (g.resolution : Int))

/-- Thi, the largest multiple of Q not greater than P + floor(P/4) (R3, R124). -/
def Geometry.thi (g : Geometry) : Int :=
  (g.resolution : Int) * (((g.pitch : Int) + (g.pitch : Int) / 4) / (g.resolution : Int))

/-- Placing x gives min(max(q(x), Tlo), Thi) (R124). -/
def Geometry.place (g : Geometry) (x : Int) : Int := min (max (g.quantize x) g.tlo) g.thi

/-- The defaults of the staged settings for a pitch (R7). -/
def Geometry.defaults (g : Geometry) : Staged :=
  { target := g.place g.pitch, stopBand := 40, overtravel := (g.pitch : Int) / 20, sweepMargin := (g.pitch : Int) / 8,
    bias := 0, minWidth := 100, driftLimit := 200, entryTolerance := 150, homeTolerance := 50, extend := false,
    settleTime := 100, liftTimeout := 3000, carryTimeout := 8000, sweepTimeout := 60000, homeTimeout := 8000 }

/-- What a copy reads as while no setting holds a value; no rule consults it then (R7). -/
def Staged.blank : Staged :=
  { target := 0, stopBand := 0, overtravel := 0, sweepMargin := 0, bias := 0, minWidth := 0, driftLimit := 0,
    entryTolerance := 0, homeTolerance := 0, extend := false, settleTime := 0, liftTimeout := 0, carryTimeout := 0,
    sweepTimeout := 0, homeTimeout := 0 }

/-- The working copy of the settings. -/
def State.working (s : State) : Staged := match s.rst.transfer with | none => Staged.blank | some t => t.working

/-- The pending copy of the settings. -/
def State.staged (s : State) : Staged := match s.rst.transfer with | none => Staged.blank | some t => t.pending

/-- T placed from P and OT and SM clamped into the ranges of P, in one copy (R6, R165). -/
def Staged.refit (g : Geometry) (x : Staged) : Staged :=
  { x with target := g.place g.pitch,
           overtravel := clampInt 10 ((g.pitch : Int) / 4) x.overtravel,
           sweepMargin := clampInt ((g.pitch : Int) / 20) ((g.pitch : Int) / 4) x.sweepMargin }

/-! ### Positions -/

/-- The position table entry of position `k`. -/
def State.pos (s : State) (k : Nat) : Position := s.rst.positions.getD k Position.reset
/-- Update the entry of position `k`. -/
def State.onPos (s : State) (k : Nat) (f : Position → Position) : State :=
  s.onRst fun r => { r with positions := r.positions.modify k f }
/-- The order detail record of position `k`. -/
def State.detail (s : State) (k : Nat) : OrderDetail := s.rst.details.getD k OrderDetail.reset
/-- Update the order detail record of position `k`. -/
def State.onDetail (s : State) (k : Nat) (f : OrderDetail → OrderDetail) : State :=
  s.onRst fun r => { r with details := r.details.modify k f }

/-- Whether position `k` is in mode ACTIVE. -/
def State.active (s : State) (k : Nat) : Bool := (s.pos k).mode == .active
/-- Whether position `k` is UNUSED. -/
def State.unused (s : State) (k : Nat) : Bool := (s.pos k).kind == .unused
/-- Write the occupant of position `k` (R12). -/
def State.setOccupant (s : State) (k : Nat) (o : Occupant) : State := s.onPos k fun p => { p with occupant := o }
/-- The number of the pallet that is position `k`'s occupant. -/
def State.palletAt (s : State) (k : Nat) : Option Nat :=
  match (s.pos k).occupant with | .pallet n => some n | _ => none

/-- The positions 0 to N−1 whose occupant is a pallet (R48). -/
def State.palletMask (s : State) : Mask := maskOf fun k => decide (k < s.count) && (s.palletAt k).isSome
/-- The positions 0 to N−1 whose occupant is UNKNOWN. -/
def State.unknownMask (s : State) : Mask := maskOf fun k => decide (k < s.count) && ((s.pos k).occupant == .unknown)

/-- The phases in which an order is outstanding. -/
def Phase.outstanding (p : Phase) : Bool := p == .ordered || p == .working

/-! ### Pallets and locations (R20, R22) -/

/-- The record of a pallet number. -/
def State.pallet (s : State) (n : Nat) : Option Pallet :=
  (s.rst.slots.find? fun o => o.any fun p => p.number == n).join
/-- Update the record of a pallet number. -/
def State.onPallet (s : State) (n : Nat) (f : Pallet → Pallet) : State :=
  s.onRst fun r => { r with slots := r.slots.map fun o => o.map fun p => if p.number = n then f p else p }
/-- Update the workpiece of a pallet number, where it has one. -/
def State.onWorkpiece (s : State) (n : Nat) (f : Workpiece → Workpiece) : State :=
  s.onPallet n fun p => { p with workpiece := p.workpiece.map f }
/-- The workpiece of a pallet number. -/
def State.workpiece (s : State) (n : Nat) : Option Workpiece := (s.pallet n).bind (·.workpiece)
/-- The registered records in ascending pallet number (R20). -/
def State.palletsAscending (s : State) : List Pallet := (List.range 256).filterMap fun n => s.pallet n
/-- How many records the pallet table holds. -/
def State.palletCount (s : State) : Nat := (s.rst.slots.filter Option.isSome).length

/-- A pallet's derived location (R22). -/
inductive Location where
  | position (k : Nat)
  | queue (place : Nat)
  | out
deriving DecidableEq, Repr

/-- The position a pallet is the occupant of. -/
def State.positionOf (s : State) (n : Nat) : Option Nat :=
  (List.range 16).find? fun k => (s.pos k).occupant == .pallet n
/-- A pallet's place in the return queue, from 0 at the head. -/
def State.queuePlace (s : State) (n : Nat) : Option Nat := s.rst.returnQueue.findIdx? (· == n)
/-- R22: POSITION k, RETURN with the place, or OUT. -/
def State.location (s : State) (n : Nat) : Location :=
  match s.positionOf n with
  | some k => .position k
  | none => match s.queuePlace n with | some i => .queue i | none => .out

/-- Maintenance due, evaluated afresh (R23). -/
def State.maintenanceDue (s : State) (p : Pallet) : Bool :=
  match s.rst.geometry with
  | none => false
  | some g => decide (g.service ≤ p.clamps) || p.damaged

/-- A serial is valid when it holds 1 to 16 characters, each A to Z, 0 to 9 or the hyphen (R27). -/
def validSerial (cs : List Byte) : Bool :=
  decide (1 ≤ cs.length) && decide (cs.length ≤ 16) &&
    cs.all fun c => (decide (65 ≤ c.toNat) && decide (c.toNat ≤ 90)) || (decide (48 ≤ c.toNat) && decide (c.toNat ≤ 57)) || c.toNat == 45

/-- Whether a live workpiece other than the pallet's own carries the serial (R27). -/
def State.serialTaken (s : State) (n : Nat) (cs : List Byte) : Bool :=
  s.rst.slots.any fun o => o.any fun p => p.number != n && p.workpiece.any fun w => w.serial == .text cs

/-! ### Disposition and history (R28 to R33) -/

/-- The disposition a history result implies, by pass (R29). -/
def HistoryResult.implied (r : HistoryResult) (pass : Nat) : Option Disposition :=
  match r with
  | .done | .passed => none
  | .incomplete | .missed => if pass = 1 then some .rework else some .reject
  | .scrapped | .failed => some .reject
  | .abandoned => some .suspect

/-- Whether an entry names the position and the pass (R32). -/
def HistoryEntry.names (e : HistoryEntry) (position pass : Nat) : Bool :=
  match e with
  | .outcome k _ q _ _ => k == position && q == pass
  | .lost => false

/-- Record a history result for a workpiece: the append rule of R32, and the raise of R29 in every case. -/
def Workpiece.record (w : Workpiece) (position program : Nat) (r : HistoryResult) (workTime : Option Nat) : Workpiece :=
  { w with
    history :=
      if w.history.any (·.names position w.pass) || decide (28 ≤ w.history.length) then w.history
      else w.history ++ [.outcome position program w.pass r workTime]
    disposition := match r.implied w.pass with | none => w.disposition | some d => w.disposition.raise d }

/-- Raise the disposition of a workpiece (R28). -/
def Workpiece.raiseTo (d : Disposition) (w : Workpiece) : Workpiece := { w with disposition := w.disposition.raise d }

/-! ### Tables -/

/-- The routing entry of a variant at a position (R72). -/
def State.routing (s : State) (variant position : Nat) : Nat := s.rst.routing.getD ((variant - 1) * 16 + position) 0
/-- The budget of a position and program (R170). -/
def State.budget (s : State) (position program : Nat) : Nat := s.rst.budgets.getD (position * 15 + (program - 1)) 0
/-- The window of a position 1 to 15 (R151). -/
def State.window (s : State) (k : Nat) : Option Window := if k = 0 then none else s.rst.windows.getD (k - 1) none

/-- The budget tolerance; while the geometry record is absent none exists (R171). -/
def State.tolerance (s : State) : Option Nat := s.rst.transfer.map (·.budgetTolerance)

/-- The limit of a budget b: b + floor(b × tolerance ÷ 100); a budget of 0 has none (R171). -/
def budgetLimit (tolerance : Option Nat) (b : Nat) : Option Nat :=
  match tolerance with
  | none => none
  | some t => if b = 0 then none else some (b + b * t / 100)

/-! ### Timers -/

/-- Position `k`'s work timer. -/
def State.work (s : State) (k : Nat) : WorkTimer := s.ctm.work.getD k WorkTimer.reset
/-- Position `k`'s start timer while it runs. -/
def State.startTimer (s : State) (k : Nat) : Option Nat := s.ctm.startTimers.getD k none
/-- Position `k`'s statistics. -/
def State.stats (s : State) (k : Nat) : WorkStats := s.ctm.stats.getD k WorkStats.reset
/-- Update position `k`'s work timer. -/
def State.onWork (s : State) (k : Nat) (f : WorkTimer → WorkTimer) : State :=
  s.onCtm fun c => { c with work := c.work.modify k f }
/-- Update position `k`'s statistics. -/
def State.onStats (s : State) (k : Nat) (f : WorkStats → WorkStats) : State :=
  s.onCtm fun c => { c with stats := c.stats.modify k f }
/-- Start or stop position `k`'s start timer. -/
def State.setStartTimer (s : State) (k : Nat) (t : Option Nat) : State :=
  s.onCtm fun c => { c with startTimers := c.startTimers.set k t }
/-- Stop both timers of position `k`; the overrun-taken flag keeps its value (R169, R172). -/
def State.stopTimers (s : State) (k : Nat) : State :=
  (s.setStartTimer k none).onWork k fun w => { w with running := none, limit := none }

/-- Take a value into the last, shortest and longest of a measured time (R173, R174). -/
def Span.take (x : Span) (v : Nat) : Span :=
  { last := some v
    shortest := some (match x.shortest with | none => v | some a => min a v)
    longest := some (match x.longest with | none => v | some a => max a v) }

/-! ### Links -/

/-- The record of a link. -/
def State.link (s : State) (l : Link) : LinkRecord := s.liu.links.getD l.place LinkRecord.reset
/-- Update the record of a link. -/
def State.onLink (s : State) (l : Link) (f : LinkRecord → LinkRecord) : State :=
  s.onLiu fun u => { u with links := u.links.modify l.place f }

/-- The outstanding flag: set while the slot's request awaits its grant (R179). -/
def LinkRecord.outstanding (r : LinkRecord) : Bool := r.slot.isSome

/-- Post a frame into a link's unsolicited slot, replacing an unsent one (R185). -/
def State.post (s : State) (l : Link) (f : Unsolicited) : State := s.onLink l fun r => { r with unsolicited := some f }

/-! ### Motion predicates -/

/-- The five motion states (chapter 3.1). -/
def IxcState.moving : IxcState → Bool
  | .permit | .carry | .sweep | .reseat | .settle => true
  | .halt | .collect | .advance | .fault => false

/-- The kind of the motion that is pending. -/
def State.motionKind (s : State) : Option MotionKind := s.ixc.motion.map (·.kind)

/-! ### The IXC work list (R156) -/

/-- An operation joins the IXC work list at its tail. -/
def State.queueWork (s : State) (w : WorkItem) : State := s.onAar fun a => { a with workList := a.workList ++ [w] }
/-- Each IXC grant removes the entry at the head of the list. -/
def State.popWork (s : State) : State := s.onAar fun a => { a with workList := a.workList.tail }
/-- The advance and the learn write are withdrawn; start-timer expiries stay. -/
def State.withdrawWork (s : State) : State :=
  s.onAar fun a => { a with workList := a.workList.filter fun w => w != .advance && w != .learnWrite }

/-! ### Cells that a write renews (R159) -/

/-- Every write of a cell writes its check code with it: an error the cell held is gone. -/
def State.rewriteCells (s : State) (cells : List Cell) : State :=
  s.onRst fun r => { r with errors := r.errors.filter fun e => !cells.contains e.1 }

/-- The seventeen cells of a pallet slot (R158). -/
def slotCells (i : Nat) : List Cell := (List.range 17).map fun j => ⟨.palletSlot, 17 * i + j⟩
/-- The seventeen cells of a log place; place 32 is the last-fetched copy (R158). -/
def logCells (place : Nat) : List Cell := (List.range 17).map fun j => ⟨.log, 1 + 17 * place + j⟩
/-- The nine transfer cells (R158). -/
def transferCells : List Cell := (List.range 9).map fun i => ⟨.transfer, i⟩
/-- The window cells (R158). -/
def windowCells : List Cell := (List.range 15).map fun i => ⟨.window, i⟩
/-- The slot that holds a pallet's record. -/
def State.slotOf (s : State) (n : Nat) : Option Nat := s.rst.slots.findIdx? fun o => o.any fun p => p.number == n

end Sys2Proof.Machine
end

