-- ==== Sys2Proof/Machine/Flags.lean ====
section
/-! DEFINITION. The flags the block drives or reports: the two permits (R44, R135), the attention set with its two
reflecting attentions (R186), the status content and the posting of STATUS frames (R187). -/

namespace Sys2Proof.Machine

/-! ### Permits -/

/-- LIFT PERMIT is asserted while the IXC is in PERMIT, CARRY, SWEEP or RESEAT and LINE STOP is inactive (R44);
it is off while the device is held in reset (R193). -/
def State.liftPermit (s : State) : Bool :=
  (match s.ixc.state with
    | .permit | .carry | .sweep | .reseat => true
    | .halt | .collect | .settle | .advance | .fault => false) && !s.pins.lineStop && !s.pins.resetInput

/-- RETURN PERMIT is asserted while the IXC is in COLLECT, HOME is inactive and LINE STOP is inactive (R135); it is
off while the device is held in reset (R193). -/
def State.returnPermit (s : State) : Bool :=
  s.ixc.state == .collect && !s.pins.home && !s.pins.lineStop && !s.pins.resetInput

/-! ### The attention set -/

/-- Change the acknowledgeable attentions. -/
def State.attend (s : State) (f : Attentions → Attentions) : State :=
  s.onLiu fun u => { u with attentions := f u.attentions }

/-- The attentions as they stand. -/
def State.attentions (s : State) : Attentions := s.liu.attentions

/-- POSITION_FAULT: the positions 0 to N−1 in phase FAULT (R93, R186). -/
def State.positionFaultMask (s : State) : Mask := maskOf fun k => decide (k < s.count) && (s.pos k).phase == .fault

/-- LOG_PENDING: the log holds at least one record (R117, R186). -/
def State.logPending (s : State) : Bool := !s.rst.log.isEmpty

/-- The status content of R187: the IXC state, the current fault, the motion-pending flag and the attention set. -/
def State.statusContent (s : State) : StatusContent :=
  { ixc := s.ixc.state, fault := s.ixc.currentFault, motionPending := s.ixc.motion.isSome,
    attentions := s.attentions, positionFault := s.positionFaultMask, logPending := s.logPending }

/-- The status sequence number goes up by 1, and from 65,535 to 1 (R187). -/
def nextSequence (n : Nat) : Nat := if n < 65535 then n + 1 else 1

/-- Increase the status sequence number and post a STATUS frame with the content as it stands (R187). -/
def State.postStatus (s : State) : State :=
  (s.onLiu fun u => { u with sequence := nextSequence u.sequence }).post .supl
    (.status (nextSequence s.liu.sequence) s.statusContent)

/-- The end of an event or grant that began in `before`: a change of the status content posts one STATUS frame,
with the content at the end (R187). -/
def State.closeEvent (before s : State) : State :=
  if s.statusContent = before.statusContent then s else s.postStatus

/-- SCHEDULE_EMPTY is raised by a grant that leaves the schedule empty when it was not (R98). -/
def State.noteSchedule (before s : State) : State :=
  if s.rst.schedule.isEmpty && !before.rst.schedule.isEmpty then s.attend fun a => { a with scheduleEmpty := true } else s

/-- The sixteen attentions in the order of the table of R186: whether each is present. -/
def StatusContent.present (c : StatusContent) : List Bool :=
  [c.attentions.fault.isSome, c.positionFault != 0#16, c.attentions.overrun != 0#16, c.attentions.locatorDrift != 0#16,
   c.attentions.homeDrift.isSome, c.attentions.learnDone.isSome, c.logPending, c.attentions.logFull.isSome,
   c.attentions.scheduleEmpty, c.attentions.orderSlip.isSome, c.attentions.unknownPallet.isSome,
   c.attentions.fixtureMismatch.isSome, c.attentions.duplicateSerial.isSome, c.attentions.maintenanceOut.isSome,
   c.attentions.storeCorrected.isSome, c.attentions.storeDamaged.isSome]

/-- Whether a set of attentions names the attention at place `i` of the table of R186: the first attention is the
most significant bit of the first byte (R191, R192). -/
def namesAttention (m : Mask) (i : Nat) : Bool := m.getLsbD (15 - i)

/-- The attentions with those named by a set cleared: their values are discarded and their masks emptied (R189). -/
def Attentions.clearNamed (a : Attentions) (m : Mask) : Attentions :=
  { fault := if namesAttention m 0 then none else a.fault
    overrun := if namesAttention m 2 then 0#16 else a.overrun
    locatorDrift := if namesAttention m 3 then 0#16 else a.locatorDrift
    homeDrift := if namesAttention m 4 then none else a.homeDrift
    learnDone := if namesAttention m 5 then none else a.learnDone
    logFull := if namesAttention m 7 then none else a.logFull
    scheduleEmpty := if namesAttention m 8 then false else a.scheduleEmpty
    orderSlip := if namesAttention m 9 then none else a.orderSlip
    unknownPallet := if namesAttention m 10 then none else a.unknownPallet
    fixtureMismatch := if namesAttention m 11 then none else a.fixtureMismatch
    duplicateSerial := if namesAttention m 12 then none else a.duplicateSerial
    maintenanceOut := if namesAttention m 13 then none else a.maintenanceOut
    storeCorrected := if namesAttention m 14 then none else a.storeCorrected
    storeDamaged := if namesAttention m 15 then none else a.storeDamaged }

end Sys2Proof.Machine
end

