-- ==== Sys2Proof/Machine/Orders.lean ====
section
/-! DEFINITION. Orders: their issue (R76), their cancellation (R88), the decisions of R77, R106 and R113, the ORDER
frame (R191), and the completion record (R118). -/

namespace Sys2Proof.Machine

/-! ### Recording results -/

/-- Record a history result for the workpiece of position `k`'s occupant; a pallet without a workpiece is left as it
is (R29, R32, R33). -/
def State.recordResult (s : State) (k program : Nat) (r : HistoryResult) (workTime : Option Nat) : State :=
  match s.palletAt k with
  | none => s
  | some n => s.onWorkpiece n fun w => w.record k program r workTime

/-- Whether orders of this kind leave history entries (R32). -/
def OrderKind.recorded : OrderKind → Bool
  | .process | .check => true
  | .noOrder | .feed | .load | .unload => false

/-! ### Cancellation (R88) -/

/-- The three kinds of cancellation (R88). -/
inductive Cancellation where
  | missed
  | abandoned
  | withdrawn
deriving DecidableEq, Repr

/-- What closing becomes (R88). -/
def Cancellation.closing : Cancellation → Closing
  | .missed => .missed | .abandoned => .abandoned | .withdrawn => .withdrawn

/-- The history result of a cancelled PROCESS or CHECK order (R88). -/
def Cancellation.result : Cancellation → Option HistoryResult
  | .missed => some .missed | .abandoned => some .abandoned | .withdrawn => none

/-- Cancel position `k`'s order: the history entry of a PROCESS or CHECK order, closing, and both timers stopped. The
order number and kind are kept; the phase is the caller's (R88). -/
def State.cancelOrder (s : State) (k : Nat) (c : Cancellation) : State :=
  let recorded := match c.result with
    | none => s
    | some r => if (s.pos k).orderKind.recorded then s.recordResult k ((s.pos k).program.getD 0) r none else s
  (recorded.onDetail k fun d => { d with closing := c.closing }).stopTimers k

/-- Cancel an outstanding order: ORDERED as MISSED, WORKING as ABANDONED (R88, R91). -/
def State.cancelOutstanding (s : State) (k : Nat) : State :=
  match (s.pos k).phase with
  | .ordered => s.cancelOrder k .missed
  | .working => s.cancelOrder k .abandoned
  | .idle | .done | .fault => s

/-- Write position `k`'s order number, kind, program and instruction, and the order copy with them (R75). -/
def State.writeOrder (s : State) (k number : Nat) (kind : OrderKind) (program : Option Nat) (i : Option Instruction) : State :=
  (s.onPos k fun p => { p with orderNumber := number, orderKind := kind, program := program, instruction := i }).onDetail k
    fun d => { d with copyNumber := number, copyKind := kind }

/-- What R91 leaves at position `k`: its outstanding order cancelled, phase IDLE, kind NONE, no program, instruction
or fault code, closing NO_ORDER, result taken absent, both timers stopped. -/
def State.clearOrder (s : State) (k : Nat) : State :=
  let t := s.cancelOutstanding k
  (((t.writeOrder k (t.pos k).orderNumber .noOrder none none).onPos k fun p => { p with phase := .idle, faultCode := none }).onDetail k
    fun d => { d with closing := .noOrder, resultTaken := none }).stopTimers k

/-- The orders of positions 0 to 15 as LINE RESET and SET GEOMETRY leave them (R91). The history entries are appended
before any occupant changes. -/
def State.clearOrders (s : State) : State := (List.range 16).foldl State.clearOrder s

/-! ### Issue (R76) -/

/-- Whether an order of this kind starts the start timer (R76, R86). -/
def OrderKind.timed : OrderKind → Bool
  | .process | .check | .load | .unload => true
  | .noOrder | .feed => false

/-- Issue an order to position `k` (R76). -/
def State.issueOrder (s : State) (k number : Nat) (kind : OrderKind) (program : Option Nat) (i : Option Instruction) : State :=
  let fresh := kind == .noOrder
  (((s.writeOrder k number kind program i).onPos k
      fun p => { p with phase := if fresh then .idle else .ordered, faultCode := none }).onDetail k
      fun d => { d with closing := if fresh then .noOrder else .opened, resultTaken := none }).setStartTimer k
    (if kind.timed then some 0 else none)

/-! ### Decisions -/

/-- The order decision of R77: the program position `k`'s block is ordered, or `none` for kind NONE. -/
def State.orderDecision (s : State) (k : Nat) : Option Nat :=
  match (s.palletAt k).bind s.workpiece with
  | none => none
  | some w =>
    if w.disposition == .suspect || w.disposition == .reject then none
    else if s.routing w.variant k = 0 then none
    else if w.history.any fun e => match e with
        | .outcome q _ _ r _ => q == k && (r == .done || r == .passed)
        | .lost => false
      then none
    else some (s.routing w.variant k)

/-- The lane of an unload order, from the workpiece (R113). -/
def laneOf : Option Workpiece → Lane
  | none => .noLane
  | some w => match w.disposition with | .good => .ship | .suspect | .reject => .reject | .rework => .keep

/-- The route of an unload order: OUT if the divert flag is set or the pallet is maintenance due (R113). -/
def State.routeOf (s : State) (p : Pallet) : Route := if p.divert || s.maintenanceDue p then .out else .loop

/-- The unload decision of R113: an instruction for a pallet, `none` for kind NONE. -/
def State.unloadDecision (s : State) (k : Nat) : Option Instruction :=
  match s.palletAt k with
  | none => none
  | some n => match s.pallet n with
    | none => none
    | some p => some (.unload (laneOf p.workpiece) (s.routeOf p))

/-- The load instruction of R106 for a pallet record; the first row that fits gives it. -/
def State.loadDecision (s : State) (p : Pallet) : Instruction :=
  match p.workpiece with
  | some w => if w.disposition == .rework then .passTwo else .remove
  | none =>
    if s.maintenanceDue p then .empty .maintenance
    else match s.rst.schedule with
      | [] => .empty .noSchedule
      | e :: _ => if member p.variants e.variant then .load e.variant else .empty .fixture

/-! ### ORDER frames -/

/-- The ORDER frame of position `k`'s current order (R191). -/
def State.orderFrame (s : State) (k : Nat) : OrderFrame :=
  let p := s.pos k
  { position := k, number := p.orderNumber, kind := p.orderKind, program := p.program, pallet := s.palletAt k,
    workpiece := ((s.palletAt k).bind s.workpiece).map fun w => (w.serial, w.variant, w.pass),
    instruction := p.instruction }

/-- Post position `k`'s ORDER frame to SLk, replacing any unsent one (R93, R185). -/
def State.postOrder (s : State) (k : Nat) : State := s.post (Link.at k) (.order (s.orderFrame k))

/-! ### The completion log (R117, R118) -/

/-- Whether the log already holds 32 records (R118). -/
def State.logFull (s : State) : Bool := decide (32 ≤ s.rst.log.length)

/-- Add a completion record for a pallet's workpiece at the tail of the log, then detach the workpiece. The record
takes the counter's value plus 1, and the counter becomes that value, saturating (R117, R118). -/
def State.completeWorkpiece (s : State) (n : Nat) (lane : LogLane) : State :=
  match s.workpiece n with
  | none => s
  | some w =>
    ((s.onRst fun r =>
      { r with
        recordCounter := countUp 4294967295 r.recordCounter
        log := r.log ++ [{ number := countUp 4294967295 r.recordCounter
                           detail := some { lane := lane, pallet := n, variant := w.variant, disposition := w.disposition,
                                            passes := w.pass, stamp := s.ctm.clock }
                           serial := w.serial, history := w.history }] }).rewriteCells
      (logCells ((s.rst.logHead + s.rst.log.length) % 32))).onPallet n fun p => { p with workpiece := none }

end Sys2Proof.Machine
end

