-- ==== Sys2Proof/Machine/Learn.lean ====
section
/-! DEFINITION. The Window Learn Unit: the start of a learn (R139, R141), the sweep captures (R142), the end of the
sweep (R143), the computation (R144), the abort of a learn (R146, R147) and the writing of windows (R145, R149). -/

namespace Sys2Proof.Machine

/-- The capture set-up of a position not expected. -/
def SweepEntry.blank : SweepEntry := { expected := false, capture := .notExpected, low := none, high := none, outcome := none }

/-- The entry of position `k`, 1 to 15, of the learn result record. -/
def State.sweepEntry (s : State) (k : Nat) : SweepEntry :=
  if k = 0 then SweepEntry.blank else s.wlu.record.entries.getD (k - 1) SweepEntry.blank

/-- The set-up of position `k`'s sweep capture from the origin mask and its occupant (R141). -/
def State.sweepSetup (s : State) (origin : Mask) (k : Nat) : SweepEntry :=
  if decide (k < s.count) && member origin (k - 1) then
    { expected := true, capture := if (s.palletAt k).isSome then .awaitDeparture else .armed, low := none, high := none,
      outcome := none }
  else SweepEntry.blank

/-- The WLU starts a learn: a fresh record in state IN_PROGRESS with the learn settings taken from the working copy
(R139). -/
def State.startLearn (s : State) (origin : Mask) : State :=
  let w := s.working
  s.onWlu fun _ =>
    { record :=
        { LearnRecord.reset with
          state := .inProgress
          settings := some { start := w.target, sweepMargin := w.sweepMargin, limit := w.target + w.sweepMargin, bias := w.bias,
                             minWidth := w.minWidth, driftLimit := w.driftLimit, extend := w.extend }
          startTime := some s.ctm.clock
          entries := (List.range 15).map fun i => s.sweepSetup origin (i + 1) }
      outcome := none }

/-- The sweep limit of the learn record (R139). -/
def State.sweepLimit (s : State) : Int := match s.wlu.record.settings with | none => 0 | some x => x.limit

/-- The effect of a filtered edge on a sweep capture, with the counter at the edge (R142). -/
def SweepEntry.edge (e : SweepEntry) (rising extend : Bool) (counter : Int) : SweepEntry :=
  match e.capture, rising with
  | .awaitDeparture, false => { e with capture := .armed }
  | .armed, true => { e with capture := .risen, low := some counter }
  | .risen, false => { e with capture := .fallen, high := some counter }
  | .fallen, true => if extend then { e with capture := .risen } else e
  | .notExpected, _ | .awaitDeparture, true | .armed, false | .risen, true | .fallen, false => e

/-- The outcome a position is given when the sweep ends (R143). -/
def SweepEntry.outcomeAt (e : SweepEntry) (minWidth : Int) : SweepOutcome :=
  match e.capture with
  | .notExpected => .notExpected
  | .awaitDeparture => .noDeparture
  | .armed => .noArrival
  | .risen => .stillOpen
  | .fallen => if e.high.getD 0 - e.low.getD 0 < minWidth then .narrow else .window

/-- The record with each position's outcome given (R143). -/
def LearnRecord.withOutcomes (r : LearnRecord) (minWidth : Int) : LearnRecord :=
  { r with entries := r.entries.map fun e => { e with outcome := some (e.outcomeAt minWidth) } }

/-- The placed value Tnew of the candidate (R140). -/
def LearnRecord.placed (r : LearnRecord) : Option Int := r.candidate.map (·.2)

/-- The entries with outcome WINDOW. -/
def LearnRecord.windows (r : LearnRecord) : List SweepEntry := r.entries.filter fun e => e.outcome == some .window

/-- The greatest of a non-empty list of counts, the first being `x`. -/
def greatest (x : Int) (xs : List Int) : Int := xs.foldl max x
/-- The least of a non-empty list of counts, the first being `x`. -/
def least (x : Int) (xs : List Int) : Int := xs.foldl min x

/-- The computation of R144 on a record whose outcomes are given: the record keeps every value reached, and the
first step that ends the computation decides the outcome. -/
def LearnRecord.compute (r : LearnRecord) (x : LearnSettings) (g : Geometry) : LearnRecord × LearnOutcome :=
  if r.entries.any fun e => e.expected && e.outcome != some .window then (r, .failed .position)
  else match r.windows with
    | [] => (r, .failed .noWindow)
    | e :: es =>
      let lo := greatest (e.low.getD 0) (es.map fun e => e.low.getD 0)
      let hi := least (e.high.getD 0) (es.map fun e => e.high.getD 0)
      let r2 := { r with intersection := some (lo, hi) }
      if lo > hi then (r2, .failed .disjoint)
      else
        let c := (lo + hi) / 2
        let t := g.place (c + x.bias)
        let r4 := { r2 with centre := some c, candidate := some (g.quantize (c + x.bias), t) }
        if t < lo ∨ t > hi then (r4, .failed .outside)
        else
          let d := t - x.start
          let r6 := { r4 with margins := some (t - lo, hi - t), drift := some d }
          if (d.natAbs : Int) > x.driftLimit then (r6, .held) else (r6, .applied)

/-- The end of the sweep: the sweep timer stops, every capture is closed with its outcome, the computation is made and
the learn write is requested (R143). -/
def State.endSweep (s : State) : State :=
  match s.wlu.record.settings, s.rst.geometry with
  | some x, some g =>
    let result := (s.wlu.record.withOutcomes x.minWidth).compute x g
    ((s.onWlu fun _ => { record := result.1, outcome := some result.2 }).onIxc
      fun i => { i with sweepTimer := none }).queueWork .learnWrite
  | _, _ => s

/-- The sweep ends when the counter stands at or beyond the sweep limit in SWEEP and it has not ended yet (R143). -/
def State.checkSweepEnd (s : State) : State :=
  if s.ixc.state == .sweep && s.wlu.outcome.isNone && decide (s.sweepLimit ≤ s.btk.counter) then s.endSweep else s

/-- An abort in PERMIT or SWEEP makes the learn ABORTED and raises LEARN_DONE carrying ABORTED (R146, R147). -/
def State.abortLearn (s : State) (cause : Cause) : State :=
  (s.onWlu fun w => { record := { w.record with state := .aborted, abortCause := some (.fault cause), endTime := some s.ctm.clock }
                      outcome := none }).attend fun a => { a with learnDone := some (.aborted cause) }

/-- LINE RESET makes a learn IN_PROGRESS ABORTED with cause LINE_RESET, and one HELD DISCARDED (R140, R153). -/
def State.resetLearn (s : State) : State :=
  s.onWlu fun w =>
    { record := match w.record.state with
        | .inProgress => { w.record with state := .aborted, abortCause := some .lineReset, endTime := some s.ctm.clock }
        | .held => { w.record with state := .discarded }
        | .absent | .applied | .accepted | .discarded | .failed | .aborted => w.record
      outcome := none }

/-- A HELD result is dropped (R6, R140, R150, R165). -/
def State.discardHeld (s : State) : State :=
  s.onWlu fun w => if w.record.state == .held then { w with record := { w.record with state := .discarded } } else w

/-- The Bar Tracker's largest absolute drift of position `k` becomes 0 (R134). -/
def State.clearLargest (s : State) (k : Nat) : State :=
  s.onBtk fun b => { b with captures := b.captures.modify (k - 1) fun c => { c with largest := 0 } }

/-- Write or remove the window of position `k`, 1 to 15; the largest absolute drift of `k` becomes 0 (R134, R151). -/
def State.setWindow (s : State) (k : Nat) (w : Option Window) : State :=
  (s.onRst fun r => { r with windows := r.windows.set (k - 1) w }).clearLargest k

/-- Write position `k`'s measured window when its outcome is WINDOW (R145, R149). -/
def State.writeMeasured (s : State) (k : Nat) : State :=
  let e := s.sweepEntry k
  if e.outcome == some .window then
    (s.setWindow k (some { low := e.low.getD 0, high := e.high.getD 0 })).rewriteCells [⟨.window, k - 1⟩]
  else s

/-- Write the window of every WINDOW position; other entries are kept (R145, R149, R151). -/
def State.writeWindows (s : State) : State := (List.range 15).foldl (fun t i => t.writeMeasured (i + 1)) s

/-- Remove every window (R6, R151); the cells are written whole (R159). -/
def State.emptyWindows (s : State) : State :=
  ((List.range 15).foldl (fun t i => t.setWindow (i + 1) none) s).rewriteCells windowCells

/-- Write a target into the pending copy of T. -/
def State.setPendingTarget (s : State) (t : Int) : State :=
  s.onRst fun r => { r with transfer := r.transfer.map fun x => { x with pending := { x.pending with target := t } } }

/-- Write a target into both copies of T (R145). -/
def State.setBothTargets (s : State) (t : Int) : State :=
  s.onRst fun r => { r with transfer := r.transfer.map fun x =>
    { x with pending := { x.pending with target := t }, working := { x.working with target := t } } }

end Sys2Proof.Machine
end

