-- ==== Sys2Proof/Machine/Motion.lean ====
section
/-! DEFINITION. The motion of the bar: entry to FAULT (R59, R60), the overtravel and saturation tests (R122, R128,
R129), collection and the entry to PERMIT (R46 to R48, R64), the checks at the end of a motion (R53, R54), and the
entries to HALT and COLLECT. -/

namespace Sys2Proof.Machine

/-! ### Entry captures (R131 to R134) -/

/-- Every position still in AWAIT_DEPARTURE or ARMED becomes NO_ENTRY (R134). -/
def State.closeCaptures (s : State) : State :=
  s.onBtk fun b => { b with captures := b.captures.map fun c => match c.state with
    | .awaitDeparture | .armed => { c with state := .noEntry }
    | .idle | .captured | .noEntry => c }

/-- Every entry-capture state is set to IDLE (R132, R137). -/
def State.idleCaptures (s : State) : State :=
  s.onBtk fun b => { b with captures := b.captures.map fun c => { c with state := .idle } }

/-- The set-up of position `k`'s entry capture at the PERMIT of an INDEX motion (R132); positions N to 15 stay IDLE. -/
def State.captureSetup (s : State) (k : Nat) (c : EntryCapture) : EntryCapture :=
  if k < s.count then
    { c with state := if (s.palletAt k).isSome then .awaitDeparture else .armed, entry := none, drift := none }
  else c

/-- Arm the entry captures of an INDEX motion (R132). -/
def State.armCaptures (s : State) : State :=
  s.onBtk fun b => { b with captures := b.captures.mapIdx fun i c => s.captureSetup (i + 1) c }

/-! ### Faults -/

/-- Stop the four motion timers (R52, R60). -/
def Ixc.stopMotionTimers (i : Ixc) : Ixc :=
  { i with liftTimer := none, carryTimer := none, sweepTimer := none, settleTimer := none }

/-- Entry to FAULT (R59, R60): the capture window of an INDEX ends (R134), a learn in PERMIT or SWEEP is aborted
(R146, R147), the advance or learn write is withdrawn (R156), the timers stop, the current and last fault are written,
INDEX pending is cleared and the FAULT attention is raised. A CONFIG fault that waits for the advance (R165) waits no longer:
where the advance is aborted (R55) or ends in FAULT(TRACKING), no later advance raises it, which is the model's choice
(assumption 34). -/
def State.enterFault (s : State) (cause : Cause) (check : Option SeatCheck := none) : State :=
  let early := s.ixc.state == .permit || s.ixc.state == .carry || s.ixc.state == .sweep
  let s1 := if early && s.motionKind == some .index then s.closeCaptures else s
  let s2 := if early && s.motionKind == some .learn then s1.abortLearn cause else s1
  let record : FaultRecord := { cause := cause, check := check, kind := s.motionKind, stamp := s.ctm.clock }
  (((s2.withdrawWork.onIxc fun i =>
      { i.stopMotionTimers with state := .fault, currentFault := some record, lastFault := some record, indexPending := false,
                                configDue := false }).onBtk fun b => { b with homeTimer := none }).attend
    fun a => { a with fault := some cause })

/-- A motion state or ADVANCE, in which the events of R55 and R59 abort. -/
def IxcState.abortable (x : IxcState) : Bool := x.moving || x == .advance

/-- An event of R59 and R55 that also acts in ADVANCE: a motion or a pending advance is aborted, and nothing else
(R61, R62). -/
def State.abortMotion (s : State) (cause : Cause) : State := if s.ixc.state.abortable then s.enterFault cause else s

/-- An event of R59 that acts in a motion state only. -/
def State.abortMoving (s : State) (cause : Cause) : State := if s.ixc.state.moving then s.enterFault cause else s

/-- An ACTIVE position `k` has entered FAULT: it aborts a motion or a pending advance (R55, R59) and leaves the IXC
state unchanged otherwise (R61, R62). -/
def State.positionFaulted (s : State) (k : Nat) : State := s.abortMotion (.stationFault k)

/-! ### Overtravel and saturation -/

/-- The overtravel limit in force for the pending motion (R128). In ADVANCE and FAULT, where R128 gives none and none is tested,
it is what READ TARGET reports of a motion that is still pending: the limit of the kind, and for a LEARN that of the sweep
(assumption 31). -/
def State.overtravelLimit (s : State) (m : Motion) : Int × LimitSense :=
  let ot := s.working.overtravel
  match m.kind with
  | .index | .forward => (m.target + ot, .upper)
  | .learn =>
    match s.ixc.state with
    | .reseat => if s.btk.reseatTight then (m.target + ot, .upper) else (s.sweepLimit + ot, .upper)
    | .settle => (m.target + ot, .upper)
    | .halt | .collect | .permit | .carry | .sweep | .advance | .fault => (s.sweepLimit + ot, .upper)
  | .back => (-ot, .lower)

/-- Whether a count lies beyond a limit. -/
def beyond (counter : Int) (limit : Int × LimitSense) : Bool :=
  match limit.2 with | .upper => decide (limit.1 < counter) | .lower => decide (counter < limit.1)

/-- Whether the counter is in overtravel: tested in the five motion states (R128, R129). -/
def State.overtravels (s : State) : Bool :=
  s.ixc.state.moving && s.ixc.motion.any fun m => beyond s.btk.counter (s.overtravelLimit m)

/-- The tests made at each entry to a motion state: a saturated counter aborts with ENCODER_RANGE (R122), and
overtravel with OVERTRAVEL (R129). That saturation is tested first is the model's choice (assumption 28). -/
def State.checkEntry (s : State) : State :=
  if !s.ixc.state.moving then s
  else if s.btk.saturated then s.enterFault .encoderRange
  else if s.overtravels then s.enterFault .overtravel
  else s

/-- In RESEAT, the first counter value at or below the resulting target plus OT takes up the tighter limit (R128). -/
def State.tightenReseat (s : State) : State :=
  match s.ixc.motion with
  | none => s
  | some m =>
    if s.ixc.state == .reseat && decide (s.btk.counter ≤ m.target + s.working.overtravel) then
      s.onBtk fun b => { b with reseatTight := true }
    else s

/-- What each change of the counter brings about: the change of limit in RESEAT (R128), the overtravel test (R129),
the end of the sweep (R143). -/
def State.counterChanged (s : State) : State :=
  let t := s.tightenReseat
  if t.overtravels then t.enterFault .overtravel else t.checkSweepEnd

/-! ### MOTION frames (R127) -/

/-- Post the MOTION frame of the pending motion to DRVL. -/
def State.postMotion (s : State) (step : MotionStep) : State :=
  match s.ixc.motion with
  | none => s
  | some m => s.post .drvl (.motion
      { step := step, kind := m.kind, target := m.target, stopBand := s.working.stopBand, limit := (s.overtravelLimit m).1,
        sense := (s.overtravelLimit m).2 })

/-! ### Entry to PERMIT -/

/-- Every staged setting is copied from the pending copy to the working copy (R9). -/
def State.copyStaged (s : State) : State :=
  (s.onRst fun r => { r with transfer := r.transfer.map fun t => { t with working := t.pending } }).rewriteCells
    ((List.range 4).map fun i => ⟨.transfer, 4 + i⟩)

/-- The motion target a motion starts with (R48, R64, R139). -/
def MotionKind.startTarget (k : MotionKind) (w : Staged) : Int :=
  match k with
  | .index | .forward => w.target
  | .learn => w.target + w.sweepMargin
  | .back => 0

/-- The captures a motion sets up at its PERMIT: the entry captures of an INDEX; all others set those IDLE, and a
LEARN starts the learn (R48, R132, R139). -/
def State.setUpCaptures (s : State) (kind : MotionKind) (origin : Mask) : State :=
  match kind with
  | .index => s.armCaptures
  | .learn => s.idleCaptures.startLearn origin
  | .forward | .back => s.idleCaptures

/-- The entry to PERMIT common to R48 and R64: the copy of R9, the motion record, the captures, LIFT PERMIT with the
state, the lift timer and the MOTION frame. The tests on entry follow in `checkEntry`. The motion record is new: that a
RECOVER drops the interrupted motion's sampled count S is the model's choice (assumption 32). -/
def State.beginMotion (s : State) (kind : MotionKind) (origin : Mask) : State :=
  let t := s.copyStaged
  let w := t.working
  let u := t.onIxc fun i =>
    { i with state := .permit, motion := some { kind := kind, origin := origin, target := kind.startTarget w, sample := none },
             liftTimer := some { elapsed := 0, limit := w.liftTimeout } }
  ((u.onBtk fun b => { b with homeTimer := none, reseatTight := false }).setUpCaptures kind origin).postMotion .start

/-! ### Collection -/

/-- Condition 2 and 3 of R46 at an ACTIVE position; a BYPASS position is not consulted (R15). -/
def Position.released (p : Position) : Bool :=
  p.mode == .bypass || (p.joined.isSome && (p.phase == .idle || p.phase == .done) && !p.hold)

/-- All six conditions of R46, in COLLECT. -/
def State.collected (s : State) : Bool :=
  s.ixc.state == .collect && (s.ixc.runMode == .auto || s.ixc.indexPending) &&
    allBelow s.count (fun k => (s.pos k).released && (s.pos k).occupant != .unknown) &&
    !s.ixc.lineHold && s.pins.home && !s.pins.lineStop && s.ixc.driveJoined && !s.ixc.driveFaulted

/-- Count a gating source: its count, the last gating source and the last gating time (R175). -/
def State.recordGate (s : State) (g : Gate) : State :=
  let t := s.onCtm fun c => match g with
    | .position k => { c with stats := c.stats.modify k fun x => { x with gating := countUp 65535 x.gating } }
    | .home => { c with gateHome := countUp 65535 c.gateHome }
    | .supervisor => { c with gateSupervisor := countUp 65535 c.gateSupervisor }
    | .drive => { c with gateDrive := countUp 65535 c.gateDrive }
    | .stop => { c with gateStop := countUp 65535 c.gateStop }
  t.onCtm fun c => { c with lastGate := some (g, c.clock) }

/-- The index timer starts at 0 (R173). -/
def State.startIndexTimer (s : State) : State := s.onCtm fun c => { c with indexTimer := some 0, indexRecovered := false }

/-- Collection completes: the effects of R48 in one event, with the tests on the entry to PERMIT. -/
def State.completeCollection (s : State) (g : Gate) : State :=
  let kind : MotionKind := if s.ixc.learnArmed then .learn else .index
  let t := s.onIxc fun i => { i with indexPending := false, learnArmed := false }
  (((t.beginMotion kind s.palletMask).recordGate g).startIndexTimer).checkEntry

/-- The collection test (R47): made in COLLECT, with the class of the event that was taken last. -/
def State.testCollection (s : State) (g : Gate) : State := if s.collected then s.completeCollection g else s

/-! ### Entries to HALT and COLLECT -/

/-- Entry to HALT by any path clears INDEX pending and the halt-requested flag (R67) and stops the cycle timer (R174)
and the home timer (R136). -/
def State.enterHalt (s : State) : State :=
  ((s.onIxc fun i => { i with state := .halt, indexPending := false, haltRequested := false, configDue := false }).onCtm
    fun c => { c with cycleTimer := none }).onBtk fun b => { b with homeTimer := none }

/-- Start the home timer with the working home timeout (R136). -/
def State.startHomeTimer (s : State) : State :=
  s.onBtk fun b => { b with homeTimer := some { elapsed := 0, limit := s.working.homeTimeout } }

/-- Entry to COLLECT: the home timer starts if HOME is inactive (R136); a CONFIG fault that waited for the advance is
entered (R165); otherwise the collection test is made (R47), `test` being the test of the event or grant that enters. -/
def State.enterCollect (s : State) (test : State → State) : State :=
  let t := s.onIxc fun i => { i with state := .collect }
  let u := if s.pins.home then t else t.startHomeTimer
  if s.ixc.configDue then u.enterFault .config else test u

/-- The end of a motion that leaves no motion pending: HALT if halt is requested, COLLECT otherwise (R58, R66). -/
def State.endMotion (s : State) (test : State → State) : State :=
  let t := s.onIxc fun i => { i with motion := none }
  if s.ixc.haltRequested then t.enterHalt else t.enterCollect test

/-! ### The checks at the end of a motion -/

/-- The target of the stop check (R53). -/
def State.stopTarget (s : State) (m : Motion) : Int :=
  match m.kind with
  | .index | .forward => s.working.target
  | .learn => m.target
  | .back => 0

/-- Whether position `k` is in the expected set (R54). -/
def State.expected (s : State) (m : Motion) (k : Nat) : Bool :=
  decide (k < s.count) && match m.kind with
    | .index | .learn | .forward => decide (0 < k) && member m.origin (k - 1)
    | .back => member m.origin k

/-- The missing mask: expected positions whose input is inactive (R54). -/
def State.missingMask (s : State) (m : Motion) : Mask := maskOf fun k => s.expected m k && !member s.pins.ip k
/-- The unexpected mask: positions 0 to N−1 not expected whose input is active (R54). -/
def State.unexpectedMask (s : State) (m : Motion) : Mask :=
  maskOf fun k => decide (k < s.count) && !s.expected m k && member s.pins.ip k

/-- The stop check: |S − target| ≤ B (R53). -/
def State.stopPasses (s : State) (m : Motion) : Bool :=
  decide (((m.sample.getD 0 - s.stopTarget m).natAbs : Int) ≤ s.working.stopBand)

/-- What a failed check records (R54, R60). -/
def State.seatCheck (s : State) (m : Motion) : SeatCheck :=
  { sample := m.sample.getD 0, target := s.stopTarget m, missing := s.missingMask m, unexpected := s.unexpectedMask m }

/-- A motion whose checks passed: BACK ends without any grant (R66); the others enter ADVANCE and request the store
(R49, R55). -/
def State.motionSucceeded (s : State) (test : State → State) (m : Motion) : State :=
  let t := s.onIxc fun i => { i with settleTimer := none }
  match m.kind with
  | .index | .learn | .forward => (t.onIxc fun i => { i with state := .advance }).queueWork .advance
  | .back => (t.onCtm fun c => { c with indexTimer := none, indexRecovered := false }).endMotion test

/-- The end of the settle time in SETTLE: the stop check and the seat check, and their outcome (R53, R54). -/
def State.endSettle (s : State) (test : State → State) : State :=
  match s.ixc.motion with
  | none => s
  | some m =>
    if !s.stopPasses m then s.enterFault .stopMiss (some (s.seatCheck m))
    else if s.missingMask m != 0#16 || s.unexpectedMask m != 0#16 then s.enterFault .seat (some (s.seatCheck m))
    else s.motionSucceeded test m

end Sys2Proof.Machine
end

