-- ==== Sys2Proof/Machine/Store.lean ====
section
/-! DEFINITION. The Record Store's cells: what a read of a cell does (R159, R160), and the safe rewrites of damaged
cells (R25, R92, R161 to R165). A cell that disagrees with its check code stands in `Rst.errors`. -/

namespace Sys2Proof.Machine

/-! ### Overruns and start-timer expiries that a written setting brings about -/

/-- Raise an overrun for position `k` when the overrun-taken flag is clear (R172). -/
def State.raiseOverrun (s : State) (k : Nat) : State :=
  if (s.work k).overrunTaken then s
  else ((s.onWork k fun w => { w with overrunTaken := true }).onStats k
    fun x => { x with overruns := countUp 65535 x.overruns }).attend fun a => { a with overrun := withMember a.overrun k }

/-- Raise the overrun of position `k` when its running work time is greater than its limit (R172). -/
def State.checkOverrun (s : State) (k : Nat) : State :=
  match (s.work k).running, (s.work k).limit with
  | some v, some l => if l < v then s.raiseOverrun k else s
  | _, _ => s

/-- The limit that applies to position `k`'s order: its budget's, for a PROCESS or CHECK order (R170, R171). -/
def State.orderLimit (s : State) (k : Nat) : Option Nat :=
  match (s.pos k).orderKind.recorded, (s.pos k).program with
  | true, some g => budgetLimit s.tolerance (s.budget k g)
  | _, _ => none

/-- Form the limit of position `k`'s running work timer afresh, and compare (R171, R172). -/
def State.reformLimit (s : State) (k : Nat) : State :=
  if (s.work k).running.isSome then (s.onWork k fun w => { w with limit := s.orderLimit k }).checkOverrun k else s

/-- Form the limit of every running work timer afresh (R9, R171). -/
def State.reformLimits (s : State) : State := (List.range 16).foldl State.reformLimit s

/-- Position `k`'s start timer expires: it stops, and the expiry write joins the IXC work list (R86, R87, R156). -/
def State.expireStart (s : State) (k : Nat) : State := (s.setStartTimer k none).queueWork (.startExpiry k)

/-- A start timer whose order has been ORDERED for longer than the start timeout expires at once (R9). -/
def State.expireLate (s : State) (k : Nat) : State :=
  match s.startTimer k, s.rst.transfer with
  | some v, some t => if t.startTimeout < v then s.expireStart k else s
  | _, _ => s

/-- The effects of a grant that writes the direct settings (R9): the limits are formed afresh, then the start timers are
compared, positions in ascending order. Where several expire in one grant, no rule orders their expiry writes in the IXC work
list: the ascending order is the model's choice (assumption 27). -/
def State.directWritten (s : State) : State := (List.range 16).foldl State.expireLate s.reformLimits

/-! ### Names, order and reach of cells -/

/-- A region's number, 1 to 12, in the order of R158 (R191). -/
def Region.number : Region → Nat
  | .geometry => 1 | .transfer => 2 | .positionConfig => 3 | .positionTracking => 4 | .orderDetail => 5
  | .palletSlot => 6 | .returnQueue => 7 | .schedule => 8 | .log => 9 | .routing => 10 | .budget => 11 | .window => 12

/-- How many cells a region has (R158). -/
def Region.size : Region → Nat
  | .geometry => 2 | .transfer => 9 | .positionConfig => 16 | .positionTracking => 16 | .orderDetail => 16
  | .palletSlot => 1088 | .returnQueue => 64 | .schedule => 32 | .log => 562 | .routing => 8 | .budget => 240 | .window => 15

/-- The region after a region; the first after the last (R166). -/
def Region.next : Region → Region
  | .geometry => .transfer | .transfer => .positionConfig | .positionConfig => .positionTracking
  | .positionTracking => .orderDetail | .orderDetail => .palletSlot | .palletSlot => .returnQueue
  | .returnQueue => .schedule | .schedule => .log | .log => .routing | .routing => .budget | .budget => .window
  | .window => .geometry

/-- The scrubber's next cell (R166). -/
def nextCell (c : Cell) : Cell :=
  if c.index + 1 < Region.size c.region then ⟨c.region, c.index + 1⟩ else ⟨Region.next c.region, 0⟩

/-- The order of repairs: region order, the log control cell after the log places it is rebuilt from (R160, R164). -/
def cellRank (c : Cell) : Nat :=
  Region.number c.region * 4096 + (if c.region == .log && c.index == 0 then 4095 else c.index)

/-- Put a cell into its place in the order of repairs. -/
def insertCell (c : Cell) : List Cell → List Cell
  | [] => [c]
  | d :: ds => if cellRank c ≤ cellRank d then c :: d :: ds else d :: insertCell c ds

/-- Cells in the order of repairs. -/
def sortCells (cs : List Cell) : List Cell := cs.foldr insertCell []

/-- The name of a cell in the last-cell records and the attentions (R159). The model's choices (assumption 35): a pallet-slot cell
carries the number its slot holds as the cell is named, so none where the slot is not in use or a repair of the same grant has
freed it; the log control cell carries no place, and the last-fetched copy the place 32. -/
def State.cellName (s : State) (c : Cell) : CellName :=
  { cell := c
    pallet := if c.region == .palletSlot then (s.rst.slots.getD (c.index / 17) none).map (·.number) else none
    place := match c.region with
      | .returnQueue | .schedule => some c.index
      | .log => if c.index = 0 then none else some ((c.index - 1) / 17)
      | .geometry | .transfer | .positionConfig | .positionTracking | .orderDetail | .palletSlot | .routing | .budget | .window => none }

/-- Whether a cell holds an error that cannot be corrected. -/
def State.damagedCell (s : State) (c : Cell) : Bool := s.rst.errors.contains (c, .uncorrectable)

/-- The configuration, tracking and detail cells of all positions. -/
def configCells : List Cell := (List.range 16).map fun k => ⟨.positionConfig, k⟩
/-- The tracking cells of positions 0 to `n`−1. -/
def trackingCells (n : Nat) : List Cell := (List.range n).map fun k => ⟨.positionTracking, k⟩
/-- The cells of the return queue's places in use. That the place behind the last, whose mark ends the list, is not read is the
model's reading (assumption 9). -/
def State.queueCells (s : State) : List Cell := (List.range s.rst.returnQueue.length).map fun i => ⟨.returnQueue, i⟩
/-- The cells of the load schedule's entries in use, as for the return queue (assumption 9). -/
def State.scheduleCells (s : State) : List Cell := (List.range s.rst.schedule.length).map fun i => ⟨.schedule, i⟩

/-- The cells of the places of a list at and behind place `i`, and of the place ahead of `i`: a removed place's neighbour
ahead tells whether it is in use, and the places behind it move up (R160, R164). -/
def placesBehind (r : Region) (length i : Nat) : List Cell :=
  (if i = 0 then [] else [⟨r, i - 1⟩]) ++ ((List.range length).filter (i < ·)).map fun j => ⟨r, j⟩

/-- The budget cell of position `k`'s order (R170, R171). A tracking cell that is lost names no program: its repair makes the
program absent (R92). -/
def State.orderBudget (s : State) (k : Nat) : List Cell :=
  if s.damagedCell ⟨.positionTracking, k⟩ then []
  else match (s.pos k).program with | none => [] | some g => [⟨.budget, 15 * k + (g - 1)⟩]

/-- The cells from which the limits of the running work timers are formed: each position's tracking cell, and the budget
cell of its program (R170, R171). -/
def State.limitCells (s : State) : List Cell :=
  ((List.range 16).filter fun k => (s.work k).running.isSome).flatMap fun k => (⟨.positionTracking, k⟩ : Cell) :: s.orderBudget k

/-- The two header cells of a log place; place 32 is the last-fetched copy (R158). -/
def headerPair (p : Nat) : List Cell := [⟨.log, 1 + 17 * p⟩, ⟨.log, 2 + 17 * p⟩]
/-- The log place of record `i`, counted from the head. -/
def Rst.logPlace (r : Rst) (i : Nat) : Nat := (r.logHead + i) % 32
/-- Whether both header cells of a log place are uncorrectable. -/
def State.headersLost (s : State) (p : Nat) : Bool := (headerPair p).all s.damagedCell
/-- The header cells of record `i` of the log. -/
def State.recordHeaders (s : State) (i : Nat) : List Cell :=
  if i < s.rst.log.length then headerPair (s.rst.logPlace i) else []

/-- The header cells that give record `i` its number again: those of the record ahead of it and, at the head, those of the
record behind it. Where these are lost too, the record behind bounds the search (R164). -/
def State.numberCells (s : State) : Nat → List Cell
  | 0 => s.recordHeaders 1
  | j + 1 => s.recordHeaders j ++ if s.headersLost (s.rst.logPlace j) then s.recordHeaders (j + 2) else []

/-- The cells of every log place in use. -/
def State.logPlaces (s : State) : List Cell := (List.range s.rst.log.length).flatMap fun i => logCells (s.rst.logPlace i)

/-- What the repair of a cell of log place `p` reads: the two headers of the place; where both are lost the control cell and
the headers that give the number again; where the control cell is lost as well no number is given, and every place in use is
read, because the record goes and the others close up (R160, R164). -/
def State.logPlaceNeeds (s : State) (p : Nat) : List Cell :=
  headerPair p ++
    if s.headersLost p then
      (⟨.log, 0⟩ : Cell) :: if s.damagedCell ⟨.log, 0⟩ then s.logPlaces
        else if p = 32 then s.recordHeaders 0
        else s.numberCells ((p + 32 - s.rst.logHead % 32) % 32)
    else []

/-- The other cells that the repair of an uncorrectable cell reads (R160 to R165). -/
def State.needs (s : State) (c : Cell) : List Cell :=
  match c.region with
  | .geometry =>
    (⟨.geometry, 1 - c.index⟩ : Cell) ::
      (if s.damagedCell ⟨.geometry, 0⟩ && s.damagedCell ⟨.geometry, 1⟩ then configCells ++ [⟨.transfer, 0⟩, ⟨.transfer, 4⟩] else [])
  | .transfer => (⟨.geometry, 0⟩ : Cell) :: if c.index = 8 then s.limitCells else []
  | .positionConfig => [⟨.geometry, 0⟩]
  | .positionTracking => [⟨.positionConfig, c.index⟩, ⟨.orderDetail, c.index⟩]
  | .orderDetail => [⟨.positionTracking, c.index⟩]
  | .palletSlot =>
    let b := c.index / 17 * 17
    let holders : List Cell := [⟨.palletSlot, b⟩, ⟨.palletSlot, b + 1⟩, ⟨.palletSlot, b + 2⟩]
    holders ++ (if c.index = b then [⟨.geometry, 0⟩] else []) ++
      (if holders.all s.damagedCell then trackingCells 16 ++ s.queueCells else [])
  | .returnQueue => placesBehind .returnQueue s.rst.returnQueue.length c.index
  | .schedule => placesBehind .schedule s.rst.schedule.length c.index
  | .log => if c.index = 0 then (List.range 33).flatMap headerPair else s.logPlaceNeeds ((c.index - 1) / 17)
  | .budget => [⟨.positionTracking, c.index / 15⟩]
  | .routing | .window => []

/-- The uncorrectable cells of the store. -/
def State.damagedCells (s : State) : List Cell :=
  (s.rst.errors.filter fun e => e.2 == .uncorrectable).map (·.1)

/-- The cells a grant reads: those its operation reads, and those that the repairs of damaged ones among them read
(R160). Each round adds what the damaged cells reached so far need; a chain of repairs is no longer than there are damaged
cells. -/
def State.reach (s : State) : Nat → List Cell → List Cell
  | 0, cells => cells
  | rounds + 1, cells => s.reach rounds (cells ++ (s.damagedCells.filter cells.contains).flatMap s.needs)

/-- Every cell that a grant reads whose operation reads `cells`. -/
def State.readSet (s : State) (cells : List Cell) : List Cell := s.reach (s.damagedCells.length + 1) cells

/-! ### Correction and damage (R159, R160) -/

/-- A corrected cell is counted, recorded and reported (R159). -/
def State.noteCorrected (s : State) (c : Cell) : State :=
  (s.onRst fun r => { r with corrections := countUp 65535 r.corrections, lastCorrected := some (s.cellName c) }).attend
    fun a => { a with storeCorrected := some (s.cellName c) }

/-- A rewritten cell is counted, recorded and reported (R160). -/
def State.noteDamaged (s : State) (c : Cell) : State :=
  (s.onRst fun r => { r with damages := countUp 65535 r.damages, lastDamaged := some (s.cellName c) }).attend
    fun a => { a with storeDamaged := some (s.cellName c) }

/-! ### What the IXC does after a configuration repair (R165) -/

/-- The effect of the repair of a geometry, transfer or position configuration cell on the IXC (R162, R165). -/
def State.configRepaired (s : State) : State :=
  match s.ixc.state with
  | .halt | .fault => s
  | .collect | .permit | .carry | .sweep | .reseat | .settle => s.enterFault .config
  | .advance => s.onIxc fun i => { i with configDue := true }

/-! ### Geometry and transfer (R165) -/

/-- The kind a position configuration cell reads, `none` where it is itself uncorrectable in this grant. -/
def State.readableKind (s : State) (bad : List Cell) (k : Nat) : Option PositionKind :=
  if bad.contains ⟨.positionConfig, k⟩ then none else some (s.pos k).kind

/-- N as R165 rebuilds it: one more than the highest position whose cell reads a kind other than UNUSED or is itself
uncorrectable, and at least 3. -/
def State.rebuiltCount (s : State) (bad : List Cell) : Nat :=
  (List.range 16).foldl (fun n k => if s.readableKind bad k == some .unused then n else max n (k + 1)) 3

/-- The geometry R165 rebuilds: P 1,000, Q 1, service interval 20,000. -/
def State.rebuiltGeometry (s : State) (bad : List Cell) : Geometry :=
  { count := s.rebuiltCount bad
    kinds := (List.range (s.rebuiltCount bad - 2)).map fun i => if s.readableKind bad (i + 1) == some .check then .check else .process
    pitch := 1000, resolution := 1, service := 20000 }

/-- The kind the geometry record gives a position; UNUSED while it is absent (R5, R162). -/
def kindOf (g : Option Geometry) (k : Nat) : PositionKind :=
  match g with
  | none => .unused
  | some g =>
    if g.count ≤ k then .unused
    else if k = 0 then .load
    else if k + 1 = g.count then .unload
    else match g.kinds.getD (k - 1) .process with | .process => .process | .check => .check

/-- The transfer settings under a geometry: the defaults where no setting holds a value, the placed and clamped values
otherwise (R6, R165). -/
def Transfer.rebuild (g : Geometry) : Option Transfer → Transfer
  | none => { pending := g.defaults, working := g.defaults, startTimeout := 2000, budgetTolerance := 10 }
  | some t => { t with pending := t.pending.refit g, working := t.working.refit g }

/-- The repair of both geometry cells in one grant: each position takes the kind so rebuilt (R165). -/
def State.repairBothGeometry (s : State) (bad : List Cell) : State :=
  if allBelow 16 fun k => s.readableKind bad k == some .unused then s.onRst fun r => { r with geometry := none }
  else
    let g := s.rebuiltGeometry bad
    let t := s.onRst fun r =>
      { r with geometry := some g, unconfirmed := true
               positions := r.positions.mapIdx fun k p => { p with kind := kindOf (some g) k }
               transfer := some (Transfer.rebuild g r.transfer) }
    ((if s.rst.transfer.isNone then t.rewriteCells transferCells else t).emptyWindows).discardHeld

/-- One copy with one group of settings at its R7 defaults (R158, R165). -/
def Staged.defaultGroup (x d : Staged) (group : Nat) : Staged :=
  match group with
  | 0 => { x with target := d.target, stopBand := d.stopBand, overtravel := d.overtravel, sweepMargin := d.sweepMargin }
  | 1 => { x with bias := d.bias, minWidth := d.minWidth, driftLimit := d.driftLimit, entryTolerance := d.entryTolerance }
  | 2 => { x with homeTolerance := d.homeTolerance, extend := d.extend, settleTime := d.settleTime, liftTimeout := d.liftTimeout }
  | _ => { x with carryTimeout := d.carryTimeout, sweepTimeout := d.sweepTimeout, homeTimeout := d.homeTimeout }

/-- The repair of a transfer cell: its settings take their defaults; while the geometry is absent it is rewritten
empty (R165). What new direct settings bring about follows in `afterRepairs`. -/
def State.repairTransfer (s : State) (i : Nat) : State :=
  match s.rst.geometry with
  | none => s
  | some g =>
    s.onRst fun r => { r with transfer := r.transfer.map fun t =>
      if i < 4 then { t with pending := t.pending.defaultGroup g.defaults i }
      else if i < 8 then { t with working := t.working.defaultGroup g.defaults (i - 4) }
      else { t with startTimeout := 2000, budgetTolerance := 10 } }

/-! ### Positions (R92, R162) -/

/-- The repair of a position configuration cell (R162). -/
def State.repairConfig (s : State) (k : Nat) : State :=
  s.onPos k fun p => { p with kind := kindOf s.rst.geometry k, mode := .active, joined := none, hold := false }

/-- The repair of a position tracking cell (R92, R162): the order number and kind come from the order copy, or 0 and
NONE where the order detail cell is damaged in the same grant. Inside the advance no motion is aborted (R56). The occupant becomes
UNKNOWN by R162, although R116 says of a repair that the pallet of a LOAD or UNLOAD order stays (assumption 37). -/
def State.repairTracking (s : State) (bad : List Cell) (inAdvance : Bool) (k : Nat) : State :=
  let lost := bad.contains ⟨.orderDetail, k⟩
  let number := if lost then 0 else (s.detail k).copyNumber
  if s.unused k then
    (s.onPos k fun p => { p with occupant := .empty, phase := .idle, faultCode := none, orderNumber := number, orderKind := .noOrder,
                                 program := none, instruction := none }).stopTimers k
  else
    let kind := if lost || !s.active k then .noOrder else (s.detail k).copyKind
    let outstanding := (s.pos k).phase.outstanding
    let t := (s.onPos k fun p =>
      { p with occupant := .unknown, phase := if p.mode == .active then .fault else .idle,
               faultCode := if p.mode == .active then some .store else none, orderNumber := number, orderKind := kind,
               program := none, instruction := none }).stopTimers k
    let u := if lost then t.onDetail k fun d => { d with closing := .noOrder }
      else if outstanding then t.onDetail k fun d => { d with closing := .withdrawn } else t
    if s.active k && !inAdvance then u.positionFaulted k else u

/-- The repair of an order detail cell (R92, R162). -/
def State.repairDetail (s : State) (k : Nat) : State :=
  s.onDetail k fun _ =>
    { copyNumber := (s.pos k).orderNumber, copyKind := (s.pos k).orderKind,
      closing := if (s.pos k).orderKind == .noOrder then .noOrder else .opened,
      resultTaken := none, faultReport := none, faultCount := 0 }

/-! ### Pallet slots (R25, R161) -/

/-- The lowest variant of a mask, or variant 1 when it is empty (R161). -/
def lowestVariant (m : Mask) : Nat := ((List.range 9).find? fun v => decide (1 ≤ v) && member m v).getD 1

/-- The entries of history cell `j`, two entry places, as LOST (R33, R161, R164). -/
def loseEntries (h : List HistoryEntry) (j : Nat) : List HistoryEntry := h.mapIdx fun i e => if i / 2 = j then .lost else e

/-- Update the record in a slot. -/
def State.onSlot (s : State) (i : Nat) (f : Pallet → Pallet) : State :=
  s.onRst fun r => { r with slots := r.slots.modify i fun o => o.map f }

/-- The header rewritten to safe values (R25). -/
def Pallet.safeHeader (p : Pallet) (g : Option Geometry) : Pallet :=
  { p with variants := 0#16, clamps := match g with | none => 65535 | some g => g.service
           damaged := true, divert := true }

/-- All three number-holding cells of a slot are lost: the slot is freed, and a position that held the number becomes
UNKNOWN (R12, R161). A queue place that held it is removed in `afterRepairs`. Only the three cells are written: that errors of the
slot's history cells stand is the model's reading (assumption 12). -/
def State.freeSlot (s : State) (i : Nat) : State :=
  match s.rst.slots.getD i none with
  | none => s
  | some p =>
    (List.range 16).foldl (fun u k => if (u.pos k).occupant == .pallet p.number then u.setOccupant k .unknown else u)
      (s.onRst fun r => { r with slots := r.slots.set i none })

/-- The workpiece taken to be present when the workpiece and serial cells are both lost (R161). -/
def Pallet.assumed (p : Pallet) : Workpiece :=
  { serial := .lost, variant := lowestVariant p.variants, disposition := .reject, pass := 2,
    history := match p.workpiece with | none => [] | some w => w.history }

/-- The repair of cell `j` of slot `i`: 0 header, 1 workpiece, 2 serial, from 3 history (R161). A slot not in use is
rewritten as unused. -/
def State.repairSlot (s : State) (bad : List Cell) (i j : Nat) : State :=
  let lost (n : Nat) := bad.contains ⟨.palletSlot, 17 * i + n⟩
  match j with
  | 0 => if lost 1 && lost 2 then s.freeSlot i else s.onSlot i fun p => p.safeHeader s.rst.geometry
  | 1 =>
    if lost 2 then s.onSlot i fun p => { p with workpiece := some p.assumed }
    else s.onSlot i fun p => { p with workpiece := p.workpiece.map fun w => { w with disposition := .reject, serial := .lost } }
  | 2 =>
    if lost 1 then s
    else s.onSlot i fun p => { p with workpiece := p.workpiece.map fun w => { w.raiseTo .suspect with serial := .lost } }
  | h + 3 => s.onSlot i fun p =>
      { p with workpiece := p.workpiece.map fun w => { w.raiseTo .suspect with history := loseEntries w.history h } }

/-! ### Lists (R164) -/

/-- A list with the places for which `gone` holds removed; the places behind them move up (R164). -/
def dropPlaces {α : Type} (xs : List α) (gone : Nat → α → Bool) : List α :=
  (xs.zipIdx.filter fun x => !gone x.2 x.1).map (·.1)

/-- Whether the three number-holding cells of slot `i` are all among the damaged cells (R161). -/
def slotLost (bad : List Cell) (i : Nat) : Bool := (List.range 3).all fun j => bad.contains ⟨.palletSlot, 17 * i + j⟩

/-- Whether a grant frees the slot of pallet `n` (R161). -/
def Rst.freed (r : Rst) (bad : List Cell) (n : Nat) : Bool :=
  (List.range 64).any fun i => slotLost bad i && (r.slots.getD i none).any fun p => p.number == n

/-- The return queue after a grant's repairs: lost places, and places whose pallet lost its record, are removed (R161,
R164). `r` is the store before the repairs. -/
def State.repairQueue (s : State) (r : Rst) (bad : List Cell) : State :=
  s.onRst fun x => { x with
    returnQueue := dropPlaces x.returnQueue fun i n => bad.contains ⟨.returnQueue, i⟩ || r.freed bad n }

/-- The load schedule after a grant's repairs; a schedule left empty raises SCHEDULE_EMPTY (R98, R164). The loss of a cell of a
schedule that is empty already raises nothing, by R98; one that the repair empties raises it although the grant then appends an
entry. Both are the model's readings (assumption 11). -/
def State.repairSchedule (s : State) (bad : List Cell) : State :=
  State.noteSchedule s (s.onRst fun r => { r with schedule := dropPlaces r.schedule fun i _ => bad.contains ⟨.schedule, i⟩ })

/-- A completion record whose two header cells are lost (R164). -/
def CompletionRecord.unread (c : CompletionRecord) (number : Nat) : CompletionRecord :=
  { c with number := number, detail := none, serial := .lost }

/-- The number R164 gives the head record when both its header cells are lost: below that of the nearest record behind it
whose number is kept, by their distance; with no such record, the record counter less the records behind (assumption 11 for
more than one record behind). -/
def Rst.rebuiltHead (r : Rst) (lost : Nat → Bool) : Nat :=
  match (List.range r.log.length).find? fun j => !lost j with
  | some j => ((r.log[j]?.map (·.number)).getD 0) - j
  | none => r.recordCounter - (r.log.length - 1)

/-- The number R164 gives record `i` of the log when both its header cells are lost: one more than that of the record ahead,
rebuilt in its turn where that is lost too; the number saturates (R2, R117). -/
def Rst.rebuiltNumber (r : Rst) (lost : Nat → Bool) : Nat → Nat
  | 0 => r.rebuiltHead lost
  | i + 1 => countUp 4294967295 (if lost i then r.rebuiltNumber lost i else (r.log[i]?.map (·.number)).getD 0)

/-- The number R164 gives the last-fetched copy when both its header cells are lost: one less than that of the head record, or
the record counter. -/
def Rst.rebuiltFetched (r : Rst) (lost : Nat → Bool) : Nat :=
  match r.log with
  | [] => r.recordCounter
  | c :: _ => (if lost 0 then r.rebuiltHead lost else c.number) - 1

/-- Which record of the log stands at a log place. -/
def Rst.recordAt (r : Rst) (place : Nat) : Nat := (place + 32 - r.logHead % 32) % 32

/-- The repair of cell `j` of log place `p` for a record: 0 header, 1 header copy, 2 serial, from 3 history (R164).
Both header cells lost: the record is numbered afresh, at the header cell. -/
def CompletionRecord.repair (c : CompletionRecord) (both : Bool) (number j : Nat) : CompletionRecord :=
  match j with
  | 0 => if both then c.unread number else { c with serial := .lost }
  | 1 => if both then c else { c with serial := .lost }
  | 2 => { c with serial := .lost }
  | h + 3 => { c with history := loseEntries c.history h }

/-- Whether both header cells of a log place are among the damaged cells. -/
def bothHeaders (bad : List Cell) (p : Nat) : Bool := (headerPair p).all bad.contains

/-- Whether record `i` of the log has lost both its header cells. -/
def Rst.recordLost (r : Rst) (bad : List Cell) (i : Nat) : Bool := bothHeaders bad (r.logPlace i)

/-- The last-fetched copy after the repair of its cell `j`. With both header cells lost it is in use when the record counter
is greater than the count of records in the log (R160, R164). -/
def Rst.repairFetched (r : Rst) (bad : List Cell) (j : Nat) : Option CompletionRecord :=
  if bothHeaders bad 32 then
    if r.recordCounter ≤ r.log.length then none
    else some ((r.lastFetched.getD { number := 0, detail := none, serial := .lost, history := [] }).repair true
      (r.rebuiltFetched (r.recordLost bad)) j)
  else r.lastFetched.map fun c => c.repair false c.number j

/-- The cells that the repair of cell `j` of log place `p` writes beside it: the repair of a header cell of a record marks the
serial LOST, which writes the serial cell of the place whole (R159, R164). -/
def Rst.serialWrites (r : Rst) (p j : Nat) : List Cell :=
  if j < 2 && (if p = 32 then r.lastFetched.isSome else decide (r.recordAt p < r.log.length)) then [⟨.log, 3 + 17 * p⟩] else []

/-- The repair of a cell of a log place, place 32 being the last-fetched copy (R160, R164). Where both header cells
and the control cell are lost, the control cell's rebuilding counts the place as unused. -/
def State.repairLogPlace (s : State) (bad : List Cell) (p j : Nat) : State :=
  if bothHeaders bad p && bad.contains ⟨.log, 0⟩ then s
  else
    let t := s.onRst fun r =>
      if p = 32 then { r with lastFetched := r.repairFetched bad j }
      else
        let i := r.recordAt p
        { r with log := r.log.modify i fun c => c.repair (bothHeaders bad p) (r.rebuiltNumber (r.recordLost bad) i) j }
    t.rewriteCells (t.rst.serialWrites p j)

/-- The log control cell rebuilt from the log places: the places in use, the head at the lowest record number, and the
record counter the greatest number in use or in the last-fetched copy, or 0 (R164). Records behind a place that is counted as
unused close up (assumption 11). -/
def State.repairLogControl (s : State) (bad : List Cell) : State :=
  s.onRst fun r =>
    let kept := r.log.zipIdx.filter fun x => !r.recordLost bad x.2
    let fetched := if bothHeaders bad 32 then none else r.lastFetched
    let low := kept.foldl (fun m x => min m x.1.number) ((kept.head?.map (·.1.number)).getD 0)
    let first := (kept.findIdx? fun x => x.1.number == low).getD 0
    { r with
      log := ((kept.drop first) ++ kept.take first).map (·.1)
      logHead := r.logPlace ((kept[first]?.map (·.2)).getD 0)
      lastFetched := fetched
      recordCounter := (kept.map (·.1) ++ fetched.toList).foldl (fun m c => max m c.number) 0 }

/-! ### Routing, budget and window (R163) -/

/-- The repair of a routing cell: the sixteen entries of the variant become program 0 (R163). -/
def State.repairRouting (s : State) (i : Nat) : State :=
  s.onRst fun r => { r with routing := r.routing.mapIdx fun j x => if j / 16 = i then 0 else x }

/-- The repair of a budget cell: the budget becomes 0, and a running timer of the pair is left without a limit
(R163, R171). -/
def State.repairBudget (s : State) (i : Nat) : State :=
  let t := s.onRst fun r => { r with budgets := r.budgets.set i 0 }
  if (t.pos (i / 15)).program = some (i % 15 + 1) then t.reformLimit (i / 15) else t

/-! ### One grant's reading -/

/-- Rewrite one damaged cell by its region's rule, with its effect on the IXC. `bad` is every uncorrectable cell of the
grant (R160). The places of the two lists are removed together in `afterRepairs`, so that none moves while another is found by
its place. -/
def State.repairCell (bad : List Cell) (inAdvance : Bool) (s : State) (c : Cell) : State :=
  let t := s.noteDamaged c
  match c.region with
  | .geometry =>
    let both := bad.contains ⟨.geometry, 0⟩ && bad.contains ⟨.geometry, 1⟩
    (if both && c.index == 0 then t.repairBothGeometry bad else t).configRepaired
  | .transfer => (t.repairTransfer c.index).configRepaired
  | .positionConfig => (t.repairConfig c.index).configRepaired
  | .positionTracking => t.repairTracking bad inAdvance c.index
  | .orderDetail => t.repairDetail c.index
  | .palletSlot => t.repairSlot bad (c.index / 17) (c.index % 17)
  | .returnQueue | .schedule => t
  | .log =>
    if c.index = 0 then t.repairLogControl bad else t.repairLogPlace bad ((c.index - 1) / 17) ((c.index - 1) % 17)
  | .routing => t.repairRouting c.index
  | .budget => t.repairBudget c.index
  | .window => t.setWindow (c.index + 1) none

/-- What follows from a grant's repairs taken together, when every damaged value is safe: the lists close up (R161, R164),
and repaired direct settings act as written ones do (R9, R165). `r` is the store before the repairs. -/
def State.afterRepairs (s : State) (r : Rst) (bad : List Cell) : State :=
  let t := (s.repairQueue r bad).repairSchedule bad
  if bad.contains ⟨.transfer, 8⟩ && s.rst.transfer.isSome then t.directWritten else t

/-- The repairs of a grant that finds the uncorrectable cells `bad`, in region order (R160). -/
def State.repairAll (s : State) (bad : List Cell) (inAdvance : Bool) : State :=
  (bad.foldl (State.repairCell bad inAdvance) s).afterRepairs s.rst bad

/-- The cells with an error of one kind that a grant reading `cells` finds, in the order of repairs. -/
def State.found (s : State) (x : CellError) (cells : List Cell) : List Cell :=
  sortCells ((s.rst.errors.filter fun e => (s.readSet cells).contains e.1 && e.2 == x).map (·.1))

/-- The reading of cells in a grant: single-bit errors are corrected, uncorrectable cells rewritten, before the
grant's operation uses any value of them (R159, R160). -/
def State.readCells (s : State) (cells : List Cell) (inAdvance : Bool := false) : State :=
  if s.rst.errors.isEmpty then s
  else
    let good := s.found .correctable cells
    let bad := s.found .uncorrectable cells
    State.repairAll ((good.foldl State.noteCorrected s).rewriteCells (good ++ bad)) bad inAdvance

/-- The cells that a grant reads whose stages of reading are `stages`: each stage is chosen by the values that the reading of
the stages before it leaves, so that a value that is lost picks no other cell (R160). -/
def State.gather (s : State) : List (State → List Cell) → List Cell
  | [] => []
  | f :: fs => f s ++ (s.readCells (f s)).gather fs

/-- The reading of a grant whose cells are chosen in stages: all of them are read and repaired together, in region order
(R159, R160). -/
def State.readStages (s : State) (stages : List (State → List Cell)) (inAdvance : Bool := false) : State :=
  s.readCells (s.gather stages) inAdvance

/-! ### The collection test of a grant -/

/-- The first geometry cell; the other copy is read on need (R165). -/
def geometryCell : List Cell := [⟨.geometry, 0⟩]

/-- The configuration and the tracking cells of the positions in the line, which the collection test reads in COLLECT (R46,
R159). -/
def State.entryCells (s : State) : List Cell :=
  if s.ixc.state == .collect then (List.range s.count).flatMap fun k => [⟨.positionConfig, k⟩, ⟨.positionTracking, k⟩] else []

/-- The collection test of a grant (R47). It reads cells as the rest of the grant does: in COLLECT those of the positions, and,
where the six conditions then hold, the pending settings that the entry to PERMIT copies (R9, R159). A repair among them
leaves COLLECT or a condition unmet. -/
def State.collect (s : State) (g : Gate) : State :=
  if s.ixc.state == .collect then
    let t := s.readStages [fun _ => geometryCell, State.entryCells]
    if t.collected then (t.readCells (transferCells.take 4)).testCollection g else t
  else s

/-- Whether the store has the cell (R158). -/
def cellExists (c : Cell) : Bool := decide (c.index < Region.size c.region)

/-- Cells that have been upset since the last scrubber grant: each disagrees with its check code from then on. A cell
that is named twice holds the later error; a cell the store does not have is no cell. -/
def State.upset (s : State) (us : List (Cell × CellError)) : State :=
  s.onRst fun r =>
    { r with errors := us.foldl (fun es u => if cellExists u.1 then es.filter (fun e => e.1 != u.1) ++ [u] else es) r.errors }

end Sys2Proof.Machine
end

