-- ==== Sys2Proof/Machine/Operands.lean ====
section
/-! DEFINITION. How arguments, fields and frames are laid out in bytes (R180, R184, R191, R192), and the check. -/

namespace Sys2Proof.Machine

/-! ### Numbers (R191, R192): high byte first, signed numbers in two's complement -/

/-- One byte. -/
def u8 (n : Nat) : List Byte := [BitVec.ofNat 8 n]
/-- Two bytes, high byte first. -/
def u16 (n : Nat) : List Byte := [BitVec.ofNat 8 (n / 256), BitVec.ofNat 8 n]
/-- Four bytes, high byte first. -/
def u32 (n : Nat) : List Byte :=
  [BitVec.ofNat 8 (n / 16777216), BitVec.ofNat 8 (n / 65536), BitVec.ofNat 8 (n / 256), BitVec.ofNat 8 n]
/-- A signed count in four bytes. -/
def i32 (x : Int) : List Byte := u32 (BitVec.ofInt 32 x).toNat
/-- A signed count in three bytes (HOME_DRIFT in the STATUS body). -/
def i24 (x : Int) : List Byte := (i32 x).drop 1
/-- The line clock in four bytes. -/
def clockBytes (c : Clock) : List Byte := u32 c.toNat
/-- A set of positions, programs or variants. -/
def maskBytes (m : Mask) : List Byte := u16 m.toNat
/-- A flag, as the enumeration of its two values: 1 for set, yes, active, ON; 2 for the other (assumption 6). -/
def flagByte (b : Bool) : List Byte := u8 (if b then 1 else 2)
/-- A field that may be absent: 0, or 1 and the field. -/
def optBytes {α : Type} (f : α → List Byte) : Option α → List Byte
  | none => [0#8]
  | some x => 1#8 :: f x
/-- A list: the count of its entries in one byte, then the entries. -/
def listBytes {α : Type} (f : α → List Byte) (xs : List α) : List Byte := u8 xs.length ++ xs.flatMap f

/-! ### Enumerations: the value's place, counted from 1 (R192) -/

/-- R10: LOAD, UNLOAD, PROCESS, CHECK, UNUSED. -/
def PositionKind.code : PositionKind → Nat
  | .load => 1 | .unload => 2 | .process => 3 | .check => 4 | .unused => 5
/-- R3: PROCESS or CHECK. -/
def workKindCode : WorkKind → Nat
  | .process => 1 | .check => 2
/-- R10: ACTIVE or BYPASS. -/
def modeCode : Mode → Nat
  | .active => 1 | .bypass => 2
/-- R10: PASS or FAIL. -/
def selfTestCode : SelfTest → Nat
  | .pass => 1 | .fail => 2
/-- R10: IDLE, ORDERED, WORKING, DONE or FAULT. -/
def Phase.code : Phase → Nat
  | .idle => 1 | .ordered => 2 | .working => 3 | .done => 4 | .fault => 5
/-- R10: NONE, PROCESS, CHECK, FEED, LOAD or UNLOAD. -/
def OrderKind.code : OrderKind → Nat
  | .noOrder => 1 | .process => 2 | .check => 3 | .feed => 4 | .load => 5 | .unload => 6
/-- R75: NO_ORDER, OPEN, CLEARED, MISSED, ABANDONED, WITHDRAWN. -/
def Closing.code : Closing → Nat
  | .noOrder => 1 | .opened => 2 | .cleared => 3 | .missed => 4 | .abandoned => 5 | .withdrawn => 6
/-- R28: GOOD, REWORK, SUSPECT or REJECT. -/
def dispositionCode : Disposition → Nat
  | .good => 1 | .rework => 2 | .suspect => 3 | .reject => 4
/-- R117: SHIP, REJECT or REMOVED_AT_LOAD. -/
def LogLane.code : LogLane → Nat
  | .ship => 1 | .reject => 2 | .removedAtLoad => 3
/-- R10: SHIP, REJECT, KEEP or NONE. -/
def Lane.code : Lane → Nat
  | .ship => 1 | .reject => 2 | .keep => 3 | .noLane => 4
/-- R10: OUT or RETURN. -/
def Route.code : Route → Nat
  | .out => 1 | .loop => 2
/-- R106 and R191: MAINTENANCE, NO_SCHEDULE, FIXTURE. -/
def EmptyReason.code : EmptyReason → Nat
  | .maintenance => 1 | .noSchedule => 2 | .fixture => 3
/-- The results of R192. -/
def Result.code : Result → Nat
  | .done => 1 | .incomplete => 2 | .scrapped => 3 | .passed => 4 | .failed => 5 | .loaded _ => 6 | .ready => 7 | .empty => 8
  | .removed => 9 | .unloaded => 10 | .kept => 11 | .stuck => 12 | .noPallet => 13 | .missed => 14 | .abandoned => 15 | .lost => 16
/-- The results of R192, of a history entry. -/
def HistoryResult.code : HistoryResult → Nat
  | .done => 1 | .incomplete => 2 | .scrapped => 3 | .passed => 4 | .failed => 5 | .missed => 14 | .abandoned => 15
/-- R43 and R191: HALT to FAULT. -/
def IxcState.code : IxcState → Nat
  | .halt => 1 | .collect => 2 | .permit => 3 | .carry => 4 | .sweep => 5 | .reseat => 6 | .settle => 7 | .advance => 8 | .fault => 9
/-- R43: AUTO or STEP. -/
def runModeCode : RunMode → Nat
  | .auto => 1 | .step => 2
/-- R43 and R191: INDEX, LEARN, FORWARD, BACK. -/
def MotionKind.code : MotionKind → Nat
  | .index => 1 | .learn => 2 | .forward => 3 | .back => 4
/-- R191: the fault causes. -/
def Cause.code : Cause → Nat
  | .stopped => 1 | .aborted => 2 | .stationFault _ => 3 | .driveFault => 4 | .liftTimeout => 5 | .carryTimeout => 6
  | .overtravel => 7 | .encoderRange => 8 | .stopMiss => 9 | .seat => 10 | .tracking => 11 | .config => 12 | .homeTimeout => 13
/-- The position of STATION_FAULT. -/
def Cause.position : Cause → Option Nat
  | .stationFault k => some k
  | .stopped | .aborted | .driveFault | .liftTimeout | .carryTimeout | .overtravel | .encoderRange | .stopMiss | .seat
  | .tracking | .config | .homeTimeout => none
/-- R131: IDLE, AWAIT_DEPARTURE, ARMED, CAPTURED, NO_ENTRY. -/
def CaptureState.code : CaptureState → Nat
  | .idle => 1 | .awaitDeparture => 2 | .armed => 3 | .captured => 4 | .noEntry => 5
/-- R140: NONE to ABORTED. -/
def LearnState.code : LearnState → Nat
  | .absent => 1 | .inProgress => 2 | .applied => 3 | .held => 4 | .accepted => 5 | .discarded => 6 | .failed => 7 | .aborted => 8
/-- R140 and R191: POSITION, NO_WINDOW, DISJOINT, OUTSIDE. -/
def LearnFailure.code : LearnFailure → Nat
  | .position => 1 | .noWindow => 2 | .disjoint => 3 | .outside => 4
/-- R140: a fault cause by its code in R191, 1 to 13, or LINE_RESET after them as 14; the position of STATION_FAULT is not
sent. The rules number no abort cause: this is the model's choice (assumption 14). -/
def AbortCause.code : AbortCause → Nat
  | .fault c => c.code
  | .lineReset => 14
/-- R141: NOT_EXPECTED, AWAIT_DEPARTURE, ARMED, RISEN, FALLEN. -/
def SweepState.code : SweepState → Nat
  | .notExpected => 1 | .awaitDeparture => 2 | .armed => 3 | .risen => 4 | .fallen => 5
/-- R140: WINDOW, NARROW, OPEN, NO_ARRIVAL, NO_DEPARTURE, NOT_EXPECTED. -/
def SweepOutcome.code : SweepOutcome → Nat
  | .window => 1 | .narrow => 2 | .stillOpen => 3 | .noArrival => 4 | .noDeparture => 5 | .notExpected => 6
/-- R184: the reason codes. -/
def Reason.code : Reason → Nat
  | .wrongState => 1 | .staleOrder => 2 | .unknownPallet => 3 | .duplicatePallet => 4 | .duplicate => 5 | .tableFull => 6
  | .queueFull => 7 | .logFull => 8 | .range => 9 | .notPermitted => 10 | .notInLine => 11 | .notJoined => 12 | .lineRunning => 13
  | .programUnknown => 14 | .routingMismatch => 15 | .geometryAbsent => 16 | .trackingIncomplete => 17
/-- R191: OK, ACCEPTED, BUSY, REFUSED. -/
def ResponseResult.code : ResponseResult → Nat
  | .ok => 0 | .accepted => 1 | .busy => 2 | .refused _ => 3
/-- The reason code of a response, 0 unless REFUSED (R191). -/
def ResponseResult.reasonCode : ResponseResult → Nat
  | .refused r => r.code
  | .ok | .accepted | .busy => 0

/-! ### Compound fields (R192) -/

/-- Sixteen characters, filled with spaces after the last. -/
def padSerial (cs : List Byte) : List Byte := (cs ++ List.replicate 16 32#8).take 16
/-- A serial: 0 absent, 1 present, 2 LOST, then sixteen characters. -/
def serialBytes : Option Serial → List Byte
  | none => 0#8 :: padSerial []
  | some (.text cs) => 1#8 :: padSerial cs
  | some .lost => 2#8 :: padSerial []
/-- An occupant: 1 EMPTY, 2 UNKNOWN, 3 a pallet; then the pallet number, or 0. -/
def occupantBytes : Occupant → List Byte
  | .empty => u8 1 ++ u8 0
  | .unknown => u8 2 ++ u8 0
  | .pallet n => u8 3 ++ u8 n
/-- The fault code of a position (R18): its place in the list of R10, then one byte, the station's code or 0. R192 has no kind
for a name or a number: this form is the model's choice (assumption 14). -/
def FaultCode.bytes : FaultCode → List Byte
  | .noStart => u8 1 ++ u8 0 | .selfTest => u8 2 ++ u8 0 | .store => u8 3 ++ u8 0 | .station c => u8 4 ++ u8 c
/-- An instruction: its place in the lists of R10, with the variant of LOAD or the route of an unload lane behind it and no
presence byte; EMPTY is sent without its reason, which R10 does not name. The layout is the model's choice (assumption 14). -/
def Instruction.bytes : Instruction → List Byte
  | .passTwo => u8 1 | .remove => u8 2 | .empty _ => u8 3 | .load v => u8 4 ++ u8 v
  | .unload l r => u8 l.code ++ u8 r.code
/-- A cell as R159 names it: region, index, pallet number and place. -/
def CellName.bytes (c : CellName) : List Byte :=
  u8 (Region.number c.cell.region) ++ u16 c.cell.index ++ optBytes u8 c.pallet ++ optBytes u8 c.place
/-- A fault record (R60): S, the target and each mask are fields of their own, present for STOP_MISS and SEAT only (R192). -/
def FaultRecord.bytes (f : FaultRecord) : List Byte :=
  u8 f.cause.code ++ optBytes u8 f.cause.position ++
    optBytes (fun c => i32 c.sample) f.check ++ optBytes (fun c => i32 c.target) f.check ++
    optBytes (fun c => maskBytes c.missing) f.check ++ optBytes (fun c => maskBytes c.unexpected) f.check ++
    optBytes (fun k => u8 k.code) f.kind ++ clockBytes f.stamp
/-- A history entry, absent fields reported as absent (R31). -/
def HistoryEntry.bytes : HistoryEntry → List Byte
  | .outcome k g p r t => optBytes u8 (some k) ++ optBytes u8 (some g) ++ optBytes u8 (some p) ++ u8 r.code ++ optBytes u32 t
  | .lost => [0#8, 0#8, 0#8] ++ u8 16 ++ [0#8]

/-! ### Unsolicited frames (R191) -/

/-- The ORDER body, 26 bytes. Its order kinds are counted from 0. -/
def OrderFrame.body (f : OrderFrame) : List Byte :=
  u8 f.position ++ u8 f.number ++ u8 (f.kind.code - 1) ++ u8 (f.program.getD 0) ++ u8 (f.pallet.getD 0) ++
    (match f.workpiece with
      | none => u8 0 ++ padSerial [] ++ u8 0 ++ u8 0
      | some (.text cs, v, p) => u8 1 ++ padSerial cs ++ u8 v ++ u8 p
      | some (.lost, v, p) => u8 2 ++ padSerial [] ++ u8 v ++ u8 p) ++
    (match f.instruction with
      | none => u8 0 ++ u8 0
      | some .passTwo => u8 1 ++ u8 0
      | some .remove => u8 2 ++ u8 0
      | some (.empty r) => u8 3 ++ u8 r.code
      | some (.load v) => u8 4 ++ u8 v
      | some (.unload l r) => u8 (4 + l.code) ++ u8 (match r with | .loop => 1 | .out => 2))

/-- The MOTION body, 13 bytes. -/
def MotionFrame.body (f : MotionFrame) : List Byte :=
  u8 (match f.step with | .start => 1 | .reseat => 2) ++ u8 f.kind.code ++ i32 f.target ++ u16 f.stopBand.toNat ++ i32 f.limit ++
    u8 (match f.sense with | .upper => 1 | .lower => 2)

/-- A store cell in the STATUS body: region and index, or 0. -/
def cellField : Option CellName → List Byte
  | none => u8 0 ++ u16 0
  | some c => u8 (Region.number c.cell.region) ++ u16 c.cell.index

/-- Outcome and detail of LEARN_DONE. -/
def learnField : Option LearnReport → List Byte
  | none => u8 0 ++ u8 0
  | some .applied => u8 1 ++ u8 0
  | some .held => u8 2 ++ u8 0
  | some (.failed r) => u8 3 ++ u8 r.code
  | some (.aborted c) => u8 4 ++ u8 c.code

/-- The values of the attentions, each as the STATUS body carries it, in the order of the table of R186. -/
def StatusContent.fields (c : StatusContent) : List (List Byte) :=
  [u8 ((c.attentions.fault.map Cause.code).getD 0) ++ u8 ((c.attentions.fault.bind Cause.position).getD 255),
   maskBytes c.positionFault, maskBytes c.attentions.overrun, maskBytes c.attentions.locatorDrift,
   i24 (c.attentions.homeDrift.getD 0), learnField c.attentions.learnDone, [], u8 (c.attentions.logFull.getD 0), [],
   u8 ((c.attentions.orderSlip.map (·.1)).getD 0) ++ u8 ((c.attentions.orderSlip.map (·.2)).getD 0),
   u8 (c.attentions.unknownPallet.getD 0),
   u8 ((c.attentions.fixtureMismatch.map (·.1)).getD 0) ++ u8 ((c.attentions.fixtureMismatch.map (·.2)).getD 0),
   u8 (c.attentions.duplicateSerial.getD 0), u8 (c.attentions.maintenanceOut.getD 0),
   cellField c.attentions.storeCorrected, cellField c.attentions.storeDamaged]

/-- The attentions present, the first in the most significant bit. -/
def presentBytes (ps : List Bool) : List Byte := u16 (ps.foldl (fun n b => 2 * n + (if b then 1 else 0)) 0)

/-- The STATUS body, 35 bytes. -/
def statusBody (sequence : Nat) (c : StatusContent) : List Byte :=
  u16 sequence ++ u8 c.ixc.code ++ u8 ((c.fault.map (·.cause.code)).getD 0) ++
    u8 ((c.fault.bind (·.cause.position)).getD 255) ++ u8 (if c.motionPending then 1 else 0) ++ presentBytes c.present ++
    c.fields.flatten

/-! ### Frames (R180, R184, R191) -/

/-- One bit of the check: generator x¹⁶ + x¹² + x⁵ + 1. -/
def crcBit (r : BitVec 16) : BitVec 16 := if r.msb then (r <<< 1) ^^^ 0x1021#16 else r <<< 1
/-- One byte of the check, most significant bit first. -/
def crcByte (r : BitVec 16) (b : Byte) : BitVec 16 :=
  (List.range 8).foldl (fun x _ => crcBit x) (r ^^^ (b.zeroExtend 16 <<< 8))
/-- The check over a frame's bytes from the length byte on: initial value 65,535, no final inversion (R180). -/
def crc (bs : List Byte) : BitVec 16 := bs.foldl crcByte 0xFFFF#16

/-- The check of a frame with a kind, a tag and a body (R180). -/
def frameCheck (kind tag : Byte) (body : List Byte) : BitVec 16 := crc (BitVec.ofNat 8 body.length :: kind :: tag :: body)

/-- A whole frame (R180, R191). -/
def frameBytes (kind tag : Byte) (body : List Byte) : List Byte :=
  [165#8, BitVec.ofNat 8 body.length, kind, tag] ++ body ++ u16 (frameCheck kind tag body).toNat

/-- Data cut into pieces of `n` bytes. -/
def piecesOf (n : Nat) : Nat → List Byte → List (List Byte)
  | 0, _ => []
  | _ + 1, [] => []
  | fuel + 1, xs => xs.take n :: piecesOf n fuel (xs.drop n)

/-- The continuation bodies of a response: an index from 1 and up to 239 further bytes each (R184). -/
def Response.continuations (r : Response) : List (List Byte) :=
  (piecesOf 239 r.data.length (r.data.drop 237)).mapIdx fun i p => BitVec.ofNat 8 (i + 1) :: p

/-- The body of a response frame (R191). -/
def Response.body (r : Response) : List Byte :=
  u8 r.result.code ++ u8 r.result.reasonCode ++ u8 r.continuations.length ++ r.data.take 237

/-- The frames a transmitter sends for one item: a response and its continuations back to back, or one unsolicited
frame with tag 0 (R184, R185, R191). -/
def Outgoing.frames : Outgoing → List (List Byte)
  | .response r => frameBytes 64#8 r.tag r.body :: r.continuations.map (frameBytes 65#8 r.tag)
  | .unsolicited (.order f) => [frameBytes 66#8 0#8 f.body]
  | .unsolicited (.motion f) => [frameBytes 67#8 0#8 f.body]
  | .unsolicited (.status n c) => [frameBytes 68#8 0#8 (statusBody n c)]

end Sys2Proof.Machine
end

