-- ==== Sys2Proof/Machine/Bodies.lean ====
section
/-! DEFINITION. The data of the responses to the READ requests and of the other responses that carry records: the
fields each rule returns, in the order in which it names them (R192). -/

namespace Sys2Proof.Machine

/-! ### Geometry and settings -/

/-- The geometry header of READ POSITION: present or absent, and N, P, Q, the service interval, Tlo and Thi (R18). -/
def State.geometryHeader (s : State) : List Byte :=
  optBytes (fun g => u8 g.count ++ u32 g.pitch ++ u8 g.resolution ++ u16 g.service ++ i32 g.tlo ++ i32 g.thi) s.rst.geometry

/-- The pending and the working value of every setting in the order of the table of R7 (R8). A direct setting's single
copy is both. -/
def Transfer.bytes (t : Transfer) : List Byte :=
  let p := t.pending; let w := t.working
  i32 p.target ++ i32 w.target ++ u16 p.stopBand.toNat ++ u16 w.stopBand.toNat ++ u16 p.overtravel.toNat ++ u16 w.overtravel.toNat ++
    u16 p.sweepMargin.toNat ++ u16 w.sweepMargin.toNat ++ i32 p.bias ++ i32 w.bias ++ u16 p.minWidth.toNat ++ u16 w.minWidth.toNat ++
    u16 p.driftLimit.toNat ++ u16 w.driftLimit.toNat ++ u16 p.entryTolerance.toNat ++ u16 w.entryTolerance.toNat ++
    u16 p.homeTolerance.toNat ++ u16 w.homeTolerance.toNat ++ flagByte p.extend ++ flagByte w.extend ++
    u16 p.settleTime ++ u16 w.settleTime ++ u16 p.liftTimeout ++ u16 w.liftTimeout ++ u16 p.carryTimeout ++ u16 w.carryTimeout ++
    u32 p.sweepTimeout ++ u32 w.sweepTimeout ++ u16 p.homeTimeout ++ u16 w.homeTimeout ++
    u16 t.startTimeout ++ u16 t.startTimeout ++ u8 t.budgetTolerance ++ u8 t.budgetTolerance

/-- The settings of both copies, or nothing while none holds a value. -/
def State.settingsBytes (s : State) : List Byte := match s.rst.transfer with | none => [] | some t => t.bytes

/-- The response of SET GEOMETRY: the record as taken, the placed target T, and both copies of the settings (R4). That the two copies
are sent setting by setting, pending then working, with each direct setting's one value twice, as in the response of SET TRANSFER,
is the model's choice (assumption 14). -/
def State.geometryBody (s : State) : List Byte :=
  match s.rst.geometry with
  | none => []
  | some g => u8 g.count ++ listBytes (fun k => u8 (workKindCode k)) g.kinds ++ u32 g.pitch ++ u8 g.resolution ++ u16 g.service ++
      i32 s.working.target ++ s.settingsBytes

/-! ### Positions and orders -/

/-- A position's entry: every field of R10, and the serial and the variant of the occupant's workpiece, both absent where it has
none (R18, R192). -/
def State.positionEntry (s : State) (k : Nat) : List Byte :=
  let p := s.pos k
  u8 p.kind.code ++ u8 (modeCode p.mode) ++ optBytes (fun j => maskBytes j.programs ++ u8 (selfTestCode j.selfTest)) p.joined ++
    occupantBytes p.occupant ++ u8 p.phase.code ++ optBytes FaultCode.bytes p.faultCode ++ u8 p.orderNumber ++
    u8 p.orderKind.code ++ optBytes u8 p.program ++ optBytes Instruction.bytes p.instruction ++ flagByte p.hold ++
    serialBytes (((s.palletAt k).bind s.workpiece).map (·.serial)) ++ optBytes (fun w => u8 w.variant) ((s.palletAt k).bind s.workpiece)

/-- READ POSITION (R18). -/
def State.positionBody (s : State) (k : Option Nat) : List Byte :=
  s.geometryHeader ++ match k with
    | some k => s.positionEntry k
    | none => listBytes s.positionEntry (List.range 16)

/-- The current order: number, kind, program or instruction. -/
def Position.orderBytes (p : Position) : List Byte :=
  u8 p.orderNumber ++ u8 p.orderKind.code ++ optBytes u8 p.program ++ optBytes Instruction.bytes p.instruction

/-- An entry of READ ORDER (R85). -/
def State.orderEntry (s : State) (k : Nat) : List Byte :=
  let p := s.pos k
  let d := s.detail k
  let w := (s.palletAt k).bind s.workpiece
  u8 (modeCode p.mode) ++ u8 p.phase.code ++ optBytes FaultCode.bytes p.faultCode ++ p.orderBytes ++
    u8 d.copyNumber ++ u8 d.copyKind.code ++ u8 d.closing.code ++ optBytes (fun r => u8 r.code) d.resultTaken ++
    optBytes (fun f => u8 f.1 ++ clockBytes f.2) d.faultReport ++ u16 d.faultCount ++
    flagByte (s.startTimer k).isSome ++
    optBytes (fun v => u16 (((s.rst.transfer.map (·.startTimeout)).getD 0) - v)) (s.startTimer k) ++
    flagByte (s.work k).running.isSome ++
    optBytes (fun w => u8 w.variant) w ++ optBytes (fun w => u8 (dispositionCode w.disposition)) w ++ optBytes (fun w => u8 w.pass) w ++
    optBytes (fun w => u8 (s.routing w.variant k)) w

/-- READ ORDER (R85). -/
def State.orderBody (s : State) (k : Option Nat) : List Byte :=
  match k with
  | some k => s.orderEntry k
  | none => listBytes s.orderEntry (List.range 16)

/-- Whether a routing entry would make RUN refuse with ROUTING_MISMATCH (R74). -/
def State.routingMismatch (s : State) (v k : Nat) : Bool :=
  let p := s.pos k
  s.routing v k != 0 && p.mode == .active && (p.kind == .process || p.kind == .check) &&
    p.joined.any fun j => !member j.programs (s.routing v k)

/-- A routing entry and its flag (R74). -/
def State.routingEntry (s : State) (v k : Nat) : List Byte := u8 (s.routing v k) ++ flagByte (s.routingMismatch v k)

/-- READ ROUTING in its three forms (R74). -/
def State.routingBody (s : State) (v k : Option Nat) : List Byte :=
  match v, k with
  | some v, some k => s.routingEntry v k
  | some v, none => listBytes (s.routingEntry v) (List.range 16)
  | none, _ => listBytes (fun i => s.routingEntry (i / 16 + 1) (i % 16)) (List.range 128)

/-! ### Pallets -/

/-- A derived location and what is reported with it (R22): its place in the table of R22, then k or the queue place in one byte
without a presence byte, and nothing after OUT; the layout is the model's choice (assumption 14). -/
def Location.bytes : Location → List Byte
  | .position k => u8 1 ++ u8 k
  | .queue i => u8 2 ++ u8 i
  | .out => u8 3

/-- The header fields of R21 and the maintenance-due standing (R37). -/
def State.standingBytes (s : State) (p : Pallet) : List Byte :=
  u8 p.number ++ maskBytes p.variants ++ u16 p.clamps ++ flagByte p.divert ++ flagByte p.damaged ++ flagByte (s.maintenanceDue p)

/-- The header and its standing, with the service interval it was judged against (R39). -/
def State.headerBytes (s : State) (p : Pallet) : List Byte := s.standingBytes p ++ optBytes (fun g => u16 g.service) s.rst.geometry

/-- A pallet record with its location and its workpiece (R39). -/
def State.palletBody (s : State) (p : Pallet) : List Byte :=
  s.headerBytes p ++ (s.location p.number).bytes ++
    optBytes (fun w => serialBytes (some w.serial) ++ u8 w.variant ++ u8 (dispositionCode w.disposition) ++ u8 w.pass ++
      listBytes HistoryEntry.bytes w.history) p.workpiece

/-- A summary of a pallet record (R40). -/
def State.palletSummary (s : State) (p : Pallet) : List Byte :=
  u8 p.number ++ (s.location p.number).bytes ++ u16 p.clamps ++ flagByte (s.maintenanceDue p) ++ flagByte p.divert ++
    flagByte p.damaged ++ optBytes (fun w => u8 (dispositionCode w.disposition) ++ u8 w.pass) p.workpiece

/-- READ PALLET with no number (R40). -/
def State.palletsBody (s : State) : List Byte :=
  listBytes s.palletSummary s.palletsAscending ++ u8 s.palletCount ++ u8 (64 - s.palletCount)

/-! ### Index Controller -/

/-- READ INDEX: the controller record of R43 and the levels (R71). -/
def State.indexBody (s : State) : List Byte :=
  let i := s.ixc
  u8 i.state.code ++ u8 (runModeCode i.runMode) ++ flagByte i.motion.isSome ++ flagByte i.haltRequested ++ flagByte i.indexPending ++
    flagByte i.learnArmed ++ flagByte i.lineHold ++
    optBytes (fun m => u8 m.kind.code ++ maskBytes m.origin ++ i32 m.target ++ optBytes i32 m.sample) i.motion ++
    optBytes FaultRecord.bytes i.currentFault ++ optBytes FaultRecord.bytes i.lastFault ++ flagByte i.driveJoined ++
    flagByte i.driveFaulted ++ flagByte s.liftPermit ++ flagByte s.returnPermit ++ flagByte s.pins.home ++ flagByte s.pins.lineStop

/-! ### Return queue, schedule and log -/

/-- READ RETURN (R97). -/
def State.returnBody (s : State) : List Byte :=
  let q := s.rst.returnQueue
  u8 q.length ++ u8 (64 - q.length) ++
    listBytes (fun x : Nat × Nat => u8 x.2 ++ u8 x.1 ++
      optBytes (fun w => u8 (dispositionCode w.disposition) ++ u8 w.pass) (s.workpiece x.1) ++
      flagByte ((s.pallet x.1).any (·.divert)) ++ flagByte ((s.pallet x.1).any s.maintenanceDue)) q.zipIdx

/-- The total of the remaining quantities (R101). -/
def State.scheduleTotal (s : State) : Nat := s.rst.schedule.foldl (fun n e => n + e.quantity) 0

/-- READ SCHEDULE (R101). -/
def State.scheduleBody (s : State) : List Byte :=
  listBytes (fun x : ScheduleEntry × Nat => u8 x.2 ++ u8 x.1.variant ++ u16 x.1.quantity) s.rst.schedule.zipIdx ++
    u8 s.rst.schedule.length ++ u32 s.scheduleTotal ++ u8 (32 - s.rst.schedule.length)

/-- A completion record (R117). A field reported as LOST is sent as 0 (assumption 7). -/
def CompletionRecord.bytes (c : CompletionRecord) : List Byte :=
  let d := c.detail
  u32 c.number ++ u8 ((d.map (·.lane.code)).getD 0) ++ u8 ((d.map (·.pallet)).getD 0) ++ serialBytes (some c.serial) ++
    u8 ((d.map (·.variant)).getD 0) ++ u8 ((d.map fun x => dispositionCode x.disposition).getD 0) ++ u8 ((d.map (·.passes)).getD 0) ++
    listBytes HistoryEntry.bytes c.history ++ clockBytes ((d.map (·.stamp)).getD 0#32)

/-- READ COMPLETION (R120). -/
def State.completionBody (s : State) : List Byte :=
  let l := s.rst.log
  u8 l.length ++ u8 (32 - l.length) ++ optBytes (fun c => u32 c.number) l.head? ++ optBytes (fun c => u32 c.number) l.getLast? ++
    optBytes CompletionRecord.bytes l.head? ++ optBytes CompletionRecord.bytes s.rst.lastFetched ++ u32 s.rst.recordCounter

/-! ### Bar position -/

/-- An entry-capture record (R131). -/
def EntryCapture.bytes (c : EntryCapture) : List Byte :=
  u8 c.state.code ++ optBytes i32 c.entry ++ optBytes i32 c.drift ++ u32 c.largest

/-- The working and the pending T, two fields (R126, R152). -/
def State.targetsBytes (s : State) : List Byte :=
  optBytes (fun t => i32 t.working.target) s.rst.transfer ++ optBytes (fun t => i32 t.pending.target) s.rst.transfer

/-- The sweep limit where READ TARGET reports it: during SWEEP, and in PERMIT of a LEARN motion (R126). -/
def State.reportedSweepLimit (s : State) : Option Int :=
  if s.ixc.state == .sweep || (s.ixc.state == .permit && s.motionKind == some .learn) then some s.sweepLimit else none

/-- READ TARGET (R126), each value that may be absent as a field of its own (R192). The limit of a pending motion is sent in every
state, in ADVANCE and FAULT too (assumption 31). -/
def State.targetBody (s : State) : List Byte :=
  optBytes (fun g => u32 g.pitch ++ u8 g.resolution ++ i32 g.tlo ++ i32 g.thi) s.rst.geometry ++
    s.targetsBytes ++ optBytes (fun t => u16 t.working.stopBand.toNat) s.rst.transfer ++
    optBytes (fun t => u16 t.working.overtravel.toNat) s.rst.transfer ++
    optBytes (fun m => u8 m.kind.code) s.ixc.motion ++ optBytes (fun m => i32 m.target) s.ixc.motion ++
    optBytes (fun m => i32 (s.overtravelLimit m).1) s.ixc.motion ++
    optBytes i32 s.reportedSweepLimit ++ i32 s.btk.counter ++ flagByte s.btk.saturated ++ u16 s.btk.transitionErrors ++
    optBytes i32 s.btk.lastHomeError ++ u32 s.btk.largestHomeError ++ flagByte s.pins.home ++ flagByte s.returnPermit ++
    listBytes EntryCapture.bytes s.btk.captures

/-! ### Learning -/

/-- A per-position entry of the learn result record, with its width (R140). -/
def SweepEntry.bytes (e : SweepEntry) : List Byte :=
  flagByte e.expected ++ u8 e.capture.code ++ optBytes i32 e.low ++ optBytes i32 e.high ++
    optBytes i32 (match e.low, e.high with | some l, some h => some (h - l) | _, _ => none) ++
    optBytes (fun o => u8 o.code) e.outcome

/-- The two counts of one field of the learn result record (R140). -/
def countPair (x : Int × Int) : List Byte := i32 x.1 ++ i32 x.2

/-- The learn result record with every field of R140, each row of its table one field that may be absent (R152, R192). The
per-position entries are absent before the first learn. -/
def LearnRecord.bytes (r : LearnRecord) : List Byte :=
  u8 r.state.code ++ optBytes (fun f => u8 f.code) r.failure ++ optBytes (fun c => u8 c.code) r.abortCause ++
    optBytes (fun x => i32 x.start ++ u16 x.sweepMargin.toNat ++ i32 x.limit ++ i32 x.bias ++ u16 x.minWidth.toNat ++
      u16 x.driftLimit.toNat ++ flagByte x.extend) r.settings ++
    optBytes clockBytes r.startTime ++ optBytes clockBytes r.endTime ++
    optBytes (listBytes SweepEntry.bytes) (if r.entries.isEmpty then none else some r.entries) ++
    optBytes countPair r.intersection ++ optBytes i32 r.centre ++ optBytes countPair r.candidate ++ optBytes countPair r.margins ++
    optBytes i32 r.drift ++ optBytes i32 r.resulting

/-- A window, or none. -/
def windowBytes (w : Option Window) : List Byte := optBytes (fun x => i32 x.low ++ i32 x.high) w

/-- READ LEARN (R152): the counter and the sweep limit while the record is IN_PROGRESS, the windows, both copies of T, and Tlo and
Thi, each a field of its own where it may be absent (R192). -/
def State.learnBody (s : State) : List Byte :=
  flagByte s.ixc.learnArmed ++ s.wlu.record.bytes ++
    optBytes i32 (if s.wlu.record.state == .inProgress then some s.btk.counter else none) ++
    optBytes i32 (if s.wlu.record.state == .inProgress then some s.sweepLimit else none) ++
    listBytes windowBytes s.rst.windows ++ s.targetsBytes ++
    optBytes (fun g => i32 g.tlo) s.rst.geometry ++ optBytes (fun g => i32 g.thi) s.rst.geometry

/-! ### Store -/

/-- READ STORE (R167). -/
def State.storeBody (s : State) : List Byte :=
  let r := s.rst
  u16 r.corrections ++ u16 r.damages ++ optBytes CellName.bytes r.lastCorrected ++ optBytes CellName.bytes r.lastDamaged ++
    u8 (Region.number r.walk.region) ++ u16 r.walk.index ++ u8 (s.aar.pointer.place + 1) ++ u8 s.aar.workList.length ++
    flagByte r.unconfirmed

/-! ### Timing -/

/-- A budget and its limit (R170). -/
def State.budgetEntry (s : State) (k g : Nat) : List Byte :=
  u32 (s.budget k g) ++ optBytes u32 (budgetLimit s.tolerance (s.budget k g))

/-- READ BUDGET (R170). All 240 are sent as one list, position by position and in ascending program, which is the model's choice
(assumption 14). -/
def State.budgetBody (s : State) (k : Option Nat) : List Byte :=
  match k with
  | some k => listBytes (fun i => s.budgetEntry k (i + 1)) (List.range 15)
  | none => listBytes (fun i => s.budgetEntry (i / 15) (i % 15 + 1)) (List.range 240)

/-- The last, shortest and longest of a measured time (R176). -/
def Span.bytes (x : Span) : List Byte := optBytes u32 x.last ++ optBytes u32 x.shortest ++ optBytes u32 x.longest

/-- A gating source: its place among the twenty classes of R175, the sixteen positions first (R192). -/
def Gate.bytes : Gate → List Byte
  | .position k => u8 (k + 1) | .home => u8 17 | .supervisor => u8 18 | .drive => u8 19 | .stop => u8 20

/-- A position's part of READ TIMING (R176). A timer is sent as a presence byte, which says that it runs, and its value; a limit
is absent for a timer without one, stopped timers and those of LOAD and UNLOAD orders among them. Both forms are the model's
choice (assumption 14). -/
def State.timingEntry (s : State) (k : Nat) : List Byte :=
  let x := s.stats k
  let w := s.work k
  optBytes u32 x.last ++ optBytes u32 x.longest ++ u16 x.overruns ++ u16 x.gating ++ optBytes u32 w.running ++
    optBytes u32 w.limit ++ flagByte w.overrunTaken

/-- READ TIMING (R176). The recovered mark is absent where the last index time is (R177). The index timer and the cycle timer are
sent as a presence byte, which says that they run, and their value (assumption 14). -/
def State.timingBody (s : State) (k : Option Nat) : List Byte :=
  let c := s.ctm
  clockBytes c.clock ++ c.indexTimes.bytes ++ optBytes flagByte c.lastIndexRecovered ++ optBytes u32 c.indexTimer ++ c.cycleTimes.bytes ++
    optBytes u32 c.cycleTimer ++ u32 c.advances ++ optBytes (fun g => g.1.bytes) c.lastGate ++ optBytes (fun g => clockBytes g.2) c.lastGate ++
    u16 c.gateHome ++ u16 c.gateSupervisor ++ u16 c.gateDrive ++ u16 c.gateStop ++
    match k with
    | some k => s.timingEntry k
    | none => listBytes s.timingEntry (List.range 16)

/-! ### Attentions -/

/-- What LEARN_DONE carries: the outcome, the failure reason of FAILED and the abort cause of ABORTED (R186). -/
def LearnReport.bytes : LearnReport → List Byte
  | .applied => u8 1 ++ optBytes u8 none ++ optBytes u8 none
  | .held => u8 2 ++ optBytes u8 none ++ optBytes u8 none
  | .failed r => u8 3 ++ optBytes u8 (some r.code) ++ optBytes u8 none
  | .aborted c => u8 4 ++ optBytes u8 none ++ optBytes u8 (some c.code)

/-- The values that a raised acknowledgeable attention carries, by its place in the table of R186 from 0, encoded as R192 gives
for the data of a response. A cell is named as R159 names it. -/
def Attentions.value (a : Attentions) : Nat → List Byte
  | 0 => a.fault.elim [] fun c => u8 c.code ++ optBytes u8 c.position
  | 2 => maskBytes a.overrun
  | 3 => maskBytes a.locatorDrift
  | 4 => a.homeDrift.elim [] i32
  | 5 => a.learnDone.elim [] LearnReport.bytes
  | 7 => a.logFull.elim [] u8
  | 9 => a.orderSlip.elim [] fun x => u8 x.1 ++ u8 x.2
  | 10 => a.unknownPallet.elim [] u8
  | 11 => a.fixtureMismatch.elim [] fun x => u8 x.1 ++ u8 x.2
  | 12 => a.duplicateSerial.elim [] u8
  | 13 => a.maintenanceOut.elim [] u8
  | 14 => a.storeCorrected.elim [] CellName.bytes
  | 15 => a.storeDamaged.elim [] CellName.bytes
  | _ => []

/-! ### Status and links -/

/-- READ STATUS: the STATUS body with the current sequence number (R190). -/
def State.statusReply (s : State) : List Byte := statusBody s.liu.sequence s.statusContent

/-- READ LINKS (R190). -/
def State.linksBody (s : State) : List Byte :=
  listBytes (fun r => u16 r.errorCount ++ u16 r.busyCount ++ flagByte r.outstanding ++ u8 r.responses.length ++
    flagByte r.unsolicited.isSome) s.liu.links

end Sys2Proof.Machine
end

