-- ==== Sys2Proof/Machine/Grant.lean ====
section
/-! DEFINITION. How a command is carried out: an event between grants, and a link grant with its admission (R183), its
reading of cells (R155, R159, R160), its operation and its response (R184), each closed by the STATUS frame that a
change of the status content posts (R187). -/

namespace Sys2Proof.Machine

/-- What a command of this block answers. No command stops. -/
abbrev Out := Host.Outcome State Fault Refusal

/-! ### Events -/

/-- An event outside any link grant. While the device is held in reset it has no effect (R193). -/
def State.event (s : State) (f : State → State) : Out :=
  if s.pins.resetInput then .next s else .next (State.closeEvent s (f s))

/-! ### Responses -/

/-- The reply an operation forms: the result and the data (R184). `moved` marks an operation that changes the Index
Controller state whatever the content ends as: a taken RECOVER. -/
structure Reply where
  result : ResponseResult
  data : List Byte
  moved : Bool := false
deriving DecidableEq, Repr

/-- The request was taken and its work is complete (R184). -/
def ok (s : State) (data : List Byte := []) : State × Reply := (s, { result := .ok, data := data })
/-- RUN, INDEX, LEARN or RECOVER was taken (R157, R184). -/
def accepted (s : State) (data : List Byte := []) : State × Reply := (s, { result := .accepted, data := data })
/-- The request is refused with a reason (R184). -/
def refuse (s : State) (r : Reason) (data : List Byte := []) : State × Reply := (s, { result := .refused r, data := data })

/-- Append a response to a link's response queue (R183, R184). -/
def State.respond (s : State) (l : Link) (r : Response) : State :=
  s.onLink l fun x => { x with responses := x.responses ++ [r] }

/-- Increase a link's error count (R182, R183). -/
def State.linkError (s : State) (l : Link) : State := s.onLink l fun x => { x with errorCount := countUp 65535 x.errorCount }

/-! ### Admission (R183, request index 10.7) -/

/-- The links on which a request is permitted. JOIN is permitted on the station links and on DRVL, with a body of its
own on each. -/
inductive Permit where
  | all
  | station
  | drive
  | supervisor
  | stationJoin
  | driveJoin
deriving DecidableEq, Repr

/-- What the LIU refuses a request with under cases 4 and 5 of R183, by the link it arrives on. -/
def Permit.refusal : Permit → Link → Option Reason
  | .all, _ => none
  | .station, .sl _ => none
  | .station, _ => some .notPermitted
  | .drive, .drvl => none
  | .drive, _ => some .notPermitted
  | .supervisor, .supl => none
  | .supervisor, _ => some .notPermitted
  | .stationJoin, .sl _ => none
  | .stationJoin, .drvl => some .range
  | .stationJoin, .supl => some .notPermitted
  | .driveJoin, .drvl => none
  | .driveJoin, .sl _ => some .range
  | .driveJoin, .supl => some .notPermitted

/-- Case 1 of R183: no place is left for a response. -/
def LinkRecord.full (r : LinkRecord) : Bool := decide (4 ≤ r.responses.length) || (decide (3 ≤ r.responses.length) && r.outstanding)

/-- Cases 1 and 2 of R183, and what cases 3 to 6 do otherwise: a refusal answered by the LIU, or the request in its
slot. The second component says whether the request stands in its slot. -/
def State.place (s : State) (l : Link) (tag : Byte) (verdict : Except Reason Instr) : State × Bool :=
  if (s.link l).full then (s.linkError l, false)
  else if (s.link l).outstanding then
    ((s.respond l { tag := tag, result := .busy, data := [] }).onLink l fun x => { x with busyCount := countUp 65535 x.busyCount }, false)
  else match verdict with
    | .error r => (s.respond l { tag := tag, result := .refused r, data := [] }, false)
    | .ok i => (s.onLink l fun x => { x with slot := some i }, true)

/-- A request that comes to its grant: it stands in its link's slot already, or it arrives now and is treated as R183
gives. -/
def State.offer (s : State) (i : Instr) (p : Permit) (l : Link) (tag : Byte) : State × Bool :=
  if (s.link l).slot = some i then (s, true)
  else s.place l tag (match p.refusal l with | some r => .error r | none => .ok i)

/-! ### The grant -/

/-- The end of a link grant: the slot is emptied, the response joins the queue (R155, R183), and a change of the status
content posts a STATUS frame (R187). -/
def State.closeGrant (before : State) (l : Link) (tag : Byte) (r : State × Reply) : State :=
  let t := r.1.onLink l fun x =>
    { x with slot := none, responses := x.responses ++ [{ tag := tag, result := r.2.result, data := r.2.data }] }
  if t.statusContent = before.statusContent && !r.2.moved then t else t.postStatus

/-- A link grant whose request stands in its slot: the pointer moves on (R154), the cells are read, and the operation is
carried out whole (R155). -/
def State.serve (before s : State) (l : Link) (tag : Byte) (cells : List (State → List Cell))
    (op : State → State × Reply) : State :=
  let t := s.onAar fun a => { a with pointer := l.next }
  State.closeGrant before l tag (op (t.readStages cells))

/-- A request of a party: nothing happens in reset (R193); otherwise it is treated as R183 gives, and is granted when it
stands in its slot. -/
def State.grant (s : State) (i : Instr) (p : Permit) (l : Link) (tag : Byte) (cells : List (State → List Cell))
    (op : State → State × Reply) : Out :=
  if s.pins.resetInput then .next s
  else
    let x := s.offer i p l tag
    if x.2 then .next (State.serve s x.1 l tag cells op) else .next x.1

/-- Nothing waits for the store: the IXC work list is empty, and no link's slot holds a request (R154). -/
def State.quiet (s : State) : Bool :=
  s.aar.workList.isEmpty && (List.range 18).all fun i => (s.link (Link.at i)).slot.isNone

/-! ### Cells that grants read

A grant names its cells in stages, a cell that another's value picks in a later stage than that other (`State.gather`). -/

/-- The configuration, tracking and detail cells of position `k`. -/
def positionCells (k : Nat) : List Cell := [⟨.positionConfig, k⟩, ⟨.positionTracking, k⟩, ⟨.orderDetail, k⟩]
/-- The three cells of every position. -/
def everyPosition : List Cell := (List.range 16).flatMap positionCells
/-- The three cells of every position in the line. -/
def State.linePositions (s : State) : List Cell := (List.range s.count).flatMap positionCells
/-- The tracking cells of the positions in the line. -/
def State.lineTracking (s : State) : List Cell := trackingCells s.count
/-- The header cells of all pallet slots. -/
def headerCells : List Cell := (List.range 64).map fun i => ⟨.palletSlot, 17 * i⟩
/-- The serial cells of all pallet slots. -/
def serialCells : List Cell := (List.range 64).map fun i => ⟨.palletSlot, 17 * i + 2⟩
/-- The cells of a slot: only the three number-holding cells where these are all lost, because the slot is then freed (R161). -/
def State.slotReads (s : State) (i : Nat) : List Cell :=
  if ((slotCells i).take 3).all s.damagedCell then (slotCells i).take 3 else slotCells i
/-- The cells of a pallet's slot. -/
def State.palletCells (s : State) (n : Nat) : List Cell := match s.slotOf n with | none => [] | some i => s.slotReads i
/-- The cells of the slot of position `k`'s occupant. -/
def State.occupantCells (s : State) (k : Nat) : List Cell := match s.palletAt k with | none => [] | some n => s.palletCells n
/-- The cells of the slots of all occupants. -/
def State.everyOccupant (s : State) : List Cell := (List.range 16).flatMap s.occupantCells
/-- The cells of the slots of the occupants of the line. -/
def State.lineOccupants (s : State) : List Cell := (List.range s.count).flatMap s.occupantCells
/-- The tracking cells and the queue places, from which a location is derived (R22). -/
def State.locationCells (s : State) : List Cell := trackingCells 16 ++ s.queueCells
/-- Every routing cell. -/
def routingCells : List Cell := (List.range 8).map fun i => ⟨.routing, i⟩
/-- The budget cells of position `k`. -/
def budgetCells (k : Nat) : List Cell := (List.range 15).map fun i => ⟨.budget, 15 * k + i⟩
/-- The cells of the log's head record and tail record, which the control cell places, and the last-fetched copy (R120). -/
def State.completionCells (s : State) : List Cell :=
  (if s.rst.log.isEmpty then [] else
    logCells (s.rst.logHead % 32) ++ logCells ((s.rst.logHead + s.rst.log.length - 1) % 32)) ++ logCells 32

/-! ### Position arguments and pallet numbers -/

/-- A pallet number 0 or greater than 255 is out of range. -/
def badNumber (n : Nat) : Bool := n == 0 || decide (255 < n)
/-- A fixture variant mask that is empty or names a variant outside 1 to 8 is out of range (R34, R37). -/
def badVariants (m : Mask) : Bool := m == 0#16 || (m &&& 0x1FE#16) != m

end Sys2Proof.Machine
end

