-- ==== Sys2Proof/Machine/Requests.lean ====
section
/-! DEFINITION. The bodies of requests: from a frame's kind, tag and body to the command (R191, R192, request index 10.7),
and the links on which each kind is permitted. -/

namespace Sys2Proof.Machine

/-! ### Numbers -/

/-- A big-endian number. -/
def number (bs : List Byte) : Nat := bs.foldl (fun n b => n * 256 + b.toNat) 0
/-- A signed count in four bytes. -/
def signedNumber (bs : List Byte) : Int := (BitVec.ofNat 32 (number bs)).toInt
/-- A set in two bytes. -/
def setOf (a b : Byte) : Mask := a ++ b

/-! ### Enumerations (R192): codes that stand for no value give `none` -/

/-- PROCESS or CHECK. -/
def workKindOf (b : Byte) : Option WorkKind := if b = 1#8 then some .process else if b = 2#8 then some .check else none
/-- ACTIVE or BYPASS. -/
def modeOf (b : Byte) : Option Mode := if b = 1#8 then some .active else if b = 2#8 then some .bypass else none
/-- PASS or FAIL. -/
def selfTestOf (b : Byte) : Option SelfTest := if b = 1#8 then some .pass else if b = 2#8 then some .fail else none
/-- AUTO or STEP. -/
def runModeOf (b : Byte) : Option RunMode := if b = 1#8 then some .auto else if b = 2#8 then some .step else none
/-- GOOD, REWORK, SUSPECT or REJECT. -/
def dispositionOf (b : Byte) : Option Disposition :=
  if b = 1#8 then some .good else if b = 2#8 then some .rework else if b = 3#8 then some .suspect
  else if b = 4#8 then some .reject else none
/-- The results of the row CLEAR. -/
def plainResultOf (n : Nat) : Option PlainResult :=
  match n with
  | 1 => some .done | 2 => some .incomplete | 3 => some .scrapped | 4 => some .passed | 5 => some .failed
  | 13 => some .noPallet | 14 => some .missed | 15 => some .abandoned | 16 => some .lost
  | _ => none

/-! ### Compound arguments -/

/-- The characters of a serial's sixteen, without the spaces that fill it. -/
def trimSerial (cs : List Byte) : List Byte := (cs.reverse.dropWhile (· == 32#8)).reverse
/-- A serial in seventeen bytes; absent and LOST name no characters. -/
def serialOf : List Byte → Option (List Byte)
  | f :: cs => if cs.length = 16 then
      (if f = 1#8 then some (trimSerial cs) else if f = 0#8 ∨ f = 2#8 then some [] else none) else none
  | [] => none
/-- An occupant in two bytes. -/
def occupantOf (a b : Byte) : Option Occupant :=
  if a = 1#8 ∧ b = 0#8 then some .empty else if a = 2#8 ∧ b = 0#8 then some .unknown
  else if a = 3#8 then some (.pallet b.toNat) else none
/-- The settings of SET TRANSFER: a place and a value in four bytes each; bias, the fifth, is signed. -/
def settingsOf : Nat → List Byte → Option (List (Nat × Int))
  | 0, [] => some []
  | n + 1, p :: a :: b :: c :: d :: bs =>
    (settingsOf n bs).map fun xs => (p.toNat, if p = 5#8 then signedNumber [a, b, c, d] else (number [a, b, c, d] : Int)) :: xs
  | _, _ => none

/-! ### Bodies -/

/-- A request without arguments. -/
def bare (i : Instr) : List Byte → Option Instr | [] => some i | _ => none
/-- A request with one byte. -/
def one (f : Nat → Instr) : List Byte → Option Instr | [a] => some (f a.toNat) | _ => none
/-- A request with one byte that may be left out. -/
def optOne (f : Option Nat → Instr) : List Byte → Option Instr | [] => some (f none) | [a] => some (f (some a.toNat)) | _ => none

/-- CLEAR: the order number, the result and, for LOADED, its serial (R81, R107, R114, R192). -/
def clearOf (l : Link) (tag : Byte) : List Byte → Option Instr
  | o :: r :: bs =>
    match r.toNat, bs with
    | 6, bs => (serialOf bs).map fun cs => .clearLoaded l tag o.toNat cs
    | 7, [] => some (.clearReady l tag o.toNat)
    | 8, [] => some (.clearEmpty l tag o.toNat)
    | 9, [] => some (.clearRemoved l tag o.toNat)
    | 10, [] => some (.clearUnloaded l tag o.toNat)
    | 11, [] => some (.clearKept l tag o.toNat)
    | 12, [] => some (.clearStuck l tag o.toNat)
    | n, [] => some (.clear l tag o.toNat (plainResultOf n))
    | _, _ => none
  | _ => none

/-- SET GEOMETRY: N, the list of kinds, P, Q and the service interval, which may be left out (R4). -/
def geometryRequest (l : Link) (tag : Byte) : List Byte → Option Instr
  | n :: c :: bs =>
    let ks := bs.take c.toNat
    if ks.length = c.toNat then
      match bs.drop c.toNat with
      | [p, q, r, t, z] => some (.setGeometry l tag n.toNat (ks.map workKindOf) (number [p, q, r, t]) z.toNat none)
      | [p, q, r, t, z, x, y] => some (.setGeometry l tag n.toNat (ks.map workKindOf) (number [p, q, r, t]) z.toNat (some (number [x, y])))
      | _ => none
    else none
  | _ => none

/-- The READ requests, kinds 1 to 15. -/
def readOf (l : Link) (tag : Byte) (kind : Nat) (bs : List Byte) : Option Instr :=
  match kind with
  | 1 => optOne (.readPosition l tag) bs
  | 2 => optOne (.readPallet l tag) bs
  | 3 => bare (.readIndex l tag) bs
  | 4 => match bs with
    | [v, k] => some (.readRouting l tag (some v.toNat) (some k.toNat))
    | bs => optOne (fun v => .readRouting l tag v none) bs
  | 5 => optOne (.readOrder l tag) bs
  | 6 => bare (.readReturn l tag) bs
  | 7 => bare (.readSchedule l tag) bs
  | 8 => bare (.readCompletion l tag) bs
  | 9 => bare (.readTarget l tag) bs
  | 10 => bare (.readLearn l tag) bs
  | 11 => bare (.readStore l tag) bs
  | 12 => optOne (.readBudget l tag) bs
  | 13 => optOne (.readTiming l tag) bs
  | 14 => bare (.readStatus l tag) bs
  | 15 => bare (.readLinks l tag) bs
  | _ => none

/-- JOIN: the program set and the self-test flag on a station link, nothing on DRVL (R194, R196). -/
def joinOf (l : Link) (tag : Byte) (bs : List Byte) : Option Instr :=
  match l, bs with
  | .drvl, [] => some (.driveJoin l tag)
  | .sl _, [a, b, t] => some (.join l tag (setOf a b) (selfTestOf t))
  | _, _ => none

/-- The station's and the drive's requests, kinds 16 to 28. -/
def reportOf (l : Link) (tag : Byte) (kind : Nat) (bs : List Byte) : Option Instr :=
  match kind with
  | 16 => joinOf l tag bs
  | 17 => bare (.leave l tag) bs
  | 18 => bare (.hold l tag) bs
  | 19 => bare (.unhold l tag) bs
  | 20 => one (.start l tag) bs
  | 21 => clearOf l tag bs
  | 22 => one (.stationFault l tag) bs
  | 23 => bare (.recovered l tag) bs
  | 24 => match bs with
    | [o, n] => some (if n = 0#8 then .arrivedNoPallet l tag o.toNat else .arrived l tag o.toNat n.toNat)
    | _ => none
  | 25 => bare (.lifted l tag) bs
  | 26 => bare (.lowered l tag) bs
  | 27 => bare (.driveFault l tag) bs
  | 28 => bare (.driveRecovered l tag) bs
  | _ => none

/-- The supervisor's requests on the line and on pallets, kinds 29 to 38. -/
def setupOf (l : Link) (tag : Byte) (kind : Nat) (bs : List Byte) : Option Instr :=
  match kind with
  | 29 => geometryRequest l tag bs
  | 30 => match bs with | c :: bs => (settingsOf c.toNat bs).map (.setTransfer l tag) | _ => none
  | 31 => match bs with | [k, m] => some (.setMode l tag k.toNat (modeOf m)) | _ => none
  | 32 => match bs with | [k, a, b] => (occupantOf a b).map (.setOccupant l tag k.toNat) | _ => none
  | 33 => bare (.survey l tag) bs
  | 34 => match bs with | [n, a, b] => some (.registerPallet l tag n.toNat (setOf a b)) | _ => none
  | 35 => one (.retirePallet l tag) bs
  | 36 => one (.markOut l tag) bs
  | 37 => match bs with
    | [n] => some (.resetClamps l tag n.toNat none)
    | [n, a, b] => some (.resetClamps l tag n.toNat (some (setOf a b)))
    | _ => none
  | 38 => match bs with | [n, d] => some (.setDisposition l tag n.toNat (dispositionOf d)) | _ => none
  | _ => none

/-- The supervisor's requests on the cycle and the tables, kinds 39 to 60. -/
def controlOf (l : Link) (tag : Byte) (kind : Nat) (bs : List Byte) : Option Instr :=
  match kind with
  | 39 => match bs with | [m] => some (.run l tag (runModeOf m)) | _ => none
  | 40 => bare (.halt l tag) bs
  | 41 => bare (.index l tag) bs
  | 42 => bare (.abort l tag) bs
  | 43 => bare (.clearFault l tag) bs
  | 44 => if bs = [1#8] then some (.recoverForward l tag) else if bs = [2#8] then some (.recoverBack l tag) else none
  | 45 => bare (.holdLine l tag) bs
  | 46 => bare (.releaseLine l tag) bs
  | 47 => bare (.lineReset l tag) bs
  | 48 => match bs with | [v, k, g] => some (.setRouting l tag v.toNat k.toNat g.toNat) | _ => none
  | 49 => one (.insertReturn l tag) bs
  | 50 => one (.withdrawReturn l tag) bs
  | 51 => match bs with | [v, a, b] => some (.appendSchedule l tag v.toNat (number [a, b])) | _ => none
  | 52 => bare (.clearSchedule l tag) bs
  | 53 => bare (.fetchCompletion l tag) bs
  | 54 => match bs with | [a, b, c, d] => some (.setTarget l tag (signedNumber [a, b, c, d])) | _ => none
  | 55 => bare (.learn l tag) bs
  | 56 => bare (.acceptLearn l tag) bs
  | 57 => bare (.discardLearn l tag) bs
  | 58 => match bs with
    | [k, g, a, b, c, d] => some (.setBudget l tag k.toNat g.toNat (number [a, b, c, d]))
    | _ => none
  | 59 => bare (.clearTiming l tag) bs
  | 60 => match bs with | [a, b] => some (.acknowledge l tag (setOf a b)) | _ => none
  | _ => none

/-- The command that a request frame stands for (R191, R192); `none` where the body is not of its length and form. -/
def decodeRequest (l : Link) (kind tag : Byte) (bs : List Byte) : Option Instr :=
  let n := kind.toNat
  if n ≤ 15 then readOf l tag n bs
  else if n ≤ 28 then reportOf l tag n bs
  else if n ≤ 38 then setupOf l tag n bs
  else controlOf l tag n bs

/-- Whether a kind is permitted on a link by the request index (10.7). -/
def kindPermitted (n : Nat) : Link → Bool
  | .sl _ => decide (n ≤ 24)
  | .drvl => decide (n ≤ 16) || (decide (25 ≤ n) && decide (n ≤ 28))
  | .supl => decide (n ≤ 15) || decide (29 ≤ n)

/-- What cases 3 to 6 of R183 make of a frame that cases 1 and 2 let through. -/
def verdict (l : Link) (kind tag : Byte) (bs : List Byte) : Except Reason Instr :=
  if kind.toNat = 0 ∨ 60 < kind.toNat then .error .range
  else if !kindPermitted kind.toNat l then .error .notPermitted
  else match decodeRequest l kind tag bs with
    | none => .error .range
    | some i => .ok i

end Sys2Proof.Machine
end

