-- ==== Sys2Proof/Machine/LinkEvents.lean ====
section
/-! DEFINITION. Commands of the links: characters and frames received (R181 to R183), the gap inside a frame (R182), and the
transmitter's end of a frame (R185). -/

namespace Sys2Proof.Machine

/-! ### Reception (R181, R182) -/

/-- A link's receiver returns to HUNTING. -/
def State.hunt (s : State) (l : Link) : State := s.onLink l fun r => { r with receiver := .hunting }

/-- A complete frame: handed to request handling when its check agrees, and otherwise discarded and counted (R181, R182). -/
def State.handleFrame (s : State) (l : Link) (kind tag : Byte) (body : List Byte) (check : BitVec 16) : State :=
  let t := s.hunt l
  if Config.maxBody < body.length ∨ frameCheck kind tag body ≠ check then t.linkError l
  else (t.place l tag (verdict l kind tag body)).1

/-- FRAME_RECEIVED (R181, R183). -/
def execFrameReceived (l : Link) (kind tag : Byte) (body : List Byte) (check : BitVec 16) (s : State) : Out :=
  s.event fun s => s.handleFrame l kind tag body check

/-- A frame given up: discarded and counted (R182). -/
def State.discardFrame (s : State) (l : Link) : State := (s.hunt l).linkError l

/-- Whether a link's receiver is in a frame. -/
def Receiver.isInFrame : Receiver → Bool
  | .hunting => false
  | .inFrame _ => true

/-- RECEIVE_GAP_TIMEOUT: a gap inside a frame ends it (R182). -/
def execReceiveGapTimeout (l : Link) (s : State) : Out :=
  s.event fun s => if (s.link l).receiver.isInFrame then s.discardFrame l else s

/-- The bytes of a frame after its preamble: a length above 240 ends it at once, a whole frame is handled, and others are
kept (R181, R182). -/
def State.frameBytesTaken (s : State) (l : Link) (bs : List Byte) : State :=
  match bs with
  | [] => s
  | n :: rest =>
    if Config.maxBody < n.toNat then s.discardFrame l
    else if rest.length = n.toNat + 4 then
      s.handleFrame l (rest.getD 0 0#8) (rest.getD 1 0#8) ((rest.drop 2).take n.toNat)
        (rest.getD (n.toNat + 2) 0#8 ++ rest.getD (n.toNat + 3) 0#8)
    else s.onLink l fun r => { r with receiver := .inFrame bs }

/-- A character at a receiver; `none` is one with a framing error (R181, R182). -/
def State.takeCharacter (s : State) (l : Link) (c : Option Byte) : State :=
  match (s.link l).receiver, c with
  | .hunting, none => s
  | .hunting, some b => if b = Config.preamble then s.onLink l fun r => { r with receiver := .inFrame [] } else s
  | .inFrame _, none => s.discardFrame l
  | .inFrame bs, some b => s.frameBytesTaken l (bs ++ [b])

/-- CHARACTER_RECEIVED (R181, R182). -/
def execCharacterReceived (l : Link) (c : Option Byte) (s : State) : Out := s.event fun s => s.takeCharacter l c

/-! ### The transmitter (R185) -/

/-- What the transmitter takes next when it is idle: the response at the head of the queue, or the unsolicited frame
(R185). -/
def LinkRecord.transmit (r : LinkRecord) : LinkRecord :=
  match r.responses, r.unsolicited with
  | x :: xs, _ => { r with responses := xs, sending := some (.response x) }
  | [], some f => { r with unsolicited := none, sending := some (.unsolicited f) }
  | [], none => { r with sending := none }

/-- FRAME_SENT: the transmitter finishes what it sends and takes the next (R185). -/
def execFrameSent (l : Link) (s : State) : Out := s.event fun s => s.onLink l LinkRecord.transmit

end Sys2Proof.Machine
end

