-- ==== Sys2Proof/Machine/Setup.lean ====
section
/-! DEFINITION. Commands of the supervisor on the line's shape and occupants: SET GEOMETRY (R4 to R6), SET TRANSFER (R8,
R9), SET MODE (R14, R15, R90), SET OCCUPANT (R16) and SURVEY (R17). -/

namespace Sys2Proof.Machine

/-! ### SET GEOMETRY (R4 to R6) -/

/-- The kinds of a list in which every entry is PROCESS or CHECK. -/
def kindsOf (ks : List (Option WorkKind)) : Option (List WorkKind) :=
  ks.foldr (fun k r => match k, r with | some a, some as => some (a :: as) | _, _ => none) (some [])

/-- The geometry a SET GEOMETRY names, when every field lies within its range (R3, R4). -/
def geometryOf (count : Nat) (kinds : List (Option WorkKind)) (pitch resolution : Nat) (service : Option Nat) : Option Geometry :=
  match kindsOf kinds with
  | none => none
  | some ks =>
    let v := service.getD Config.defaultService
    if 3 ≤ count ∧ count ≤ 16 ∧ ks.length = count - 2 ∧ 1000 ≤ pitch ∧ pitch ≤ 200000 ∧ 1 ≤ resolution ∧ resolution ≤ 64 ∧
        1 ≤ v ∧ v ≤ 65535 then
      some { count := count, kinds := ks, pitch := pitch, resolution := resolution, service := v }
    else none

/-- An entry of the position table after SET GEOMETRY, its order being cleared already (R5). The occupant becomes UNKNOWN by R5,
although R116 says of a position whose order is cancelled that its pallet stays: the model's choice (assumption 37). -/
def Position.rebuild (g : Geometry) (k : Nat) (p : Position) : Position :=
  { p with kind := kindOf (some g) k, mode := .active, hold := false
           joined := if k < g.count then p.joined else none
           occupant := if k < g.count then .unknown else .empty }

/-- The cells that SET GEOMETRY writes without reading them (R159). -/
def State.geometryWrites (s : State) : List Cell :=
  [⟨.geometry, 0⟩, ⟨.geometry, 1⟩] ++ (if s.rst.transfer.isNone then transferCells else [])

/-- An accepted SET GEOMETRY: the orders are cancelled before the pallets leave (R91), the tables rebuilt (R5), the windows
emptied, a HELD result dropped (R6) and the captures reset (R131). -/
def State.writeGeometry (s : State) (g : Geometry) : State :=
  let t := (s.clearOrders.rewriteCells s.geometryWrites).onRst fun r =>
    { r with geometry := some g, unconfirmed := false, positions := r.positions.mapIdx fun k p => p.rebuild g k
             transfer := some (Transfer.rebuild g r.transfer) }
  (t.emptyWindows.discardHeld).onBtk fun b => { b with captures := b.captures.map fun _ => EntryCapture.reset }

/-- SET GEOMETRY: state, then range (R4). -/
def State.setGeometry (s : State) (g : Option Geometry) : State × Reply :=
  if s.ixc.state != .halt then refuse s .lineRunning
  else match g with
    | none => refuse s .range
    | some g =>
      let t := s.writeGeometry g
      ok t t.geometryBody

/-- SET_GEOMETRY (R4 to R6). -/
def execSetGeometry (l : Link) (tag : Byte) (count : Nat) (kinds : List (Option WorkKind)) (pitch resolution : Nat)
    (service : Option Nat) (s : State) : Out :=
  s.grant (.setGeometry l tag count kinds pitch resolution service) .supervisor l tag
    [fun s => (if s.rst.transfer.isSome then transferCells else []) ++ everyPosition, State.everyOccupant]
    (fun s => s.setGeometry (geometryOf count kinds pitch resolution service))

/-! ### SET TRANSFER (R8, R9) -/

/-- Clamp a value for a time or a percentage into its range. -/
def clampNat (lo hi : Nat) (x : Int) : Nat := (clampInt lo hi x).toNat

/-- Write one setting by its place in the table of R7, clamped into its range; `none` where no setting of that place may be
written, or EXTEND is neither ON nor OFF (R8). -/
def Transfer.write (g : Geometry) (t : Transfer) (place : Nat) (x : Int) : Option Transfer :=
  let p := t.pending
  let q : Int := g.pitch
  let put (y : Staged) : Option Transfer := some { t with pending := y }
  match place with
  | 2 => put { p with stopBand := clampInt 1 1000 x }
  | 3 => put { p with overtravel := clampInt 10 (q / 4) x }
  | 4 => put { p with sweepMargin := clampInt (q / 20) (q / 4) x }
  | 5 => put { p with bias := clampInt (-500) 500 x }
  | 6 => put { p with minWidth := clampInt 10 10000 x }
  | 7 => put { p with driftLimit := clampInt 1 20000 x }
  | 8 => put { p with entryTolerance := clampInt 1 20000 x }
  | 9 => put { p with homeTolerance := clampInt 1 5000 x }
  | 10 => if x = 1 then put { p with extend := true } else if x = 2 then put { p with extend := false } else none
  | 11 => put { p with settleTime := clampNat 0 2000 x }
  | 12 => put { p with liftTimeout := clampNat 100 30000 x }
  | 13 => put { p with carryTimeout := clampNat 500 60000 x }
  | 14 => put { p with sweepTimeout := clampNat 1000 600000 x }
  | 15 => put { p with homeTimeout := clampNat 500 60000 x }
  | 16 => some { t with startTimeout := clampNat 100 60000 x }
  | 17 => some { t with budgetTolerance := clampNat 0 100 x }
  | _ => none

/-- Write every named setting, or none of them (R8). -/
def Transfer.writeAll (g : Geometry) (t : Transfer) (xs : List (Nat × Int)) : Option Transfer :=
  xs.foldl (fun r x => r.bind fun t => Transfer.write g t x.1 x.2) (some t)

/-- Whether a direct setting is named (R7). -/
def namesDirect (xs : List (Nat × Int)) : Bool := xs.any fun x => x.1 == 16 || x.1 == 17

/-- SET TRANSFER (R8); a direct setting acts from this grant (R9). -/
def State.setTransfer (s : State) (xs : List (Nat × Int)) : State × Reply :=
  match s.rst.geometry, s.rst.transfer with
  | some g, some t =>
    match Transfer.writeAll g t xs with
    | none => refuse s .range
    | some u =>
      let v := s.onRst fun r => { r with transfer := some u }
      let w := if namesDirect xs then v.directWritten else v
      ok w w.settingsBytes
  | _, _ => refuse s .geometryAbsent

/-- SET_TRANSFER (R8, R9). -/
def execSetTransfer (l : Link) (tag : Byte) (xs : List (Nat × Int)) (s : State) : Out :=
  s.grant (.setTransfer l tag xs) .supervisor l tag
    [fun s => geometryCell ++ transferCells ++ if namesDirect xs then s.limitCells else []] (fun s => s.setTransfer xs)

/-! ### SET MODE (R14, R15, R90) -/

/-- The order of a position that enters BYPASS, and its entry (R15, R90). -/
def State.enterBypass (s : State) (k : Nat) : State :=
  let t := match (s.pos k).phase with
    | .ordered => s.cancelOrder k .withdrawn
    | .working => s.cancelOrder k .abandoned
    | .idle | .done | .fault => s
  (t.writeOrder k (t.pos k).orderNumber .noOrder none none).onPos k
    fun p => { p with mode := .bypass, phase := .idle, faultCode := none, hold := false }

/-- A position that becomes ACTIVE again: IDLE, kind NONE, closing NO_ORDER (R15, R90). -/
def State.leaveBypass (s : State) (k : Nat) : State :=
  ((s.writeOrder k (s.pos k).orderNumber .noOrder none none).onPos k
    fun p => { p with mode := .active, phase := .idle, faultCode := none }).onDetail k fun d => { d with closing := .noOrder }

/-- The checks of R14, in their order. -/
def State.modeRefusal (s : State) (k : Nat) (m : Mode) : Option Reason :=
  if 15 < k then some .range
  else if s.rst.geometry.isNone then some .geometryAbsent
  else if s.unused k then some .notInLine
  else if m == .bypass && ((s.pos k).kind == .load || (s.pos k).kind == .unload) then some .range
  else if s.ixc.state.abortable then some .wrongState
  else none

/-- SET MODE (R14, R15, R90). -/
def State.setMode (s : State) (k : Nat) : Option Mode → State × Reply
  | none => refuse s .range
  | some m =>
    match s.modeRefusal k m with
    | some r => refuse s r
    | none =>
      if (s.pos k).mode = m then ok s
      else ok ((match m with | .bypass => s.enterBypass k | .active => s.leaveBypass k).collect .supervisor)

/-- SET_MODE (R14, R15, R90). -/
def execSetMode (l : Link) (tag : Byte) (k : Nat) (m : Option Mode) (s : State) : Out :=
  s.grant (.setMode l tag k m) .supervisor l tag [fun _ => geometryCell ++ positionCells k, fun s => s.occupantCells k]
    (fun s => s.setMode k m)

/-! ### SET OCCUPANT (R16) -/

/-- The number an occupant names. -/
def Occupant.number : Occupant → Option Nat
  | .unknown | .empty => none
  | .pallet n => some n

/-- The checks of R16, in their order. -/
def State.occupantRefusal (s : State) (k : Nat) (o : Occupant) : Option Reason :=
  if 15 < k ∨ (Occupant.number o).any badNumber then some .range
  else if s.rst.geometry.isNone then some .geometryAbsent
  else if s.unused k then some .notInLine
  else if s.ixc.state != .halt && s.ixc.state != .fault then some .wrongState
  else if s.ixc.state == .fault && s.ixc.motion.isSome && !(s.ixc.currentFault.any fun f => f.cause == .tracking) then some .wrongState
  else if (s.pos k).phase.outstanding then some .wrongState
  else if (Occupant.number o).any fun n => (s.pallet n).isNone then some .unknownPallet
  else if (Occupant.number o).any fun n => s.location n != .out && (s.pos k).occupant != o then some .wrongState
  else none

/-- SET OCCUPANT (R16). -/
def State.nameOccupant (s : State) (k : Nat) (o : Occupant) : State × Reply :=
  match s.occupantRefusal k o with
  | some r => refuse s r
  | none =>
    let t := s.setOccupant k o
    ok t (t.positionEntry k)

/-- SET_OCCUPANT (R16). -/
def execSetOccupant (l : Link) (tag : Byte) (k : Nat) (o : Occupant) (s : State) : Out :=
  s.grant (.setOccupant l tag k o) .supervisor l tag
    [fun s => geometryCell ++ positionCells k ++ s.locationCells ++ match Occupant.number o with | none => [] | some n => s.palletCells n]
    (fun s => s.nameOccupant k o)

/-! ### SURVEY (R17) -/

/-- What SURVEY does with a position. -/
inductive SurveyRow where
  | skipped
  | emptied
  | marked
  | unchanged
deriving DecidableEq, Repr

/-- The first row of R17 that fits position `k`. -/
def State.surveyRow (s : State) (k : Nat) : SurveyRow :=
  if s.count ≤ k then .unchanged
  else if (s.pos k).phase.outstanding then .skipped
  else match (s.pos k).occupant, member s.pins.ip k with
    | .empty, false => .unchanged
    | .unknown, false | .pallet _, false => .emptied
    | .empty, true => .marked
    | .unknown, true | .pallet _, true => .unchanged

/-- The positions of a row. -/
def State.surveyMask (s : State) (r : SurveyRow) : Mask := maskOf fun k => s.surveyRow k == r

/-- The entry of a position after SURVEY (R17). -/
def Position.survey (p : Position) : SurveyRow → Position
  | .emptied => { p with occupant := .empty }
  | .marked => { p with occupant := .unknown }
  | .skipped | .unchanged => p

/-- The occupants after SURVEY (R17). -/
def State.surveyed (s : State) : State :=
  s.onRst fun r => { r with positions := r.positions.mapIdx fun k p => p.survey (s.surveyRow k) }

/-- SURVEY (R17). -/
def State.surveyLine (s : State) : State × Reply :=
  if s.rst.geometry.isNone then refuse s .geometryAbsent
  else if s.ixc.state != .halt then refuse s .wrongState
  else ok s.surveyed (maskBytes (s.surveyMask .emptied) ++ maskBytes (s.surveyMask .marked) ++ maskBytes (s.surveyMask .skipped) ++
    maskBytes s.surveyed.unknownMask)

/-- SURVEY (R17). -/
def execSurvey (l : Link) (tag : Byte) (s : State) : Out :=
  s.grant (.survey l tag) .supervisor l tag [fun _ => geometryCell, State.lineTracking] State.surveyLine

end Sys2Proof.Machine
end

