-- ==== Sys2Proof/Machine/Arbiter.lean ====
section
/-! DEFINITION. What the block does when no command waits: the arbiter's choice among the IXC work list, the link slots and
the scrubber (R154, R156, R166), and, where nothing else waits, one millisecond of the line clock (R168) with the timers
it brings to their ends. The grant or event chosen is put into the queue as the command it is, so that the next step
carries it out. -/

namespace Sys2Proof.Machine

/-! ### The arbiter's choice (R154) -/

/-- The command that a work list entry's grant is. -/
def WorkItem.command : WorkItem → Instr
  | .advance => .advance
  | .learnWrite => .learnWrite
  | .startExpiry k => .startTimeoutWrite (Fin.ofNat 16 k)

/-- The request of the first slot that holds one, in the cyclic order from a link on. -/
def State.firstSlot (s : State) (first : Link) : Option Instr :=
  (List.range 18).findSome? fun i => (s.link (Link.at ((first.place + i) % 18))).slot

/-- The grant that the arbiter makes while anything but the scrubber waits (R154). -/
def State.choice (s : State) : Option Instr :=
  match s.aar.workList with
  | w :: _ => some w.command
  | [] => s.firstSlot s.aar.pointer

/-! ### One millisecond (R168) -/

/-- A running value one millisecond on, saturating (R168). -/
def tickValue (v : Option Nat) : Option Nat := v.map (countUp Config.max32)

/-- A running timer one millisecond on. -/
def tickTimer (t : Option Timer) : Option Timer := t.map fun x => { x with elapsed := countUp Config.max32 x.elapsed }

/-- The Cycle Timer one millisecond on: the clock wraps, every duration saturates (R168). -/
def Ctm.tick (c : Ctm) : Ctm :=
  { c with
    clock := c.clock + 1
    startTimers := c.startTimers.map tickValue
    work := c.work.map fun w => { w with running := tickValue w.running }
    indexTimer := tickValue c.indexTimer
    cycleTimer := tickValue c.cycleTimer }

/-- The motion timers one millisecond on (R52). -/
def Ixc.tick (i : Ixc) : Ixc :=
  { i with liftTimer := tickTimer i.liftTimer, carryTimer := tickTimer i.carryTimer, sweepTimer := tickTimer i.sweepTimer
           settleTimer := tickTimer i.settleTimer }

/-- The home timer one millisecond on (R136). -/
def Btk.tick (b : Btk) : Btk := { b with homeTimer := tickTimer b.homeTimer }

/-- A transmitter that is idle takes the next frame to send (R185). -/
def LinkRecord.wake (r : LinkRecord) : LinkRecord := if r.sending.isNone then r.transmit else r

/-- One millisecond of every timer, and the idle transmitters. -/
def State.tick (s : State) : State :=
  (((s.onCtm Ctm.tick).onIxc Ixc.tick).onBtk Btk.tick).onLiu fun u => { u with links := u.links.map LinkRecord.wake }

/-- Whether a timer has reached its limit. -/
def expired (t : Option Timer) : Bool := t.any fun x => decide (x.limit ≤ x.elapsed)

/-- Whether position `k`'s start timer has reached the start timeout (R86). -/
def State.startDue (s : State) (k : Nat) : Bool :=
  (s.startTimer k).any fun v => s.rst.transfer.any fun t => decide (t.startTimeout ≤ v)

/-- Whether position `k`'s work time is greater than its limit and no overrun has been raised for the order (R172). -/
def State.overrunDue (s : State) (k : Nat) : Bool :=
  !(s.work k).overrunTaken && (s.work k).running.any fun v => (s.work k).limit.any fun l => decide (l < v)

/-- The events that the timers bring about as they stand. The order in which those of one millisecond are taken, the motion timers,
the home timer, the start timers and the overruns, each by ascending position, is the model's choice (assumption 2). -/
def State.dueEvents (s : State) : List Instr :=
  (if expired s.ixc.liftTimer then [.liftTimeout] else []) ++
  (if expired s.ixc.carryTimer then [.carryTimeout] else []) ++
  (if expired s.ixc.sweepTimer then [.sweepTimeout] else []) ++
  (if expired s.ixc.settleTimer then [.settleEnd] else []) ++
  (if expired s.btk.homeTimer then [.homeTimeout] else []) ++
  ((List.finRange 16).filter fun k => s.startDue k.val).map Instr.startTimeout ++
  ((List.finRange 16).filter fun k => s.overrunDue k.val).map Instr.overrun

/-- A millisecond in which nothing else waits: the timers move, and their events follow. The scrubber is granted when no event
is due, because an event may put an operation on the work list that goes before it (R154, R166). -/
def State.millisecond (s : State) : State :=
  { s.tick with pending := match s.tick.dueEvents with | [] => [.scrubberRead []] | c :: cs => c :: cs }

/-- What the block does when no command waits: nothing in reset (R193); the arbiter's grant if one waits (R154); otherwise
one millisecond. -/
def State.idle (s : State) : State :=
  if s.pins.resetInput then s
  else match s.choice with
    | some i => { s with pending := [i] }
    | none => s.millisecond

end Sys2Proof.Machine
end

