-- ==== Sys2Proof/Machine/Drive.lean ====
section
/-! DEFINITION. Commands of the drive link: JOIN (R196), LIFTED (R50), LOWERED (R51), DRIVE FAULT and DRIVE RECOVERED (R45). -/

namespace Sys2Proof.Machine

/-- JOIN on DRVL: refused while LIFT PERMIT's states hold; otherwise the drive is joined with its faulted flag clear, which
may complete collection (R196). -/
def State.joinDrive (s : State) : State × Reply :=
  match s.ixc.state with
  | .permit | .carry | .sweep | .reseat => refuse s .wrongState
  | .halt | .collect | .settle | .advance | .fault =>
    ok ((s.onIxc fun i => { i with driveJoined := true, driveFaulted := false }).collect .drive)

/-- DRIVE_JOIN (R196). -/
def execDriveJoin (l : Link) (tag : Byte) (s : State) : Out :=
  s.grant (.driveJoin l tag) .driveJoin l tag [] State.joinDrive

/-- A report of a drive that is not joined is refused with NOT_JOINED (R45). -/
def State.driveReport (op : State → State × Reply) (s : State) : State × Reply :=
  if s.ixc.driveJoined then op s else refuse s .notJoined

/-- The state and the timer that LIFTED leads to (R50). -/
def Ixc.lift (i : Ixc) (kind : MotionKind) (w : Staged) : Ixc :=
  match kind with
  | .learn => { i with state := .sweep, liftTimer := none, sweepTimer := some { elapsed := 0, limit := w.sweepTimeout } }
  | .index | .forward | .back =>
    { i with state := .carry, liftTimer := none, carryTimer := some { elapsed := 0, limit := w.carryTimeout } }

/-- LIFTED is taken in PERMIT; the entry to CARRY or SWEEP makes the tests on entry, and a sweep whose limit is already
reached ends at once (R50, R129, R143). -/
def State.lift (s : State) : State × Reply :=
  match s.ixc.state, s.motionKind with
  | .permit, some kind => ok (((s.onIxc fun i => i.lift kind s.working).checkEntry).checkSweepEnd)
  | _, _ => refuse s .wrongState

/-- LIFTED (R50). -/
def execLifted (l : Link) (tag : Byte) (s : State) : Out :=
  s.grant (.lifted l tag) .drive l tag [fun _ => geometryCell ++ [⟨.transfer, 4⟩, ⟨.transfer, 7⟩]] (State.driveReport State.lift)

/-- The entry to SETTLE: S is sampled, the carry timer stops, the settle timer starts (R51, R130). -/
def Ixc.lower (i : Ixc) (sample : Int) (w : Staged) : Ixc :=
  { i with state := .settle, carryTimer := none, settleTimer := some { elapsed := 0, limit := w.settleTime }
           motion := i.motion.map fun m => { m with sample := some sample } }

/-- LOWERED taken in CARRY or RESEAT: the capture window of an INDEX ends (R134); a settle time of 0 makes the checks in
the same event (R51). That the tests on the entry to SETTLE (R122, R129) then come before the checks of R53 and R54 is the
model's choice (assumption 28). -/
def State.lowerBar (s : State) : State :=
  let t := s.onIxc fun i => i.lower s.btk.counter s.working
  let u := (if s.motionKind == some .index then t.closeCaptures else t).checkEntry
  if u.ixc.state == .settle && s.working.settleTime == 0 then u.endSettle (·.collect .drive) else u

/-- LOWERED is taken in CARRY and RESEAT (R51). -/
def State.lower (s : State) : State × Reply :=
  if s.ixc.state == .carry || s.ixc.state == .reseat then ok s.lowerBar else refuse s .wrongState

/-- LOWERED (R51). -/
def execLowered (l : Link) (tag : Byte) (s : State) : Out :=
  s.grant (.lowered l tag) .drive l tag [fun _ => geometryCell ++ [⟨.transfer, 4⟩, ⟨.transfer, 6⟩, ⟨.transfer, 7⟩]]
    (State.driveReport State.lower)

/-- DRIVE FAULT sets the faulted flag, and aborts a motion in a motion state (R45). -/
def State.faultDrive (s : State) : State × Reply :=
  ok ((s.onIxc fun i => { i with driveFaulted := true }).abortMoving .driveFault)

/-- DRIVE_FAULT (R45, R59). -/
def execDriveFault (l : Link) (tag : Byte) (s : State) : Out :=
  s.grant (.driveFault l tag) .drive l tag [] (State.driveReport State.faultDrive)

/-- DRIVE RECOVERED clears the faulted flag, which may complete collection (R45). -/
def State.recoverDrive (s : State) : State × Reply :=
  ok ((s.onIxc fun i => { i with driveFaulted := false }).collect .drive)

/-- DRIVE_RECOVERED (R45). -/
def execDriveRecovered (l : Link) (tag : Byte) (s : State) : Out :=
  s.grant (.driveRecovered l tag) .drive l tag [] (State.driveReport State.recoverDrive)

end Sys2Proof.Machine
end

