-- ==== Sys2Proof/Machine/Internal.lean ====
section
/-! DEFINITION. Commands of the Index Controller's grants and of the scrubber: the expiry write (R87), the advance (R55 to
R58), the learn write (R145) and the scrubber's reading of a cell (R166). -/

namespace Sys2Proof.Machine

/-! ### The expiry write (R87) -/

/-- The granted expiry write: an ORDERED order is cancelled as MISSED and the position enters FAULT(NO_START) (R87). -/
def State.writeNoStart (s : State) (k : Nat) : State :=
  if (s.pos k).phase == .ordered then
    ((s.cancelOrder k .missed).onPos k fun p => { p with phase := .fault, faultCode := some .noStart }).positionFaulted k
  else s

/-- START_TIMEOUT_WRITE: the grant of the expiry write of position `k`, when it stands at the head of the work list
(R87, R156). -/
def execStartTimeoutWrite (k : Fin 16) (s : State) : Out :=
  s.event fun s =>
    if s.aar.workList.head? = some (.startExpiry k.val) then
      (s.popWork.readStages [fun _ => positionCells k.val, fun s => s.occupantCells k.val]).writeNoStart k.val
    else s

/-! ### The advance (R55 to R58) -/

/-- The cells with which the advance opens: N, and the tracking cells of positions 0 to N−1 (R56). -/
def advanceOpening : List (State → List Cell) := [fun _ => geometryCell, State.lineTracking]

/-- The cells that the advance reads after the tracking cells: those of the positions in the line and their occupants, the
places of the return queue, the routing, and the home timeout of the entry to COLLECT. -/
def State.advanceCells (s : State) : List Cell :=
  s.linePositions ++ s.lineOccupants ++ s.queueCells ++ routingCells ++ [⟨.transfer, 7⟩]

/-- A pallet that leaves position N−1 goes to OUT when its divert flag is set or it is maintenance due (R56). -/
def State.leavesLine (s : State) (p : Pallet) : Bool := p.divert || s.maintenanceDue p

/-- The pallet at N−1 leaves the line: to OUT with its divert flag cleared, and MAINTENANCE_OUT when it is maintenance due;
otherwise to the tail of the return queue (R24, R56). A line without a geometry has no position N−1. -/
def State.sendAway (s : State) : State :=
  match (if s.count = 0 then none else s.palletAt (s.count - 1)).bind s.pallet with
  | none => s
  | some p =>
    if s.leavesLine p then
      let t := s.onPallet p.number fun q => { q with divert := false }
      if s.maintenanceDue p then t.attend fun a => { a with maintenanceOut := some p.number } else t
    else
      (s.onRst fun r => { r with returnQueue := r.returnQueue ++ [p.number] }).rewriteCells [⟨.returnQueue, s.rst.returnQueue.length⟩]

/-- Occupants shift one position downstream; position 0 becomes EMPTY (R57). -/
def State.shift (s : State) : State :=
  s.onRst fun r => { r with positions := r.positions.mapIdx fun k p =>
    if s.count ≤ k then p
    else { p with occupant := if k = 0 then .empty else (s.pos (k - 1)).occupant } }

/-- The order number after the next order: one more, modulo 256 (R57). -/
def State.nextNumber (s : State) (k : Nat) : Nat := ((s.pos k).orderNumber + 1) % 256

/-- The order of an ACTIVE position (R57, R77, R102, R113). -/
def State.issueNext (s : State) (k : Nat) : State :=
  let number := s.nextNumber k
  match (s.pos k).kind with
  | .load => s.issueOrder k number .feed none none
  | .unload => match s.unloadDecision k with
    | none => s.issueOrder k number .noOrder none none
    | some i => s.issueOrder k number .unload none (some i)
  | .process => match s.orderDecision k with
    | none => s.issueOrder k number .noOrder none none
    | some g => s.issueOrder k number .process (some g) none
  | .check => match s.orderDecision k with
    | none => s.issueOrder k number .noOrder none none
    | some g => s.issueOrder k number .check (some g) none
  | .unused => s

/-- The advance at a BYPASS position: the number rises, the kind becomes NONE, and a block that would have been ordered
there takes a MISSED entry (R57, R78). -/
def State.passBypass (s : State) (k : Nat) : State :=
  let t := match s.orderDecision k with
    | none => s
    | some g => s.recordResult k g .missed none
  ((t.writeOrder k (t.nextNumber k) .noOrder none none).onPos k fun p => { p with phase := .idle, faultCode := none }).onDetail k
    fun d => { d with closing := .noOrder, resultTaken := none }

/-- The next order of position `k`, with the ORDER frame of a joined ACTIVE station (R57). -/
def State.orderNext (s : State) (k : Nat) : State :=
  if s.count ≤ k then s
  else if s.active k then
    let t := s.issueNext k
    if (t.pos k).joined.isSome then t.postOrder k else t
  else s.passBypass k

/-- The index time, the cycle time and the advance count (R58, R173, R174). -/
def Ctm.advance (c : Ctm) : Ctm :=
  { c with
    indexTimer := none
    indexRecovered := false
    indexTimes := match c.indexTimer with | none => c.indexTimes | some v => c.indexTimes.take v
    lastIndexRecovered := if c.indexTimer.isSome then some c.indexRecovered else c.lastIndexRecovered
    cycleTimes := match c.cycleTimer with | none => c.cycleTimes | some v => c.cycleTimes.take v
    cycleTimer := some 0
    advances := countUp 4294967295 c.advances }

/-- The writes of the advance whose position cells all read correctly, and its end in COLLECT or HALT (R56 to R58). -/
def State.advanceLine (s : State) : State :=
  (((List.range 16).foldl State.orderNext s.sendAway.shift).onCtm Ctm.advance).endMotion (·.collect .drive)

/-- Whether a tracking cell of positions 0 to N−1 is found uncorrectable (R56). -/
def State.trackingDamaged (s : State) : Bool :=
  (s.found .uncorrectable (s.gather advanceOpening)).any fun c => c.region == .positionTracking

/-- The advance in its grant: every tracking cell is read before anything is written; an uncorrectable one ends it in
FAULT(TRACKING) (R56, R162). -/
def State.advanceGrant (s : State) : State :=
  let t := s.readStages advanceOpening true
  if s.trackingDamaged then t.enterFault .tracking
  else (t.readStages [State.advanceCells] true).advanceLine

/-- ADVANCE: the grant of the advance, when it stands at the head of the work list in ADVANCE (R55, R156). -/
def execAdvance (s : State) : Out :=
  s.event fun s =>
    if s.aar.workList.head? = some .advance && s.ixc.state == .advance then State.advanceGrant s.popWork else s

/-! ### The learn write (R145) -/

/-- The record's state and the value LEARN_DONE carries for an outcome (R145). -/
def LearnOutcome.recorded : LearnOutcome → LearnState × Option LearnFailure × LearnReport
  | .applied => (.applied, none, .applied)
  | .held => (.held, none, .held)
  | .failed r => (.failed, some r, .failed r)

/-- The resulting target: Tnew when APPLIED, T₀ otherwise (R145). -/
def LearnRecord.result (r : LearnRecord) : LearnOutcome → Int
  | .applied => r.placed.getD 0
  | .held | .failed _ => (r.settings.map (·.start)).getD 0

/-- Entry to RESEAT with the resulting target: the carry timer, the limit in force, the MOTION frame and the tests on
entry (R49, R127 to R129). -/
def State.enterReseat (s : State) (target : Int) : State :=
  let t := s.onIxc fun i =>
    { i with state := .reseat, motion := i.motion.map fun m => { m with target := target }
             sweepTimer := none, carryTimer := some { elapsed := 0, limit := s.working.carryTimeout } }
  (((t.onBtk fun b => { b with reseatTight := false }).tightenReseat).postMotion .reseat).checkEntry

/-- The learn write of an outcome (R145). -/
def State.writeLearn (s : State) (o : LearnOutcome) : State :=
  let target := s.wlu.record.result o
  let t := match o with
    | .applied => (s.setBothTargets target).writeWindows
    | .held | .failed _ => s
  let x := o.recorded
  ((t.onWlu fun w =>
    { record := { w.record with state := x.1, failure := x.2.1, resulting := some target, endTime := some s.ctm.clock }
      outcome := none }).attend fun a => { a with learnDone := some x.2.2 }).enterReseat target

/-- The learn write in its grant. A repair that aborted the motion leaves nothing to write (R146). -/
def State.learnGrant (s : State) : State :=
  let t := s.readCells [⟨.transfer, 0⟩, ⟨.transfer, 4⟩, ⟨.transfer, 7⟩]
  match t.ixc.state, t.wlu.outcome with
  | .sweep, some o => t.writeLearn o
  | _, _ => t

/-- LEARN_WRITE: the grant of the learn write, when it stands at the head of the work list in SWEEP after the sweep's end
(R145, R156). -/
def execLearnWrite (s : State) : Out :=
  s.event fun s =>
    if s.aar.workList.head? = some .learnWrite && s.ixc.state == .sweep && s.wlu.outcome.isSome then
      State.learnGrant s.popWork
    else s

/-! ### The scrubber (R166) -/

/-- The scrubber reads the cell at the walk position and moves on (R166). -/
def State.scrub (s : State) : State :=
  (s.readCells [s.rst.walk]).onRst fun r => { r with walk := nextCell s.rst.walk }

/-- SCRUBBER_READ: a scrubber grant, made only when nothing else waits for the store (R154, R166). The operand names the cells
that have been upset since the last one; they are upset whether or not the grant is made (R159, assumption 4). -/
def execScrubberRead (upsets : List (Cell × CellError)) (s : State) : Out :=
  s.event fun s => if s.quiet then (s.upset upsets).scrub else s.upset upsets

end Sys2Proof.Machine
end

