-- ==== Sys2Proof/Machine/Pallets.lean ====
section
/-! DEFINITION. Commands of the supervisor on pallets and workpieces: REGISTER PALLET, RETIRE PALLET, MARK OUT, RESET CLAMPS
and SET DISPOSITION (R34 to R38). -/

namespace Sys2Proof.Machine

/-! ### REGISTER PALLET and RETIRE PALLET -/

/-- The record of a newly registered pallet (R21). -/
def Pallet.fresh (n : Nat) (m : Mask) : Pallet :=
  { number := n, variants := m, clamps := 0, divert := false, damaged := false, workpiece := none }

/-- The lowest slot not in use. -/
def State.freeSlotIndex (s : State) : Option Nat := s.rst.slots.findIdx? Option.isNone

/-- REGISTER PALLET (R34). -/
def State.registerPallet (s : State) (n : Nat) (m : Mask) : State × Reply :=
  if badNumber n || badVariants m then refuse s .range
  else if (s.pallet n).isSome then refuse s .duplicate
  else match s.freeSlotIndex with
    | none => refuse s .tableFull
    | some i =>
      let t := (s.onRst fun r => { r with slots := r.slots.set i (some (Pallet.fresh n m)) }).rewriteCells (slotCells i)
      ok t (t.palletBody (Pallet.fresh n m))

/-- REGISTER_PALLET (R34). -/
def execRegisterPallet (l : Link) (tag : Byte) (n : Nat) (m : Mask) (s : State) : Out :=
  s.grant (.registerPallet l tag n m) .supervisor l tag [fun s => geometryCell ++ s.locationCells ++ headerCells]
    (fun s => s.registerPallet n m)

/-- Carry out a request on a registered pallet: a number out of range is refused with RANGE, an unregistered one with
UNKNOWN_PALLET (R35 to R37, R95, R96). -/
def State.atPallet (s : State) (n : Nat) (op : Pallet → State → State × Reply) : State × Reply :=
  if badNumber n then refuse s .range
  else match s.pallet n with
    | none => refuse s .unknownPallet
    | some p => op p s

/-- RETIRE PALLET of a registered pallet (R35). -/
def State.retirePallet (n : Nat) (p : Pallet) (s : State) : State × Reply :=
  if s.location n != .out || p.workpiece.isSome then refuse s .wrongState
  else ok (s.onRst fun r => { r with slots := r.slots.map fun o => if o.any fun q => q.number == n then none else o })

/-- RETIRE_PALLET (R35). -/
def execRetirePallet (l : Link) (tag : Byte) (n : Nat) (s : State) : Out :=
  s.grant (.retirePallet l tag n) .supervisor l tag [fun s => s.locationCells ++ s.palletCells n]
    (fun s => s.atPallet n (State.retirePallet n))

/-! ### Flags, clamps and disposition -/

/-- A pallet's location and flags (R36). -/
def State.flagsBody (s : State) (n : Nat) : List Byte :=
  (s.location n).bytes ++ flagByte ((s.pallet n).any (·.divert)) ++ flagByte ((s.pallet n).any (·.damaged))

/-- MARK OUT of a registered pallet (R36). -/
def State.markOut (n : Nat) (_ : Pallet) (s : State) : State × Reply :=
  let t := s.onPallet n fun p => { p with divert := true }
  ok t (t.flagsBody n)

/-- MARK_OUT (R36). -/
def execMarkOut (l : Link) (tag : Byte) (n : Nat) (s : State) : Out :=
  s.grant (.markOut l tag n) .supervisor l tag [fun s => s.locationCells ++ s.palletCells n] (fun s => s.atPallet n (State.markOut n))

/-- RESET CLAMPS of a registered pallet (R37). The response is the header and the maintenance-due standing. That an
unregistered number is refused before a mask is looked at is the model's choice (assumption 30). -/
def State.resetClamps (n : Nat) (m : Option Mask) (p : Pallet) (s : State) : State × Reply :=
  if m.any badVariants || (m.isNone && p.damaged) then refuse s .range
  else
    let t := s.onPallet n fun p => { p with clamps := 0, damaged := false, variants := m.getD p.variants }
    ok t ((t.pallet n).elim [] t.standingBytes)

/-- RESET_CLAMPS (R37). -/
def execResetClamps (l : Link) (tag : Byte) (n : Nat) (m : Option Mask) (s : State) : Out :=
  s.grant (.resetClamps l tag n m) .supervisor l tag [fun s => geometryCell ++ s.palletCells n]
    (fun s => s.atPallet n (State.resetClamps n m))

/-- SET DISPOSITION of a registered pallet's workpiece (R38). -/
def State.setDisposition (n : Nat) (d : Disposition) (p : Pallet) (s : State) : State × Reply :=
  match p.workpiece with
  | none => refuse s .wrongState
  | some w =>
    if d == .rework && w.pass == 2 then refuse s .range else ok (s.onWorkpiece n fun w => { w with disposition := d })

/-- SET_DISPOSITION (R38). -/
def execSetDisposition (l : Link) (tag : Byte) (n : Nat) (d : Option Disposition) (s : State) : Out :=
  s.grant (.setDisposition l tag n d) .supervisor l tag [fun s => s.palletCells n]
    (fun s => match d with
      | none => refuse s .range
      | some d => s.atPallet n (State.setDisposition n d))

end Sys2Proof.Machine
end

