-- ==== Sys2Proof/Machine/Reads.lean ====
section
/-! DEFINITION. Commands of the fifteen READ requests: taken on every link and in every Index Controller state, each in one
grant, changing nothing but what the reading of cells repairs (R18, R39, R40, R71, R74, R85, R97, R101, R120, R126,
R152, R167, R170, R176, R190). -/

namespace Sys2Proof.Machine

/-- A READ request with an optional position argument, refused with RANGE above 15. -/
def State.readAt (s : State) (k : Option Nat) (body : State → List Byte) : State × Reply :=
  if k.any (15 < ·) then refuse s .range else ok s (body s)

/-- A READ request without argument. -/
def State.readAll (body : State → List Byte) (s : State) : State × Reply := ok s (body s)

/-- READ_POSITION (R18). -/
def execReadPosition (l : Link) (tag : Byte) (k : Option Nat) (s : State) : Out :=
  s.grant (.readPosition l tag k) .all l tag
    (match k with
      | some k => [fun _ => geometryCell ++ [⟨.positionConfig, k⟩, ⟨.positionTracking, k⟩], fun s => s.occupantCells k]
      | none => [fun _ => geometryCell ++ configCells ++ trackingCells 16, State.everyOccupant])
    (fun s => s.readAt k fun s => s.positionBody k)

/-- READ PALLET with a number or with none (R39, R40). -/
def State.readPallets (s : State) : Option Nat → State × Reply
  | none => ok s s.palletsBody
  | some n =>
    if badNumber n then refuse s .range
    else match s.pallet n with
      | none => refuse s .unknownPallet
      | some p => ok s (s.palletBody p)

/-- READ_PALLET (R39, R40). -/
def execReadPallet (l : Link) (tag : Byte) (n : Option Nat) (s : State) : Out :=
  s.grant (.readPallet l tag n) .all l tag
    [fun s => geometryCell ++ s.locationCells ++ match n with
      | some n => s.palletCells n
      | none => (List.range 64).flatMap fun i => (slotCells i).take 3]
    (fun s => s.readPallets n)

/-- READ_INDEX (R71). -/
def execReadIndex (l : Link) (tag : Byte) (s : State) : Out :=
  s.grant (.readIndex l tag) .all l tag [] (State.readAll State.indexBody)

/-- READ_ROUTING (R74). -/
def execReadRouting (l : Link) (tag : Byte) (v k : Option Nat) (s : State) : Out :=
  s.grant (.readRouting l tag v k) .all l tag
    [fun _ => configCells ++ match v with
      | some v => if 1 ≤ v then [⟨.routing, v - 1⟩] else []
      | none => routingCells]
    (fun s => if v.any (fun v => v == 0 || decide (8 < v)) || k.any (15 < ·) then refuse s .range else ok s (s.routingBody v k))

/-- READ_ORDER (R85). -/
def execReadOrder (l : Link) (tag : Byte) (k : Option Nat) (s : State) : Out :=
  s.grant (.readOrder l tag k) .all l tag
    (match k with
      | some k => [fun _ => (⟨.transfer, 8⟩ : Cell) :: routingCells ++ positionCells k, fun s => s.occupantCells k]
      | none => [fun _ => (⟨.transfer, 8⟩ : Cell) :: routingCells ++ everyPosition, State.everyOccupant])
    (fun s => s.readAt k fun s => s.orderBody k)

/-- READ_RETURN (R97). -/
def execReadReturn (l : Link) (tag : Byte) (s : State) : Out :=
  s.grant (.readReturn l tag) .all l tag
    [fun s => geometryCell ++ s.queueCells, fun s => s.rst.returnQueue.flatMap s.palletCells]
    (State.readAll State.returnBody)

/-- READ_SCHEDULE (R101). -/
def execReadSchedule (l : Link) (tag : Byte) (s : State) : Out :=
  s.grant (.readSchedule l tag) .all l tag [State.scheduleCells] (State.readAll State.scheduleBody)

/-- READ_COMPLETION (R120). -/
def execReadCompletion (l : Link) (tag : Byte) (s : State) : Out :=
  s.grant (.readCompletion l tag) .all l tag [fun _ => [⟨.log, 0⟩], State.completionCells] (State.readAll State.completionBody)

/-- READ_TARGET (R126). -/
def execReadTarget (l : Link) (tag : Byte) (s : State) : Out :=
  s.grant (.readTarget l tag) .all l tag [fun _ => geometryCell ++ [⟨.transfer, 0⟩, ⟨.transfer, 4⟩]]
    (State.readAll State.targetBody)

/-- READ_LEARN (R152). -/
def execReadLearn (l : Link) (tag : Byte) (s : State) : Out :=
  s.grant (.readLearn l tag) .all l tag [fun _ => geometryCell ++ [⟨.transfer, 0⟩, ⟨.transfer, 4⟩] ++ windowCells]
    (State.readAll State.learnBody)

/-- READ_STORE reads none of the cells it reports on (R167). -/
def execReadStore (l : Link) (tag : Byte) (s : State) : Out :=
  s.grant (.readStore l tag) .all l tag [] (State.readAll State.storeBody)

/-- READ_BUDGET (R170). -/
def execReadBudget (l : Link) (tag : Byte) (k : Option Nat) (s : State) : Out :=
  s.grant (.readBudget l tag k) .all l tag
    [fun _ => (⟨.transfer, 8⟩ : Cell) :: match k with
      | some k => budgetCells k
      | none => (List.range 16).flatMap budgetCells]
    (fun s => s.readAt k fun s => s.budgetBody k)

/-- READ_TIMING (R176). -/
def execReadTiming (l : Link) (tag : Byte) (k : Option Nat) (s : State) : Out :=
  s.grant (.readTiming l tag k) .all l tag [] (fun s => s.readAt k fun s => s.timingBody k)

/-- READ_STATUS keeps the sequence number (R190). -/
def execReadStatus (l : Link) (tag : Byte) (s : State) : Out :=
  s.grant (.readStatus l tag) .all l tag [] (State.readAll State.statusReply)

/-- READ_LINKS (R190). -/
def execReadLinks (l : Link) (tag : Byte) (s : State) : Out :=
  s.grant (.readLinks l tag) .all l tag [] (State.readAll State.linksBody)

end Sys2Proof.Machine
end

