-- ==== Sys2Proof/Machine/Running.lean ====
section
/-! DEFINITION. Commands of the supervisor that run the line: RUN (R197), HALT, INDEX, ABORT, CLEAR FAULT, RECOVER, HOLD LINE
and RELEASE LINE (R59, R63 to R69), and LINE RESET (R198). -/

namespace Sys2Proof.Machine

/-! ### RUN (R197) -/

/-- The positions 0 to N−1 in ascending order. -/
def State.lineList (s : State) : List Nat := List.range s.count

/-- The lowest ACTIVE position that is not joined. -/
def State.notJoinedAt (s : State) : Option Nat := s.lineList.find? fun k => s.active k && (s.pos k).joined.isNone
/-- The lowest position whose occupant is UNKNOWN. -/
def State.unknownAt (s : State) : Option Nat := s.lineList.find? fun k => (s.pos k).occupant == .unknown
/-- The lowest variant whose routing at position `k` lies outside the joined station's program set. -/
def State.mismatchVariant (s : State) (k : Nat) : Option Nat := (List.range 9).find? fun v => decide (1 ≤ v) && s.routingMismatch v k
/-- The lowest position with a routing mismatch, and its lowest variant. -/
def State.mismatchAt (s : State) : Option (Nat × Nat) :=
  s.lineList.findSome? fun k => (s.mismatchVariant k).map fun v => (k, v)

/-- The checks of RUN in HALT, in their order, with the offender named (R197). -/
def State.runRefusal (s : State) : Option (Reason × List Byte) :=
  if s.rst.geometry.isNone || s.rst.unconfirmed then some (.geometryAbsent, [])
  else match s.notJoinedAt with
    | some k => some (.notJoined, optBytes u8 (some k))
    | none =>
      if !s.ixc.driveJoined then some (.notJoined, optBytes u8 none)
      else match s.unknownAt with
        | some k => some (.trackingIncomplete, u8 k)
        | none => s.mismatchAt.map fun x => (.routingMismatch, u8 x.1 ++ u8 x.2)

/-- The response of a taken RUN: the run mode and the state (R157). -/
def State.runBody (s : State) : List Byte := u8 (runModeCode s.ixc.runMode) ++ u8 s.ixc.state.code

/-- RUN (R197). In COLLECT it is accepted while the geometry is unconfirmed too: R165 refuses RUN there and R197 does not, and the
model follows R197 (assumption 36). -/
def State.runLine (s : State) : Option RunMode → State × Reply
  | none => refuse s .range
  | some m =>
    let t := s.onIxc fun i => { i with runMode := m }
    match s.ixc.state with
    | .halt =>
      match s.runRefusal with
      | some x => refuse s x.1 x.2
      | none =>
        let u := t.enterCollect (·.collect .supervisor)
        accepted u u.runBody
    | .collect =>
      let u := t.collect .supervisor
      accepted u u.runBody
    | .permit | .carry | .sweep | .reseat | .settle | .advance | .fault => refuse s .wrongState

/-- RUN (R197). -/
def execRun (l : Link) (tag : Byte) (m : Option RunMode) (s : State) : Out :=
  s.grant (.run l tag m) .supervisor l tag 
    [fun _ => geometryCell ++ configCells ++ routingCells ++ [⟨.transfer, 7⟩], State.lineTracking]
    (fun s => s.runLine m)

/-! ### HALT, INDEX and ABORT (R59, R67, R68) -/

/-- HALT (R67). -/
def State.haltLine (s : State) : State × Reply :=
  match s.ixc.state with
  | .collect => ok s.enterHalt
  | .halt => ok s
  | .permit | .carry | .sweep | .reseat | .settle | .advance => ok (s.onIxc fun i => { i with haltRequested := true })
  | .fault => refuse s .wrongState

/-- HALT (R67). -/
def execHalt (l : Link) (tag : Byte) (s : State) : Out := s.grant (.halt l tag) .supervisor l tag [] State.haltLine

/-- INDEX (R68). -/
def State.indexLine (s : State) : State × Reply :=
  if s.ixc.state == .collect && s.ixc.runMode == .step then
    accepted ((s.onIxc fun i => { i with indexPending := true }).collect .supervisor) (flagByte true)
  else refuse s .wrongState

/-- INDEX (R68). -/
def execIndex (l : Link) (tag : Byte) (s : State) : Out := s.grant (.index l tag) .supervisor l tag [] State.indexLine

/-- ABORT is answered OK in every state (R55, R59, R61, R62). -/
def State.abortLine (s : State) : State × Reply := ok (s.abortMotion .aborted)

/-- ABORT (R59). -/
def execAbort (l : Link) (tag : Byte) (s : State) : Out := s.grant (.abort l tag) .supervisor l tag [] State.abortLine

/-! ### CLEAR FAULT and RECOVER (R63, R64) -/

/-- CLEAR FAULT (R63). -/
def State.clearFaultLine (s : State) : State × Reply :=
  if s.ixc.state == .fault && s.ixc.motion.isNone then ok ((s.onIxc fun i => { i with currentFault := none }).enterHalt)
  else refuse s .wrongState

/-- CLEAR_FAULT (R63). -/
def execClearFault (l : Link) (tag : Byte) (s : State) : Out :=
  s.grant (.clearFault l tag) .supervisor l tag [] State.clearFaultLine

/-- The cells of a RECOVER: N, the positions in the line, and the pending settings that the entry to PERMIT copies (R9, R64). -/
def State.recoverReads : List (State → List Cell) :=
  [fun _ => geometryCell ++ transferCells.take 4 ++ configCells, State.lineTracking]

/-- The checks of R64 that are common to both directions, in their order. -/
def State.recoverRefusal (s : State) : Option Reason :=
  if s.ixc.state != .fault then some .wrongState
  else if s.ixc.motion.isNone then some .wrongState
  else if s.pins.lineStop then some .wrongState
  else if anyBelow s.count fun k => s.active k && (s.pos k).phase == .fault then some .wrongState
  else if s.ixc.driveFaulted then some .wrongState
  else none

/-- A taken RECOVER: the current fault becomes absent and PERMIT is entered with the kind recovered and an origin mask
(R64). The Index Controller has changed state, so a STATUS frame is posted whatever the tests on entry lead to (R60). -/
def State.recover (s : State) (kind : MotionKind) (origin : Mask) : State × Reply :=
  let t := ((s.onIxc fun i => { i with currentFault := none }).beginMotion kind origin).checkEntry
  (t, { result := .accepted, data := u8 t.ixc.state.code, moved := true })

/-- RECOVER(FORWARD): the origin mask is taken again, and a running index timer is marked recovered (R64, R173). -/
def State.recoverForwards (s : State) : State × Reply :=
  match s.recoverRefusal with
  | some r => refuse s r
  | none =>
    if anyBelow s.count fun k => (s.pos k).occupant == .unknown then refuse s .trackingIncomplete
    else (s.onCtm fun c => { c with indexRecovered := c.indexTimer.isSome }).recover .forward s.palletMask

/-- RECOVER_FORWARD (R64). -/
def execRecoverForward (l : Link) (tag : Byte) (s : State) : Out :=
  s.grant (.recoverForward l tag) .supervisor l tag State.recoverReads
    State.recoverForwards

/-- RECOVER(BACK): the origin mask of the interrupted motion is kept (R64). -/
def State.recoverBackwards (s : State) : State × Reply :=
  match s.recoverRefusal with
  | some r => refuse s r
  | none => s.recover .back ((s.ixc.motion.map (·.origin)).getD 0#16)

/-- RECOVER_BACK (R64). -/
def execRecoverBack (l : Link) (tag : Byte) (s : State) : Out :=
  s.grant (.recoverBack l tag) .supervisor l tag State.recoverReads
    State.recoverBackwards

/-! ### The line hold (R69) -/

/-- HOLD_LINE (R69). -/
def execHoldLine (l : Link) (tag : Byte) (s : State) : Out :=
  s.grant (.holdLine l tag) .supervisor l tag [] (fun s => ok (s.onIxc fun i => { i with lineHold := true }))

/-- RELEASE_LINE (R69). -/
def execReleaseLine (l : Link) (tag : Byte) (s : State) : Out :=
  s.grant (.releaseLine l tag) .supervisor l tag []
    (fun s => ok ((s.onIxc fun i => { i with lineHold := false }).collect .supervisor))

/-! ### LINE RESET (R198) -/

/-- The occupant of position `k` when motion was pending: its pallet goes to OUT with its workpiece raised to SUSPECT, and
the position becomes UNKNOWN (R13, R42). -/
def State.loseOccupant (s : State) (k : Nat) : State :=
  if s.count ≤ k then s
  else match s.palletAt k with
    | none => s
    | some n => (s.onWorkpiece n (Workpiece.raiseTo .suspect)).setOccupant k .unknown

/-- Every station hold is cleared (R13). -/
def State.clearHolds (s : State) : State :=
  s.onRst fun r => { r with positions := r.positions.map fun p => { p with hold := false } }

/-- The Index Controller after LINE RESET (R43). -/
def Ixc.lineReset (i : Ixc) : Ixc :=
  { i.stopMotionTimers with
    state := .halt, motion := none, haltRequested := false, indexPending := false, learnArmed := false, lineHold := false,
    currentFault := none, configDue := false }

/-- The Cycle Timer's index and cycle timers after LINE RESET (R173, R174). -/
def Ctm.lineReset (c : Ctm) : Ctm := { c with indexTimer := none, indexRecovered := false, cycleTimer := none }

/-- The steps of LINE RESET in their order (R198, R188). -/
def State.lineResetAll (s : State) : State :=
  let t := s.clearOrders.clearHolds
  let u := if s.ixc.motion.isSome then (List.range 16).foldl State.loseOccupant t else t
  let v := ((u.onAar fun a => { a with workList := [] }).onCtm Ctm.lineReset).idleCaptures.resetLearn
  ((v.onBtk fun b => { b with homeTimer := none, reseatTight := false }).onIxc Ixc.lineReset).attend fun _ => Attentions.reset

/-- LINE RESET is taken in every state; the response carries whether motion was pending and the positions made UNKNOWN, and
one STATUS frame is posted whether or not a content of R187 has changed (R198, assumption 20). -/
def State.resetLine (s : State) : State × Reply :=
  (s.lineResetAll,
    { result := .ok, moved := true
      data := flagByte s.ixc.motion.isSome ++ maskBytes (if s.ixc.motion.isSome then s.palletMask else 0#16) })

/-- LINE_RESET (R198). -/
def execLineReset (l : Link) (tag : Byte) (s : State) : Out :=
  s.grant (.lineReset l tag) .supervisor l tag [fun _ => geometryCell ++ everyPosition, State.everyOccupant] State.resetLine

end Sys2Proof.Machine
end

