-- ==== Sys2Proof/Machine/Station.lean ====
section
/-! DEFINITION. Commands of the station links: JOIN, LEAVE, HOLD and UNHOLD (R70, R89, R194, R195), START, STATION FAULT
and RECOVERED (R79 to R84), CLEAR with every result (R81, R82, R107 to R115) and ARRIVED (R103 to R106). -/

namespace Sys2Proof.Machine

/-- Carry out a request at the position of the link it arrived on. -/
def State.atStation (s : State) (l : Link) (op : Nat → State → State × Reply) : State × Reply :=
  match l.station with
  | none => refuse s .notPermitted
  | some k => op k s

/-- The cells of a grant at the position of a station link. -/
def stationCells (l : Link) (f : Nat → List Cell) : List Cell := match l.station with | none => [] | some k => f k

/-- A grant that reads the three cells of its station's position. -/
def positionReads (l : Link) : List (State → List Cell) := [fun _ => stationCells l positionCells]

/-- A grant that reads the three cells of its station's position, and then the slot of the occupant they name. -/
def occupantReads (l : Link) : List (State → List Cell) :=
  [fun _ => stationCells l positionCells, fun s => stationCells l s.occupantCells]

/-- The two first checks of R79, R70 and R195: NOT_IN_LINE, then NOT_JOINED. -/
def State.membership (s : State) (k : Nat) : Option Reason :=
  if s.unused k then some .notInLine else if (s.pos k).joined.isNone then some .notJoined else none

/-- The checks of R79 for a report that names an order number. -/
def State.reportRefusal (s : State) (k order : Nat) (bad : Bool) : Option Reason :=
  match s.membership k with
  | some r => some r
  | none =>
    if decide (255 < order) || bad then some .range
    else if order != (s.pos k).orderNumber then some .staleOrder
    else none

/-! ### Membership and holds -/

/-- What a taken JOIN does to an ACTIVE position (R89). -/
def State.joinOrder (s : State) (k : Nat) (t : SelfTest) : State :=
  let u := s.cancelOutstanding k
  match t with
  | .pass => u.onPos k fun p =>
      { p with faultCode := none
               phase := match p.phase with
                 | .idle => .idle
                 | .ordered | .working | .done => .done
                 | .fault => if p.orderKind == .noOrder then .idle else .done }
  | .fail => (u.onPos k fun p => { p with phase := .fault, faultCode := some .selfTest }).positionFaulted k

/-- JOIN on SLk (R89, R194). -/
def State.joinStation (s : State) (programs : Mask) (selfTest : Option SelfTest) (k : Nat) : State × Reply :=
  if s.rst.geometry.isNone then refuse s .geometryAbsent
  else if s.unused k then refuse s .notInLine
  else match selfTest with
    | none => refuse s .range
    | some t =>
      if member programs 0 then refuse s .range
      else
        let u := s.onPos k fun p => { p with joined := some { programs := programs, selfTest := t } }
        let v := ((if u.active k then u.joinOrder k t else u).postOrder k).collect (.position k)
        ok v (v.positionEntry k ++ (v.pos k).orderBytes)

/-- JOIN of a station (R89, R194). -/
def execJoin (l : Link) (tag : Byte) (programs : Mask) (selfTest : Option SelfTest) (s : State) : Out :=
  s.grant (.join l tag programs selfTest) .stationJoin l tag
    ((fun _ => geometryCell) :: occupantReads l)
    (fun s => s.atStation l fun k s => s.joinStation programs selfTest k)

/-- LEAVE on SLk (R195). -/
def State.leaveStation (s : State) (k : Nat) : State × Reply :=
  match s.membership k with
  | some r => refuse s r
  | none =>
    if (s.pos k).phase.outstanding then refuse s .wrongState
    else ok (s.onPos k fun p => { p with joined := none, hold := false })

/-- LEAVE (R195). -/
def execLeave (l : Link) (tag : Byte) (s : State) : Out :=
  s.grant (.leave l tag) .station l tag (positionReads l) (fun s => s.atStation l fun k s => s.leaveStation k)

/-- HOLD on SLk: the hold of an ACTIVE position is set (R70). -/
def State.holdStation (s : State) (k : Nat) : State × Reply :=
  match s.membership k with
  | some r => refuse s r
  | none => ok (if s.active k then s.onPos k fun p => { p with hold := true } else s)

/-- HOLD (R70). -/
def execHold (l : Link) (tag : Byte) (s : State) : Out :=
  s.grant (.hold l tag) .station l tag (positionReads l) (fun s => s.atStation l fun k s => s.holdStation k)

/-- UNHOLD on SLk: the hold is cleared, which may complete collection (R70). -/
def State.unholdStation (s : State) (k : Nat) : State × Reply :=
  match s.membership k with
  | some r => refuse s r
  | none => ok ((s.onPos k fun p => { p with hold := false }).collect (.position k))

/-- UNHOLD (R70). -/
def execUnhold (l : Link) (tag : Byte) (s : State) : Out :=
  s.grant (.unhold l tag) .station l tag (positionReads l) (fun s => s.atStation l fun k s => s.unholdStation k)

/-! ### START, STATION FAULT and RECOVERED -/

/-- One more clamp of the occupant's fixture (R23). -/
def State.countClamp (s : State) (k : Nat) : State :=
  match s.palletAt k with
  | none => s
  | some n => s.onPallet n fun p => { p with clamps := countUp 65535 p.clamps }

/-- A taken START (R80). -/
def State.startWork (s : State) (k : Nat) : State :=
  let t := ((s.onPos k fun p => { p with phase := .working }).setStartTimer k none).onWork k
    fun _ => { running := some 0, limit := s.orderLimit k, overrunTaken := false }
  if (s.pos k).orderKind.recorded then t.countClamp k else t

/-- START on SLk (R79, R80). -/
def State.startReport (s : State) (order k : Nat) : State × Reply :=
  match s.reportRefusal k order false with
  | some r => refuse s r
  | none =>
    if (s.pos k).phase == .ordered && (s.pos k).orderKind.timed then ok (s.startWork k) else refuse s .wrongState

/-- START (R80). -/
def execStart (l : Link) (tag : Byte) (order : Nat) (s : State) : Out :=
  s.grant (.start l tag order) .station l tag
    ((fun _ => [⟨.transfer, 8⟩]) :: occupantReads l ++ [fun s => stationCells l s.orderBudget])
    (fun s => s.atStation l fun k s => s.startReport order k)

/-- What a STATION FAULT does to an ACTIVE position (R83). -/
def State.faultPosition (s : State) (k code : Nat) : State :=
  if (s.pos k).phase == .fault then s
  else ((s.cancelOutstanding k).onPos k fun p => { p with phase := .fault, faultCode := some (.station code) }).positionFaulted k

/-- STATION FAULT on SLk (R79, R83). -/
def State.faultReport (s : State) (code k : Nat) : State × Reply :=
  match s.membership k with
  | some r => refuse s r
  | none =>
    if code = 0 ∨ 255 < code then refuse s .range
    else
      let t := s.onDetail k fun d => { d with faultReport := some (code, s.ctm.clock), faultCount := countUp 65535 d.faultCount }
      ok (if t.active k then t.faultPosition k code else t)

/-- STATION_FAULT (R83). -/
def execStationFault (l : Link) (tag : Byte) (code : Nat) (s : State) : Out :=
  s.grant (.stationFault l tag code) .station l tag (occupantReads l)
    (fun s => s.atStation l fun k s => s.faultReport code k)

/-- RECOVERED on SLk (R79, R84). -/
def State.recoveredReport (s : State) (k : Nat) : State × Reply :=
  match s.membership k with
  | some r => refuse s r
  | none =>
    if (s.pos k).phase == .fault && (s.pos k).faultCode != some .selfTest then
      ok ((s.onPos k fun p =>
        { p with phase := if p.orderKind == .noOrder then .idle else .done, faultCode := none }).collect (.position k))
    else refuse s .wrongState

/-- RECOVERED (R84). -/
def execRecovered (l : Link) (tag : Byte) (s : State) : Out :=
  s.grant (.recovered l tag) .station l tag (positionReads l) (fun s => s.atStation l fun k s => s.recoveredReport k)

/-! ### CLEAR (R81, R82) -/

/-- The statistics of a taken work time (R169). -/
def WorkStats.take (x : WorkStats) (v : Nat) : WorkStats :=
  { x with last := some v, longest := some (match x.longest with | none => v | some a => max a v) }

/-- The end of an order by a taken result: the work timer stops and its value goes to the statistics, the result is
recorded, the phase is DONE, and collection is tested (R81, R107, R114, R169). -/
def State.finishOrder (s : State) (k : Nat) (r : Result) : State :=
  let v := (s.work k).running.getD 0
  ((((s.onStats k fun x => x.take v).stopTimers k).onPos k fun p => { p with phase := .done }).onDetail k
    fun d => { d with closing := .cleared, resultTaken := some r }).collect (.position k)

/-- A CLEAR on SLk: the checks of R79, the phase (R81), the repeat of a taken result (R82), and the operation of the
result's own rule. NO_PALLET is taken by an ARRIVED only: a CLEAR that names it repeats nothing (R104). `body` is the data of the OK response. -/
def State.clearReport (s : State) (order : Nat) (bad : Bool) (result : Result) (fits : Nat → State → Bool)
    (op : Nat → State → State × Reply) (body : State → List Byte) (k : Nat) : State × Reply :=
  match s.reportRefusal k order bad with
  | some r => refuse s r
  | none =>
    match (s.pos k).phase with
    | .working => if fits k s then op k s else refuse s .range
    | .done => if (s.detail k).resultTaken = some result ∧ result ≠ .noPallet then ok s (body s) else refuse s .wrongState
    | .idle | .ordered | .fault => refuse s .wrongState

/-- The result a CLEAR of the row CLEAR names. -/
def plainResult : PlainResult → Result
  | .done => .done | .incomplete => .incomplete | .scrapped => .scrapped | .passed => .passed | .failed => .failed
  | .noPallet => .noPallet | .missed => .missed | .abandoned => .abandoned | .lost => .lost

/-- The history result of a PROCESS or CHECK order's result, with the order kind it fits (R31, R81). -/
def plainHistory : PlainResult → Option (OrderKind × HistoryResult)
  | .done => some (.process, .done)
  | .incomplete => some (.process, .incomplete)
  | .scrapped => some (.process, .scrapped)
  | .passed => some (.check, .passed)
  | .failed => some (.check, .failed)
  | .noPallet | .missed | .abandoned | .lost => none

/-- Whether a result fits position `k`'s order kind (R81). -/
def State.plainFits (r : PlainResult) (k : Nat) (s : State) : Bool := (plainHistory r).any fun x => x.1 == (s.pos k).orderKind

/-- A taken CLEAR of a PROCESS or CHECK order: the entry with its work time and the disposition it implies, then the end
of the order (R29, R32, R81). -/
def State.clearWork (r : PlainResult) (k : Nat) (s : State) : State × Reply :=
  let t := match plainHistory r with
    | none => s
    | some x => s.recordResult k ((s.pos k).program.getD 0) x.2 (some ((s.work k).running.getD 0))
  ok (t.finishOrder k (plainResult r))

/-- CLEAR with a result that no position clears with, or that is no result name, is refused with RANGE (R79, R81). -/
def State.clearPlain (s : State) (order : Nat) (result : Option PlainResult) (k : Nat) : State × Reply :=
  match result with
  | none => s.clearReport order true .lost (fun _ _ => false) (fun _ s => refuse s .range) (fun _ => []) k
  | some r => s.clearReport order false (plainResult r) (State.plainFits r) (State.clearWork r) (fun _ => []) k

/-- CLEAR (R79, R81, R82). -/
def execClear (l : Link) (tag : Byte) (order : Nat) (result : Option PlainResult) (s : State) : Out :=
  s.grant (.clear l tag order result) .station l tag (occupantReads l)
    (fun s => s.atStation l fun k s => s.clearPlain order result k)

/-! ### Load results (R107 to R112) -/

/-- The head entry of the schedule as the response to LOADED carries it (R109). -/
def State.headBytes (s : State) : List Byte := optBytes (fun e => u8 e.variant ++ u16 e.quantity) s.rst.schedule.head?

/-- The head decrement (R109). -/
def State.decrementHead (s : State) (v : Nat) : State :=
  State.noteSchedule s (s.onRst fun r => { r with schedule := match r.schedule with
    | [] => []
    | e :: es => if e.variant = v then (if e.quantity ≤ 1 then es else { e with quantity := e.quantity - 1 } :: es) else e :: es })

/-- The variant of the LOAD instruction of position `k`. -/
def State.loadVariant (s : State) (k : Nat) : Option Nat :=
  match (s.pos k).orderKind, (s.pos k).instruction with | .load, some (.load v) => some v | _, _ => none

/-- The new block of a taken LOADED, with the comparison of its serial (R26, R27, R108). -/
def State.createWorkpiece (s : State) (n v : Nat) (serial : List Byte) : State :=
  let w : Workpiece := { serial := .text serial, variant := v, disposition := .good, pass := 1, history := [] }
  let t := s.onPallet n fun p => { p with workpiece := some w }
  if s.serialTaken n serial then
    (t.onWorkpiece n (Workpiece.raiseTo .suspect)).attend fun a => { a with duplicateSerial := some n }
  else t

/-- LOADED under LOAD(v) at position `k` (R108, R109). A pallet whose record is gone has no mask that holds v. R108 lists the
refusals without an order: serial, then mask, then workpiece is the model's choice (assumption 29). -/
def State.loadedResult (serial : List Byte) (k : Nat) (s : State) : State × Reply :=
  match s.loadVariant k, (s.palletAt k).bind s.pallet with
  | some v, some p =>
    if !validSerial serial then refuse s .range
    else if !member p.variants v then refuse s .range
    else if p.workpiece.isSome then refuse s .wrongState
    else
      let t := ((s.createWorkpiece p.number v serial).decrementHead v).finishOrder k (.loaded serial)
      ok t t.headBytes
  | _, _ => refuse s .range

/-- CLEAR_LOADED (R107 to R109). -/
def execClearLoaded (l : Link) (tag : Byte) (order : Nat) (serial : List Byte) (s : State) : Out :=
  s.grant (.clearLoaded l tag order serial) .station l tag
    ((fun s => s.scheduleCells ++ serialCells) :: occupantReads l)
    (fun s => s.atStation l fun k s =>
      s.clearReport order false (.loaded serial) (fun k s => (s.loadVariant k).isSome) (State.loadedResult serial) State.headBytes k)

/-- The second pass of a block (R110). -/
def Workpiece.secondPass (w : Workpiece) : Workpiece :=
  { w with pass := 2, disposition := if w.disposition == .rework then .good else w.disposition }

/-- READY under PASS_TWO (R110). At a position whose pallet has lost its record the order ends and no record changes
(assumption 17). -/
def State.readyResult (k : Nat) (s : State) : State × Reply :=
  let t := match s.palletAt k with | none => s | some n => s.onWorkpiece n Workpiece.secondPass
  ok (t.finishOrder k .ready)

/-- Whether position `k` holds a LOAD order with an instruction. -/
def State.loadInstruction (s : State) (k : Nat) : Option Instruction :=
  if (s.pos k).orderKind == .load then (s.pos k).instruction else none

/-- CLEAR_READY (R107, R110). -/
def execClearReady (l : Link) (tag : Byte) (order : Nat) (s : State) : Out :=
  s.grant (.clearReady l tag order) .station l tag (occupantReads l)
    (fun s => s.atStation l fun k s =>
      s.clearReport order false .ready (fun k s => s.loadInstruction k == some .passTwo) State.readyResult (fun _ => []) k)

/-- The instructions that EMPTY fits (R107). -/
def Instruction.allowsEmpty : Instruction → Bool
  | .load _ | .empty _ => true
  | .passTwo | .remove | .unload _ _ => false

/-- CLEAR_EMPTY (R107, R111). -/
def execClearEmpty (l : Link) (tag : Byte) (order : Nat) (s : State) : Out :=
  s.grant (.clearEmpty l tag order) .station l tag (positionReads l)
    (fun s => s.atStation l fun k s =>
      s.clearReport order false .empty (fun k s => (s.loadInstruction k).any Instruction.allowsEmpty)
        (fun k s => ok (s.finishOrder k .empty)) (fun _ => []) k)

/-- A result that adds a completion record: refused with LOG_FULL while the log is full, and otherwise the record is
added, the workpiece detached, and the order ended (R112, R114, R118). -/
def State.completeResult (lane : LogLane) (r : Result) (k : Nat) (s : State) : State × Reply :=
  if s.logFull then refuse (s.attend fun a => { a with logFull := some k }) .logFull
  else
    let t := match s.palletAt k with | none => s | some n => s.completeWorkpiece n lane
    ok (t.finishOrder k r)

/-- The cells of a CLEAR that adds a completion record. -/
def completeReads (l : Link) : List (State → List Cell) := (fun _ => [⟨.log, 0⟩]) :: occupantReads l

/-- CLEAR_REMOVED (R107, R112, R118). -/
def execClearRemoved (l : Link) (tag : Byte) (order : Nat) (s : State) : Out :=
  s.grant (.clearRemoved l tag order) .station l tag (completeReads l)
    (fun s => s.atStation l fun k s =>
      s.clearReport order false .removed (fun k s => s.loadInstruction k == some .remove)
        (State.completeResult .removedAtLoad .removed) (fun _ => []) k)

/-! ### Unload results (R114, R115) -/

/-- The lane of position `k`'s UNLOAD order. -/
def State.unloadLane (s : State) (k : Nat) : Option Lane :=
  match (s.pos k).orderKind, (s.pos k).instruction with | .unload, some (.unload l _) => some l | _, _ => none

/-- The lane of the completion record of an UNLOADED (R114). -/
def Lane.logged : Lane → Option LogLane
  | .ship => some .ship | .reject => some .reject | .keep | .noLane => none

/-- UNLOADED in a lane that ships or rejects (R114). -/
def State.unloadedResult (k : Nat) (s : State) : State × Reply :=
  match (s.unloadLane k).bind Lane.logged with
  | none => refuse s .range
  | some lane => s.completeResult lane .unloaded k

/-- CLEAR_UNLOADED (R114, R118). -/
def execClearUnloaded (l : Link) (tag : Byte) (order : Nat) (s : State) : Out :=
  s.grant (.clearUnloaded l tag order) .station l tag (completeReads l)
    (fun s => s.atStation l fun k s =>
      s.clearReport order false .unloaded (fun k s => ((s.unloadLane k).bind Lane.logged).isSome) State.unloadedResult (fun _ => []) k)

/-- CLEAR_KEPT (R114, R115). -/
def execClearKept (l : Link) (tag : Byte) (order : Nat) (s : State) : Out :=
  s.grant (.clearKept l tag order) .station l tag (positionReads l)
    (fun s => s.atStation l fun k s =>
      s.clearReport order false .kept (fun k s => s.unloadLane k == some .keep || s.unloadLane k == some .noLane)
        (fun k s => ok (s.finishOrder k .kept)) (fun _ => []) k)

/-- STUCK: the divert flag is set and the workpiece raised to SUSPECT (R115). At a position whose pallet has lost its record
(occupant UNKNOWN, R161) the order ends and no record changes (assumption 17). -/
def State.stuckResult (k : Nat) (s : State) : State × Reply :=
  let t := match s.palletAt k with
    | none => s
    | some n => (s.onPallet n fun p => { p with divert := true }).onWorkpiece n (Workpiece.raiseTo .suspect)
  ok (t.finishOrder k .stuck)

/-- CLEAR_STUCK (R114, R115). -/
def execClearStuck (l : Link) (tag : Byte) (order : Nat) (s : State) : Out :=
  s.grant (.clearStuck l tag order) .station l tag (occupantReads l)
    (fun s => s.atStation l fun k s =>
      s.clearReport order false .stuck (fun k s => (s.unloadLane k).isSome) State.stuckResult (fun _ => []) k)

/-! ### ARRIVED (R103 to R106) -/

/-- The checks of R103 up to the phase: `none` where the FEED order is ORDERED or DONE. -/
def State.arrivalRefusal (s : State) (k order : Nat) (bad : Bool) : Option Reason :=
  match s.reportRefusal k order bad with
  | some r => some r
  | none =>
    if (s.pos k).orderKind == .feed && ((s.pos k).phase == .ordered || (s.pos k).phase == .done) then none else some .wrongState

/-- ARRIVED(none) at position `k` (R103, R104). -/
def State.arriveNone (s : State) (order k : Nat) : State × Reply :=
  match s.arrivalRefusal k order false with
  | some r => refuse s r
  | none =>
    if (s.pos k).phase == .done then
      if (s.detail k).resultTaken = some .noPallet then ok s else refuse s .wrongState
    else ok (((s.onPos k fun p => { p with phase := .done }).onDetail k
      fun d => { d with closing := .cleared, resultTaken := some .noPallet }).collect (.position k))

/-- ARRIVED_NO_PALLET (R103, R104). -/
def execArrivedNoPallet (l : Link) (tag : Byte) (order : Nat) (s : State) : Out :=
  s.grant (.arrivedNoPallet l tag order) .station l tag (positionReads l)
    (fun s => s.atStation l fun k s => s.arriveNone order k)

/-- The attentions that a load decision raises (R106). -/
def State.noteInstruction (s : State) (n : Nat) : Instruction → State
  | .empty .noSchedule => s.attend fun a => { a with scheduleEmpty := true }
  | .empty .fixture => s.attend fun a =>
      { a with fixtureMismatch := some (n, ((s.rst.schedule.head?).map (·.variant)).getD 0) }
  | .empty .maintenance | .load _ | .passTwo | .remove | .unload _ _ => s

/-- The pallet leaves the place it holds in the return queue; a place behind the head raises ORDER_SLIP (R105). -/
def State.takeFromQueue (s : State) (n : Nat) : State :=
  match s.queuePlace n with
  | none => s
  | some i =>
    let t := s.onRst fun r => { r with returnQueue := r.returnQueue.eraseIdx i }
    if i = 0 then t else t.attend fun a => { a with orderSlip := some (i, n) }

/-- The reason of EMPTY that the response to ARRIVED carries (R105). -/
def Instruction.reason : Instruction → Option EmptyReason
  | .empty r => some r
  | .load _ | .passTwo | .remove | .unload _ _ => none

/-- An accepted ARRIVED (R105, R106). -/
def State.acceptArrival (s : State) (k : Nat) (p : Pallet) : State × Reply :=
  let i := s.loadDecision p
  let number := ((s.pos k).orderNumber + 1) % 256
  let t := ((((s.takeFromQueue p.number).noteInstruction p.number i).setOccupant k (.pallet p.number)).issueOrder k number .load none
    (some i)).postOrder k
  ok t (u8 number ++ i.bytes ++ optBytes (fun r => u8 r.code) i.reason)

/-- ARRIVED with a pallet at position `k` (R103, R105). -/
def State.arrive (s : State) (order n k : Nat) : State × Reply :=
  match s.arrivalRefusal k order (decide (255 < n)) with
  | some r => refuse s r
  | none =>
    if (s.pos k).phase == .done then refuse s .wrongState
    else match s.pallet n with
      | none => refuse (s.attend fun a => { a with unknownPallet := some n }) .unknownPallet
      | some p => if (s.positionOf n).isSome then refuse s .duplicatePallet else s.acceptArrival k p

/-- ARRIVED (R103 to R106). The number 0 names no pallet. -/
def execArrived (l : Link) (tag : Byte) (order pallet : Nat) (s : State) : Out :=
  s.grant (.arrived l tag order pallet) .station l tag
    [fun s => geometryCell ++ s.locationCells ++ s.scheduleCells ++ headerCells ++ s.palletCells pallet ++ stationCells l positionCells]
    (fun s => s.atStation l fun k s => if pallet = 0 then s.arriveNone order k else s.arrive order pallet k)

end Sys2Proof.Machine
end

