-- ==== Sys2Proof/Machine/Tables.lean ====
section
/-! DEFINITION. Commands of the supervisor on the tables, the lists and the learn: SET ROUTING (R73), INSERT RETURN and
WITHDRAW RETURN (R95, R96), APPEND SCHEDULE and CLEAR SCHEDULE (R99, R100), FETCH COMPLETION (R119), SET TARGET (R125),
LEARN, ACCEPT LEARN and DISCARD LEARN (R138, R149, R150), SET BUDGET and CLEAR TIMING (R170, R177) and ACKNOWLEDGE (R189). -/

namespace Sys2Proof.Machine

/-! ### Routing (R73) -/

/-- The checks of R73, in their order. -/
def State.routingRefusal (s : State) (v k g : Nat) : Option Reason :=
  if v = 0 ∨ 8 < v ∨ 15 < k ∨ 15 < g then some .range
  else if s.rst.geometry.isNone then some .geometryAbsent
  else if s.unused k then some .notInLine
  else if (s.pos k).kind == .load || (s.pos k).kind == .unload then some .range
  else if g != 0 && (s.pos k).joined.any fun j => !member j.programs g then some .programUnknown
  else none

/-- SET ROUTING (R73). -/
def State.setRouting (s : State) (v k g : Nat) : State × Reply :=
  match s.routingRefusal v k g with
  | some r => refuse s r
  | none => ok (s.onRst fun r => { r with routing := r.routing.set ((v - 1) * 16 + k) g }) (u8 v ++ u8 k ++ u8 g)

/-- SET_ROUTING (R73). -/
def execSetRouting (l : Link) (tag : Byte) (v k g : Nat) (s : State) : Out :=
  s.grant (.setRouting l tag v k g) .supervisor l tag
    [fun _ => geometryCell ++ [⟨.positionConfig, k⟩] ++ (if 1 ≤ v then [⟨.routing, v - 1⟩] else [])]
    (fun s => s.setRouting v k g)

/-! ### Return queue (R95, R96) -/

/-- INSERT RETURN of a registered pallet (R95). -/
def State.insertReturn (n : Nat) (_ : Pallet) (s : State) : State × Reply :=
  if s.location n != .out then refuse s .wrongState
  else
    let i := s.rst.returnQueue.length
    ok ((s.onRst fun r => { r with returnQueue := r.returnQueue ++ [n] }).rewriteCells [⟨.returnQueue, i⟩]) (u8 i ++ u8 (i + 1))

/-- INSERT_RETURN (R95). -/
def execInsertReturn (l : Link) (tag : Byte) (n : Nat) (s : State) : Out :=
  s.grant (.insertReturn l tag n) .supervisor l tag [fun s => s.locationCells ++ s.palletCells n]
    (fun s => s.atPallet n (State.insertReturn n))

/-- WITHDRAW RETURN of a registered pallet (R96). -/
def State.withdrawReturn (n : Nat) (_ : Pallet) (s : State) : State × Reply :=
  match s.location n with
  | .queue i => ok (s.onRst fun r => { r with returnQueue := r.returnQueue.eraseIdx i }) (u8 i)
  | .position _ | .out => refuse s .wrongState

/-- WITHDRAW_RETURN (R96). -/
def execWithdrawReturn (l : Link) (tag : Byte) (n : Nat) (s : State) : Out :=
  s.grant (.withdrawReturn l tag n) .supervisor l tag [fun s => s.locationCells ++ s.palletCells n]
    (fun s => s.atPallet n (State.withdrawReturn n))

/-! ### Load schedule (R99, R100) -/

/-- The quantity taken: clamped into 1 to 9,999 (R99). -/
def clampQuantity (q : Nat) : Nat := min (max q 1) 9999

/-- APPEND SCHEDULE (R99). -/
def State.appendSchedule (s : State) (v q : Nat) : State × Reply :=
  if v = 0 ∨ 8 < v then refuse s .range
  else if Config.schedulePlaces ≤ s.rst.schedule.length then refuse s .queueFull
  else
    let i := s.rst.schedule.length
    ok ((s.onRst fun r => { r with schedule := r.schedule ++ [{ variant := v, quantity := clampQuantity q }] }).rewriteCells
      [⟨.schedule, i⟩]) (u16 (clampQuantity q) ++ u8 i ++ u8 (i + 1))

/-- APPEND_SCHEDULE (R99). -/
def execAppendSchedule (l : Link) (tag : Byte) (v q : Nat) (s : State) : Out :=
  s.grant (.appendSchedule l tag v q) .supervisor l tag [State.scheduleCells] (fun s => s.appendSchedule v q)

/-- CLEAR SCHEDULE (R98, R100). -/
def State.clearScheduleAll (s : State) : State × Reply :=
  ok (State.noteSchedule s (s.onRst fun r => { r with schedule := [] })) (u8 s.rst.schedule.length)

/-- CLEAR_SCHEDULE (R100). -/
def execClearSchedule (l : Link) (tag : Byte) (s : State) : Out :=
  s.grant (.clearSchedule l tag) .supervisor l tag [State.scheduleCells] State.clearScheduleAll

/-! ### Completion log (R119) -/

/-- FETCH COMPLETION (R119). -/
def State.fetchCompletion (s : State) : State × Reply :=
  match s.rst.log with
  | [] => ok s (optBytes CompletionRecord.bytes none ++ u8 0)
  | c :: cs =>
    ok ((s.onRst fun r => { r with log := cs, logHead := (r.logHead + 1) % 32, lastFetched := some c }).rewriteCells (logCells 32))
      (optBytes CompletionRecord.bytes (some c) ++ u8 cs.length)

/-- FETCH_COMPLETION (R119). -/
def execFetchCompletion (l : Link) (tag : Byte) (s : State) : Out :=
  s.grant (.fetchCompletion l tag) .supervisor l tag
    [fun _ => [⟨.log, 0⟩], fun s => if s.rst.log.isEmpty then [] else logCells (s.rst.logHead % 32)] State.fetchCompletion

/-! ### Target and learn (R125, R138, R149, R150) -/

/-- SET TARGET (R125). A quantized argument just above the range of four signed bytes wraps in the response (assumption 33). -/
def State.setTarget (s : State) (x : Int) : State × Reply :=
  match s.rst.geometry with
  | none => refuse s .geometryAbsent
  | some g =>
    ok (s.setPendingTarget (g.place x))
      (i32 x ++ i32 (g.quantize x) ++ i32 (g.place x) ++ i32 s.working.target ++ i32 g.tlo ++ i32 g.thi)

/-- SET_TARGET (R125). -/
def execSetTarget (l : Link) (tag : Byte) (x : Int) (s : State) : Out :=
  s.grant (.setTarget l tag x) .supervisor l tag [fun _ => geometryCell ++ [⟨.transfer, 0⟩, ⟨.transfer, 4⟩]]
    (fun s => s.setTarget x)

/-- LEARN sets the learn-armed flag (R138). -/
def State.armLearn (s : State) : State × Reply :=
  if s.rst.geometry.isNone then refuse s .geometryAbsent
  else accepted (s.onIxc fun i => { i with learnArmed := true }) (flagByte true)

/-- LEARN (R138). -/
def execLearn (l : Link) (tag : Byte) (s : State) : Out :=
  s.grant (.learn l tag) .supervisor l tag [fun _ => geometryCell] State.armLearn

/-- Whether some WINDOW position's width is less than the working MINW (R149). -/
def State.tooNarrow (s : State) : Bool :=
  s.wlu.record.windows.any fun e => decide (e.high.getD 0 - e.low.getD 0 < s.working.minWidth)

/-- The windows a learn writes: a list of the WINDOW positions, each with its position, L and U (R149; the layout is that of
assumption 14). -/
def State.measuredBytes (s : State) : List Byte :=
  listBytes (fun x : SweepEntry × Nat => u8 (x.2 + 1) ++ i32 (x.1.low.getD 0) ++ i32 (x.1.high.getD 0))
    (s.wlu.record.entries.zipIdx.filter fun x => x.1.outcome == some .window)

/-- ACCEPT LEARN (R149). -/
def State.acceptLearn (s : State) : State × Reply :=
  if s.wlu.record.state != .held then refuse s .wrongState
  else if s.tooNarrow then refuse s .wrongState
  else
    let x := s.wlu.record.placed.getD 0
    ok ((s.writeWindows.setPendingTarget x).onWlu fun w => { w with record := { w.record with state := .accepted } })
      (s.measuredBytes ++ i32 x ++ i32 s.working.target ++ i32 (x - s.working.target))

/-- ACCEPT_LEARN (R149). -/
def execAcceptLearn (l : Link) (tag : Byte) (s : State) : Out :=
  s.grant (.acceptLearn l tag) .supervisor l tag [fun _ => [⟨.transfer, 0⟩, ⟨.transfer, 4⟩, ⟨.transfer, 5⟩]] State.acceptLearn

/-- DISCARD LEARN (R150). -/
def State.discardLearn (s : State) : State × Reply :=
  if s.wlu.record.state != .held then refuse s .wrongState else ok s.discardHeld

/-- DISCARD_LEARN (R150). -/
def execDiscardLearn (l : Link) (tag : Byte) (s : State) : Out :=
  s.grant (.discardLearn l tag) .supervisor l tag [] State.discardLearn

/-! ### Budgets and timing (R170, R177) -/

/-- SET BUDGET (R170, R171). -/
def State.setBudget (s : State) (k g b : Nat) : State × Reply :=
  if 15 < k ∨ g = 0 ∨ 15 < g then refuse s .range
  else
    let v := min b Config.maxBudget
    let t := (s.onRst fun r => { r with budgets := r.budgets.set (k * 15 + (g - 1)) v }).rewriteCells [⟨.budget, k * 15 + (g - 1)⟩]
    ok (if (t.pos k).program = some g then t.reformLimit k else t) (u32 v ++ optBytes u32 (budgetLimit s.tolerance v))

/-- SET_BUDGET (R170). -/
def execSetBudget (l : Link) (tag : Byte) (k g b : Nat) (s : State) : Out :=
  s.grant (.setBudget l tag k g b) .supervisor l tag [fun _ => [⟨.transfer, 8⟩, ⟨.positionTracking, k⟩]] (fun s => s.setBudget k g b)

/-- The Cycle Timer after CLEAR TIMING: every statistic at its device-reset value; the clock and the running timers kept
(R177). -/
def Ctm.clearStatistics (c : Ctm) : Ctm :=
  { c with
    stats := c.stats.map fun _ => WorkStats.reset
    indexTimes := Span.reset, lastIndexRecovered := none, cycleTimes := Span.reset, advances := 0
    gateHome := 0, gateSupervisor := 0, gateDrive := 0, gateStop := 0, lastGate := none }

/-- CLEAR_TIMING (R177). -/
def execClearTiming (l : Link) (tag : Byte) (s : State) : Out :=
  s.grant (.clearTiming l tag) .supervisor l tag [] (fun s => ok (s.onCtm Ctm.clearStatistics))

/-! ### ACKNOWLEDGE (R189) -/

/-- The attentions that ACKNOWLEDGE may not name: POSITION_FAULT and LOG_PENDING, the second and the seventh (R189). -/
def namesReflecting (m : Mask) : Bool := namesAttention m 1 || namesAttention m 6

/-- The places of the attentions that a request clears: named and present. -/
def State.clearedPlaces (s : State) (m : Mask) : List Nat :=
  (List.range 16).filter fun i => namesAttention m i && s.statusContent.present.getD i false

/-- The response of ACKNOWLEDGE: the set cleared, the values carried, and the sequence number after the grant (R189). -/
def State.acknowledgeBody (s : State) (m : Mask) : List Byte :=
  let cs := s.clearedPlaces m
  presentBytes ((List.range 16).map cs.contains) ++ cs.flatMap s.attentions.value ++
    u16 (if cs.isEmpty then s.liu.sequence else nextSequence s.liu.sequence)

/-- ACKNOWLEDGE (R189). -/
def State.acknowledge (s : State) (m : Mask) : State × Reply :=
  if namesReflecting m then refuse s .range else ok (s.attend fun a => a.clearNamed m) (s.acknowledgeBody m)

/-- ACKNOWLEDGE (R189). -/
def execAcknowledge (l : Link) (tag : Byte) (m : Mask) (s : State) : Out :=
  s.grant (.acknowledge l tag m) .supervisor l tag [] (fun s => s.acknowledge m)

end Sys2Proof.Machine
end

