-- ==== Sys2Proof/Machine/Timers.lean ====
section
/-! DEFINITION. Commands of the timers: the four motion timers (R52), the home timer (R136), the start timers (R86) and
the passing of a work time's limit (R172). A stopped timer does not expire. -/

namespace Sys2Proof.Machine

/-- LIFT_TIMEOUT: expiry of the lift timer in PERMIT (R52, R59). -/
def execLiftTimeout (s : State) : Out :=
  s.event fun s => if s.ixc.state == .permit && s.ixc.liftTimer.isSome then s.enterFault .liftTimeout else s

/-- CARRY_TIMEOUT: expiry of the carry timer in CARRY or RESEAT (R52, R59). -/
def execCarryTimeout (s : State) : Out :=
  s.event fun s =>
    if (s.ixc.state == .carry || s.ixc.state == .reseat) && s.ixc.carryTimer.isSome then s.enterFault .carryTimeout else s

/-- SWEEP_TIMEOUT: expiry of the sweep timer in SWEEP, with cause CARRY_TIMEOUT (R52, R59). -/
def execSweepTimeout (s : State) : Out :=
  s.event fun s => if s.ixc.state == .sweep && s.ixc.sweepTimer.isSome then s.enterFault .carryTimeout else s

/-- SETTLE_END: the end of the settle timer makes the stop check and the seat check (R53, R54). -/
def execSettleEnd (s : State) : Out :=
  s.event fun s => if s.ixc.state == .settle && s.ixc.settleTimer.isSome then s.endSettle (·.testCollection .drive) else s

/-- HOME_TIMEOUT: expiry of the home timer in COLLECT (R62, R136). -/
def execHomeTimeout (s : State) : Out :=
  s.event fun s => if s.ixc.state == .collect && s.btk.homeTimer.isSome then s.enterFault .homeTimeout else s

/-- START_TIMEOUT: expiry of position `k`'s start timer while it is ORDERED puts the expiry write on the IXC work list
(R86, R87, R156). -/
def execStartTimeout (k : Fin 16) (s : State) : Out :=
  s.event fun s => if (s.startTimer k.val).isSome && (s.pos k.val).phase == .ordered then s.expireStart k.val else s

/-- OVERRUN: a running work time that is greater than the limit as it stands raises one overrun for an order (R171,
R172). -/
def execOverrun (k : Fin 16) (s : State) : Out := s.event fun s => s.checkOverrun k.val

end Sys2Proof.Machine
end

