-- ==== Sys2Proof/Machine/Wired.lean ====
section
/-! DEFINITION. Commands of the wired inputs: RESET, HOME, IP0 to IP15, LINE STOP and the encoder (R1, R59, R62, R121 to
R123, R133, R135, R136, R142, R193). -/

namespace Sys2Proof.Machine

/-! ### RESET (R193) -/

/-- DEVICE_RESET: the device is held in reset. Both permits go off with the level (`liftPermit`, `returnPermit`), and the
receivers discard what they receive. Every stored value is replaced when the reset completes (R193). -/
def execDeviceReset (s : State) : Out := .next (s.onPins fun p => { p with resetInput := true })

/-- The state in which a device reset completes: every block at its device-reset value, the waiting commands and the
unfiltered levels of LINE STOP and of the encoder as they are (R193). -/
def State.resetCompleted (s : State) : State :=
  { State.reset with
    pins := { Pins.reset with lineStop := s.pins.lineStop, encoderA := s.pins.encoderA, encoderB := s.pins.encoderB }
    pending := s.pending }

/-- DEVICE_RESET_COMPLETE: RESET becoming inactive completes the reset; a RESET that is not held changes nothing (R193). -/
def execDeviceResetComplete (s : State) : Out := if s.pins.resetInput then .next s.resetCompleted else .next s

/-! ### HOME (R123, R136) -/

/-- The re-reference of the bar counter at a rising edge of HOME, with the home error it records (R123). -/
def Btk.reference (b : Btk) : Btk :=
  { b with lastHomeError := some b.counter, largestHomeError := max b.largestHomeError b.counter.natAbs, counter := 0,
           saturated := false, homeTimer := none }

/-- HOME_DRIFT is raised when a geometry is present and the home error is greater than the working HT (R123). -/
def State.checkHomeDrift (s : State) (error : Int) : State :=
  if s.rst.geometry.isSome && decide (s.working.homeTolerance < (error.natAbs : Int)) then
    s.attend fun a => { a with homeDrift := some error }
  else s

/-- A rising edge of HOME: the re-reference (R123), the stop of the home timer (R136), what the change of the counter
brings about in a motion (R128, R129), and the collection test (R47). -/
def State.homeRises (s : State) : State :=
  let t := (s.onPins fun p => { p with home := true }).onBtk Btk.reference
  ((t.checkHomeDrift s.btk.counter).counterChanged).testCollection .home

/-- HOME_RISING (R123). A level that is active already has no rising edge (R1). -/
def execHomeRising (s : State) : Out := s.event fun s => if s.pins.home then s else s.homeRises

/-- HOME_FALLING: in COLLECT the home timer starts (R136), and RETURN PERMIT follows its level rule (R135). -/
def execHomeFalling (s : State) : Out :=
  s.event fun s =>
    if s.pins.home then
      let t := s.onPins fun p => { p with home := false }
      if t.ixc.state == .collect then t.startHomeTimer else t
    else s

/-! ### In-position inputs (R133, R142) -/

/-- The level of IPk. -/
def Pins.setIp (p : Pins) (k : Nat) (active : Bool) : Pins :=
  { p with ip := if active then withMember p.ip k else p.ip &&& ~~~(1#16 <<< k) }

/-- The arrival at an ARMED position: E, the drift against the window of R151, the largest drift, and LOCATOR_DRIFT
beyond the working ET (R133). -/
def State.captureEntry (s : State) (k : Nat) : State :=
  let e := s.btk.counter
  let d := (s.window k).map fun w => e - w.low
  let t := s.onBtk fun b => { b with captures := b.captures.modify (k - 1) fun c =>
    { c with state := .captured, entry := some e, drift := d, largest := max c.largest ((d.map Int.natAbs).getD 0) } }
  if d.any fun x => decide (s.working.entryTolerance < (x.natAbs : Int)) then
    t.attend fun a => { a with locatorDrift := withMember a.locatorDrift k }
  else t

/-- An edge of IPk in PERMIT or CARRY of an INDEX motion (R133). -/
def State.entryEdge (s : State) (k : Nat) (rising : Bool) : State :=
  match (s.btk.captures.getD (k - 1) EntryCapture.reset).state, rising with
  | .awaitDeparture, false => s.onBtk fun b => { b with captures := b.captures.modify (k - 1) fun c => { c with state := .armed } }
  | .armed, true => s.captureEntry k
  | .awaitDeparture, true | .armed, false | .captured, _ | .noEntry, _ | .idle, _ => s

/-- An edge of IPk in PERMIT or SWEEP of a LEARN motion, until the sweep ends (R142). -/
def State.sweepEdge (s : State) (k : Nat) (rising : Bool) : State :=
  let extend := s.wlu.record.settings.any (·.extend)
  s.onWlu fun w => { w with record := { w.record with
    entries := w.record.entries.modify (k - 1) fun e => e.edge rising extend s.btk.counter } }

/-- What a filtered edge of IPk acts on: IP1 to IP(N−1) only, by the Index Controller state and the motion kind. -/
def State.ipEdge (s : State) (k : Nat) (rising : Bool) : State :=
  if decide (0 < k) && decide (k < s.count) then
    if (s.ixc.state == .permit || s.ixc.state == .carry) && s.motionKind == some .index then s.entryEdge k rising
    else if (s.ixc.state == .permit || s.ixc.state == .sweep) && s.motionKind == some .learn && s.wlu.outcome.isNone then
      s.sweepEdge k rising
    else s
  else s

/-- IN_POSITION_EDGE (R133, R142). A level that does not change has no edge (R1). -/
def execInPositionEdge (k : Fin 16) (active : Bool) (s : State) : Out :=
  s.event fun s =>
    if member s.pins.ip k.val == active then s
    else State.ipEdge (s.onPins fun p => p.setIp k.val active) k.val active

/-! ### LINE STOP (R44, R59, R62, R135) -/

/-- LINE_STOP_ACTIVE: both permits go off with the level; a motion or a pending advance is aborted with STOPPED (R55,
R59, R61, R62). The level is followed in reset too. -/
def execLineStopActive (s : State) : Out :=
  let t := s.onPins fun p => { p with lineStop := true }
  if s.pins.resetInput then .next t
  else if s.pins.lineStop then .next s
  else .next (State.closeEvent s (t.abortMotion .stopped))

/-- LINE_STOP_INACTIVE: in COLLECT the collection is tested (R62); RETURN PERMIT follows its level rule (R135). -/
def execLineStopInactive (s : State) : Out :=
  let t := s.onPins fun p => { p with lineStop := false }
  if s.pins.resetInput then .next t
  else if s.pins.lineStop then .next (State.closeEvent s (t.testCollection .stop))
  else .next s

/-! ### Encoder (R121, R122) -/

/-- The level of an encoder channel changes with its edge. -/
def Pins.encoder (p : Pins) : EncoderChange → Pins
  | .edge .a _ => { p with encoderA := !p.encoderA }
  | .edge .b _ => { p with encoderB := !p.encoderB }
  | .both => { p with encoderA := !p.encoderA, encoderB := !p.encoderB }

/-- The counter one count on, in the direction of the edge. -/
def Travel.count : Travel → Int → Int
  | .carry, c => c + 1
  | .home, c => c - 1

/-- A counting edge would take the counter beyond its range (R122). -/
def State.saturate (s : State) : State := (s.onBtk fun b => { b with saturated := true }).abortMoving .encoderRange

/-- A counting edge: nothing while the counter is saturated; saturation at an end of the range; otherwise one count, and
what the change brings about in a motion (R121, R122, R129, R143). -/
def State.countEdge (s : State) (d : Travel) : State :=
  if s.btk.saturated then s
  else
    let c := Travel.count d s.btk.counter
    if c < Config.counterMin ∨ Config.counterMax < c then s.saturate
    else (s.onBtk fun b => { b with counter := c }).counterChanged

/-- A change of the encoder inputs (R121). -/
def State.encoderChange (s : State) : EncoderChange → State
  | .edge _ d => s.countEdge d
  | .both => s.onBtk fun b => { b with transitionErrors := countUp 65535 b.transitionErrors }

/-- ENCODER_EDGE (R121, R122). The levels are followed in reset too. -/
def execEncoderEdge (change : EncoderChange) (s : State) : Out :=
  let t := s.onPins fun p => p.encoder change
  if s.pins.resetInput then .next t else .next (State.closeEvent s (t.encoderChange change))

end Sys2Proof.Machine
end

