-- ==== Sys2Proof/Machine/Dispatch.lean ====
section
/-! DEFINITION. The meaning of every command: one arm per constructor of `Instr`. -/

namespace Sys2Proof.Machine

def exec (i : Instr) (s : State) : Host.Outcome State Fault Refusal :=
  match i with
  | .deviceReset => Sys2Proof.Machine.execDeviceReset s
  | .deviceResetComplete => Sys2Proof.Machine.execDeviceResetComplete s
  | .homeRising => Sys2Proof.Machine.execHomeRising s
  | .homeFalling => Sys2Proof.Machine.execHomeFalling s
  | .inPositionEdge k active => Sys2Proof.Machine.execInPositionEdge k active s
  | .lineStopActive => Sys2Proof.Machine.execLineStopActive s
  | .lineStopInactive => Sys2Proof.Machine.execLineStopInactive s
  | .encoderEdge change => Sys2Proof.Machine.execEncoderEdge change s
  | .liftTimeout => Sys2Proof.Machine.execLiftTimeout s
  | .carryTimeout => Sys2Proof.Machine.execCarryTimeout s
  | .sweepTimeout => Sys2Proof.Machine.execSweepTimeout s
  | .settleEnd => Sys2Proof.Machine.execSettleEnd s
  | .homeTimeout => Sys2Proof.Machine.execHomeTimeout s
  | .startTimeout k => Sys2Proof.Machine.execStartTimeout k s
  | .startTimeoutWrite k => Sys2Proof.Machine.execStartTimeoutWrite k s
  | .overrun k => Sys2Proof.Machine.execOverrun k s
  | .advance => Sys2Proof.Machine.execAdvance s
  | .learnWrite => Sys2Proof.Machine.execLearnWrite s
  | .scrubberRead upsets => Sys2Proof.Machine.execScrubberRead upsets s
  | .frameReceived link kind tag body check => Sys2Proof.Machine.execFrameReceived link kind tag body check s
  | .receiveGapTimeout link => Sys2Proof.Machine.execReceiveGapTimeout link s
  | .frameSent link => Sys2Proof.Machine.execFrameSent link s
  | .readPosition link tag position => Sys2Proof.Machine.execReadPosition link tag position s
  | .readPallet link tag number => Sys2Proof.Machine.execReadPallet link tag number s
  | .readIndex link tag => Sys2Proof.Machine.execReadIndex link tag s
  | .readRouting link tag variant position => Sys2Proof.Machine.execReadRouting link tag variant position s
  | .readOrder link tag position => Sys2Proof.Machine.execReadOrder link tag position s
  | .readReturn link tag => Sys2Proof.Machine.execReadReturn link tag s
  | .readSchedule link tag => Sys2Proof.Machine.execReadSchedule link tag s
  | .readCompletion link tag => Sys2Proof.Machine.execReadCompletion link tag s
  | .readTarget link tag => Sys2Proof.Machine.execReadTarget link tag s
  | .readLearn link tag => Sys2Proof.Machine.execReadLearn link tag s
  | .readStore link tag => Sys2Proof.Machine.execReadStore link tag s
  | .readBudget link tag position => Sys2Proof.Machine.execReadBudget link tag position s
  | .readTiming link tag position => Sys2Proof.Machine.execReadTiming link tag position s
  | .readStatus link tag => Sys2Proof.Machine.execReadStatus link tag s
  | .readLinks link tag => Sys2Proof.Machine.execReadLinks link tag s
  | .join link tag programs selfTest => Sys2Proof.Machine.execJoin link tag programs selfTest s
  | .driveJoin link tag => Sys2Proof.Machine.execDriveJoin link tag s
  | .leave link tag => Sys2Proof.Machine.execLeave link tag s
  | .hold link tag => Sys2Proof.Machine.execHold link tag s
  | .unhold link tag => Sys2Proof.Machine.execUnhold link tag s
  | .start link tag order => Sys2Proof.Machine.execStart link tag order s
  | .clear link tag order result => Sys2Proof.Machine.execClear link tag order result s
  | .clearLoaded link tag order serial => Sys2Proof.Machine.execClearLoaded link tag order serial s
  | .clearReady link tag order => Sys2Proof.Machine.execClearReady link tag order s
  | .clearEmpty link tag order => Sys2Proof.Machine.execClearEmpty link tag order s
  | .clearRemoved link tag order => Sys2Proof.Machine.execClearRemoved link tag order s
  | .clearUnloaded link tag order => Sys2Proof.Machine.execClearUnloaded link tag order s
  | .clearKept link tag order => Sys2Proof.Machine.execClearKept link tag order s
  | .clearStuck link tag order => Sys2Proof.Machine.execClearStuck link tag order s
  | .stationFault link tag code => Sys2Proof.Machine.execStationFault link tag code s
  | .recovered link tag => Sys2Proof.Machine.execRecovered link tag s
  | .arrived link tag order pallet => Sys2Proof.Machine.execArrived link tag order pallet s
  | .arrivedNoPallet link tag order => Sys2Proof.Machine.execArrivedNoPallet link tag order s
  | .lifted link tag => Sys2Proof.Machine.execLifted link tag s
  | .lowered link tag => Sys2Proof.Machine.execLowered link tag s
  | .driveFault link tag => Sys2Proof.Machine.execDriveFault link tag s
  | .driveRecovered link tag => Sys2Proof.Machine.execDriveRecovered link tag s
  | .setGeometry link tag count kinds pitch resolution service => Sys2Proof.Machine.execSetGeometry link tag count kinds pitch resolution service s
  | .setTransfer link tag settings => Sys2Proof.Machine.execSetTransfer link tag settings s
  | .setMode link tag position mode => Sys2Proof.Machine.execSetMode link tag position mode s
  | .setOccupant link tag position occupant => Sys2Proof.Machine.execSetOccupant link tag position occupant s
  | .survey link tag => Sys2Proof.Machine.execSurvey link tag s
  | .registerPallet link tag number variants => Sys2Proof.Machine.execRegisterPallet link tag number variants s
  | .retirePallet link tag number => Sys2Proof.Machine.execRetirePallet link tag number s
  | .markOut link tag number => Sys2Proof.Machine.execMarkOut link tag number s
  | .resetClamps link tag number variants => Sys2Proof.Machine.execResetClamps link tag number variants s
  | .setDisposition link tag number disposition => Sys2Proof.Machine.execSetDisposition link tag number disposition s
  | .run link tag mode => Sys2Proof.Machine.execRun link tag mode s
  | .halt link tag => Sys2Proof.Machine.execHalt link tag s
  | .index link tag => Sys2Proof.Machine.execIndex link tag s
  | .abort link tag => Sys2Proof.Machine.execAbort link tag s
  | .clearFault link tag => Sys2Proof.Machine.execClearFault link tag s
  | .recoverForward link tag => Sys2Proof.Machine.execRecoverForward link tag s
  | .recoverBack link tag => Sys2Proof.Machine.execRecoverBack link tag s
  | .holdLine link tag => Sys2Proof.Machine.execHoldLine link tag s
  | .releaseLine link tag => Sys2Proof.Machine.execReleaseLine link tag s
  | .lineReset link tag => Sys2Proof.Machine.execLineReset link tag s
  | .setRouting link tag variant position program => Sys2Proof.Machine.execSetRouting link tag variant position program s
  | .insertReturn link tag number => Sys2Proof.Machine.execInsertReturn link tag number s
  | .withdrawReturn link tag number => Sys2Proof.Machine.execWithdrawReturn link tag number s
  | .appendSchedule link tag variant quantity => Sys2Proof.Machine.execAppendSchedule link tag variant quantity s
  | .clearSchedule link tag => Sys2Proof.Machine.execClearSchedule link tag s
  | .fetchCompletion link tag => Sys2Proof.Machine.execFetchCompletion link tag s
  | .setTarget link tag target => Sys2Proof.Machine.execSetTarget link tag target s
  | .learn link tag => Sys2Proof.Machine.execLearn link tag s
  | .acceptLearn link tag => Sys2Proof.Machine.execAcceptLearn link tag s
  | .discardLearn link tag => Sys2Proof.Machine.execDiscardLearn link tag s
  | .setBudget link tag position program budget => Sys2Proof.Machine.execSetBudget link tag position program budget s
  | .clearTiming link tag => Sys2Proof.Machine.execClearTiming link tag s
  | .acknowledge link tag attentions => Sys2Proof.Machine.execAcknowledge link tag attentions s
  | .characterReceived link character => Sys2Proof.Machine.execCharacterReceived link character s

end Sys2Proof.Machine
end

