-- ==== Sys2Proof/Safety.lean ====
section
/-! DEFINITION. What a safe line is, in the terms the statements use: the laws that the manual states of the whole machine,
as invariants of the state, and the conditions under which a request on a link is taken to its grant. -/

namespace Sys2Proof.Machine

/-! ### Conditions of a command -/

/-- The device is not held in reset. -/
abbrev State.Live (s : State) : Prop := s.pins.resetInput = false

/-- The device is not held in reset and no cell of the store disagrees with its check code. -/
abbrev State.Sound (s : State) : Prop := s.pins.resetInput = false ∧ s.rst.errors = []

/-- Nothing waits for the store: no operation of the Index Controller, and no request in a slot (R154, R156). -/
abbrev State.Quiet (s : State) : Prop := s.aar.workList = [] ∧ ∀ l, (s.link l).slot = none

/-- A link that takes a request to its grant: the link exists, its slot is empty, and its queue has room (R183). A request that
has come through FRAME_RECEIVED stands in the slot already; `exec_in_slot` (Laws) shows that its grant is the one made on the
state with the slot emptied, so what is stated of a free link holds of it. -/
abbrev State.Free (s : State) (l : Link) : Prop :=
  s.liu.links.length = 18 ∧ (s.link l).slot = none ∧ (s.link l).responses.length < 4

/-- A request on link `l` is admitted and its grant reads sound cells. -/
abbrev State.Ready (s : State) (l : Link) : Prop := s.Sound ∧ s.Free l

/-- Every table has an entry for each of the sixteen positions, and the captures for positions 1 to 15. -/
abbrev State.Shaped (s : State) : Prop :=
  s.rst.positions.length = 16 ∧ s.rst.details.length = 16 ∧ s.ctm.startTimers.length = 16 ∧ s.ctm.work.length = 16 ∧
    s.ctm.stats.length = 16 ∧ s.btk.captures.length = 15

/-- Position `k` is in the line and its station has joined: the first two checks of R79. -/
abbrev State.Member (s : State) (k : Nat) : Prop := k < 16 ∧ s.unused k = false ∧ (s.pos k).joined.isSome = true

/-- A report that the checks of R79 let through: the position's station is a member, and the order number is current. -/
abbrev State.Reports (s : State) (k order : Nat) : Prop := s.Member k ∧ order ≤ 255 ∧ (s.pos k).orderNumber = order

/-- The six conditions of R46, in COLLECT. -/
structure State.Released (s : State) : Prop where
  collecting : s.ixc.state = .collect
  mode : s.ixc.runMode = .auto ∨ s.ixc.indexPending = true
  stations : ∀ k, k < s.count → (s.pos k).mode = .active →
    (s.pos k).joined.isSome = true ∧ ((s.pos k).phase = .idle ∨ (s.pos k).phase = .done) ∧ (s.pos k).hold = false
  occupants : ∀ k, k < s.count → (s.pos k).occupant ≠ .unknown
  line : s.ixc.lineHold = false ∧ s.pins.home = true ∧ s.pins.lineStop = false
  drive : s.ixc.driveJoined = true ∧ s.ixc.driveFaulted = false

end Sys2Proof.Machine

namespace Sys2Proof

open Machine

/-- The link, the tag and the permission of a command that is a request of a party. -/
def Instr.request : Instr → Option (Permit × Link × Byte)
  | .readPosition l t _ | .readPallet l t _ | .readIndex l t | .readRouting l t _ _ | .readOrder l t _ | .readReturn l t
  | .readSchedule l t | .readCompletion l t | .readTarget l t | .readLearn l t | .readStore l t | .readBudget l t _
  | .readTiming l t _ | .readStatus l t | .readLinks l t => some (.all, l, t)
  | .join l t _ _ => some (.stationJoin, l, t)
  | .driveJoin l t => some (.driveJoin, l, t)
  | .leave l t | .hold l t | .unhold l t | .start l t _ | .clear l t _ _ | .clearLoaded l t _ _ | .clearReady l t _
  | .clearEmpty l t _ | .clearRemoved l t _ | .clearUnloaded l t _ | .clearKept l t _ | .clearStuck l t _ | .stationFault l t _
  | .recovered l t | .arrived l t _ _ | .arrivedNoPallet l t _ => some (.station, l, t)
  | .lifted l t | .lowered l t | .driveFault l t | .driveRecovered l t => some (.drive, l, t)
  | .setGeometry l t _ _ _ _ _ | .setTransfer l t _ | .setMode l t _ _ | .setOccupant l t _ _ | .survey l t
  | .registerPallet l t _ _ | .retirePallet l t _ | .markOut l t _ | .resetClamps l t _ _ | .setDisposition l t _ _
  | .run l t _ | .halt l t | .index l t | .abort l t | .clearFault l t | .recoverForward l t | .recoverBack l t | .holdLine l t
  | .releaseLine l t | .lineReset l t | .setRouting l t _ _ _ | .insertReturn l t _ | .withdrawReturn l t _
  | .appendSchedule l t _ _ | .clearSchedule l t | .fetchCompletion l t | .setTarget l t _ | .learn l t | .acceptLearn l t
  | .discardLearn l t | .setBudget l t _ _ _ | .clearTiming l t | .acknowledge l t _ => some (.supervisor, l, t)
  | .deviceReset | .deviceResetComplete | .homeRising | .homeFalling | .inPositionEdge _ _ | .lineStopActive | .lineStopInactive
  | .encoderEdge _ | .liftTimeout | .carryTimeout | .sweepTimeout | .settleEnd | .homeTimeout | .startTimeout _
  | .startTimeoutWrite _ | .overrun _ | .advance | .learnWrite | .scrubberRead _ | .frameReceived _ _ _ _ _
  | .receiveGapTimeout _ | .frameSent _ | .characterReceived _ _ => none

/-- The reports of a station that name an order, with the number they name (R79, R103); of the ARRIVED those whose pallet number
lies within its range. -/
def Instr.report : Instr → Option (Fin 16 × Byte × Nat)
  | .start (.sl k) t o | .clear (.sl k) t o (some _) | .clearLoaded (.sl k) t o _ | .clearReady (.sl k) t o
  | .clearEmpty (.sl k) t o | .clearRemoved (.sl k) t o | .clearUnloaded (.sl k) t o | .clearKept (.sl k) t o
  | .clearStuck (.sl k) t o | .arrivedNoPallet (.sl k) t o => some (k, t, o)
  | .arrived (.sl k) t o n => if n ≤ 255 then some (k, t, o) else none
  | _ => none

end Sys2Proof

namespace Sys2Proof.Machine

/-! ### What a command leaves as it was -/

/-- The answer of a grant on link `l`: one more response in its queue, its slot empty, the pointer at the next slot
(R154, R155, R184). Nothing else of the state changes. -/
def State.answered (s : State) (l : Link) (tag : Byte) (result : ResponseResult) (data : List Byte) : State :=
  (s.onAar fun a => { a with pointer := l.next }).onLink l fun r =>
    { r with slot := none, responses := r.responses ++ [{ tag := tag, result := result, data := data }] }

/-- The answer of a grant that has led from `s` to `u`, with the STATUS frame that R187 calls for. -/
def State.replied (s u : State) (l : Link) (tag : Byte) (result : ResponseResult) (data : List Byte) : State :=
  State.closeEvent s (u.answered l tag result data)

/-- The links after an event that is no request: only unsolicited slots may have changed. -/
structure State.LinksKept (s t : State) : Prop where
  length : t.liu.links.length = s.liu.links.length
  kept : ∀ l, (t.link l).receiver = (s.link l).receiver ∧ (t.link l).slot = (s.link l).slot ∧
    (t.link l).responses = (s.link l).responses ∧ (t.link l).sending = (s.link l).sending ∧
    (t.link l).errorCount = (s.link l).errorCount ∧ (t.link l).busyCount = (s.link l).busyCount

/-- What a grant on link `l` does beside its operation: the response at the end of the queue, the slot empty, the pointer
moved on (R154, R155); every other link, the wired inputs and the waiting commands as they were. -/
structure State.Answered (s t : State) (l : Link) (tag : Byte) (result : ResponseResult) (data : List Byte) : Prop where
  response : (t.link l).responses = (s.link l).responses ++ [{ tag := tag, result := result, data := data }]
  slot : (t.link l).slot = none
  pointer : t.aar.pointer = l.next
  others : ∀ x, x ≠ l → (t.link x).responses = (s.link x).responses ∧ (t.link x).slot = (s.link x).slot
  kept : ∀ x, (t.link x).receiver = (s.link x).receiver ∧ (t.link x).sending = (s.link x).sending ∧
    (t.link x).errorCount = (s.link x).errorCount ∧ (t.link x).busyCount = (s.link x).busyCount
  wires : t.pins = s.pins
  queue : t.pending = s.pending

/-- Every position but `k` has the entry, the order detail record and the timers it had. -/
def State.SameElsewhere (s t : State) (k : Nat) : Prop :=
  ∀ j, j ≠ k → t.pos j = s.pos j ∧ t.detail j = s.detail j ∧ t.work j = s.work j ∧ t.startTimer j = s.startTimer j

/-- The tables and lists that no report of a station, but for those named in a statement, changes. -/
structure State.SameTables (s t : State) : Prop where
  geometry : t.rst.geometry = s.rst.geometry
  routing : t.rst.routing = s.rst.routing
  budgets : t.rst.budgets = s.rst.budgets
  windows : t.rst.windows = s.rst.windows
  fetched : t.rst.lastFetched = s.rst.lastFetched

/-- The lists of chapter 5: the return queue, the schedule, the completion log and its counter. -/
def State.SameLists (s t : State) : Prop :=
  t.rst.returnQueue = s.rst.returnQueue ∧ t.rst.schedule = s.rst.schedule ∧ t.rst.log = s.rst.log ∧
    t.rst.recordCounter = s.rst.recordCounter

/-- The Index Controller, the Bar Tracker, the Window Learn Unit, the work list and the settings: as they were. -/
def State.SameMotion (s t : State) : Prop :=
  t.ixc = s.ixc ∧ t.btk = s.btk ∧ t.wlu = s.wlu ∧ t.aar.workList = s.aar.workList ∧ t.rst.transfer = s.rst.transfer

/-! ### Entries to FAULT and PERMIT -/

/-- The entry to FAULT (R59, R60) of an event that reads `s`: the fault is written twice, the timers stop, the flags other
than INDEX pending stand, the advance and the learn write are withdrawn, and a learn under way is aborted (R146). -/
structure State.EntersFault (s t : State) (cause : Cause) (check : Option SeatCheck) : Prop where
  state : t.ixc.state = .fault
  current : t.ixc.currentFault = some { cause := cause, check := check, kind := s.motionKind, stamp := s.ctm.clock }
  last : t.ixc.lastFault = t.ixc.currentFault
  motion : t.ixc.motion = s.ixc.motion
  timers : t.ixc.liftTimer = none ∧ t.ixc.carryTimer = none ∧ t.ixc.sweepTimer = none ∧ t.ixc.settleTimer = none ∧
    t.btk.homeTimer = none
  flags : t.ixc.indexPending = false ∧ t.ixc.haltRequested = s.ixc.haltRequested ∧ t.ixc.runMode = s.ixc.runMode ∧
    t.ixc.learnArmed = s.ixc.learnArmed ∧ t.ixc.lineHold = s.ixc.lineHold ∧ t.ixc.driveJoined = s.ixc.driveJoined
  attention : t.liu.attentions.fault = some cause
  work : ∀ w, w ∈ t.aar.workList ↔ w ∈ s.aar.workList ∧ w ≠ .advance ∧ w ≠ .learnWrite
  counter : t.btk.counter = s.btk.counter ∧ t.btk.saturated = s.btk.saturated
  closed : s.ixc.state = .permit ∨ s.ixc.state = .carry → s.motionKind = some .index →
    t.btk.captures = s.btk.captures.map fun c =>
      { c with state := match c.state with | .awaitDeparture | .armed => .noEntry | .idle => .idle | .captured => .captured | .noEntry => .noEntry }
  captures : s.motionKind ≠ some .index → t.btk.captures = s.btk.captures
  aborted : s.ixc.state = .permit ∨ s.ixc.state = .sweep → s.motionKind = some .learn →
    t.wlu.record.state = .aborted ∧ t.wlu.record.abortCause = some (.fault cause) ∧ t.wlu.record.endTime = some s.ctm.clock ∧
      t.wlu.record.entries = s.wlu.record.entries ∧ t.liu.attentions.learnDone = some (.aborted cause)
  kept : s.motionKind ≠ some .learn ∨ s.ixc.state = .reseat ∨ s.ixc.state = .settle → t.wlu = s.wlu

/-- The overtravel test of R128, by the motion kind and the state. -/
def State.InOvertravel (s : State) (m : Motion) (c : Int) : Prop :=
  let ot := s.working.overtravel
  match m.kind, s.ixc.state with
  | .index, .permit | .index, .carry | .index, .settle | .forward, .permit | .forward, .carry | .forward, .settle
  | .learn, .settle => m.target + ot < c
  | .learn, .permit | .learn, .sweep => s.sweepLimit + ot < c
  | .learn, .reseat => if s.btk.reseatTight = true ∨ c ≤ m.target + ot then m.target + ot < c else s.sweepLimit + ot < c
  | .back, .permit | .back, .carry | .back, .settle => c < -ot
  | _, _ => False

/-- The motion states through which a motion kind runs (R49). -/
def MotionKind.runsIn : MotionKind → IxcState → Bool
  | .index, .permit | .index, .carry | .index, .settle | .forward, .permit | .forward, .carry | .forward, .settle
  | .back, .permit | .back, .carry | .back, .settle => true
  | .learn, .permit | .learn, .sweep | .learn, .reseat | .learn, .settle => true
  | _, _ => false

/-- Where a motion of a kind is sent at its PERMIT, from the pending copy that becomes the working copy (R48, R64, R127). -/
def State.sentTo (s : State) : MotionKind → Int
  | .index | .forward => s.staged.target
  | .learn => s.staged.target + s.staged.sweepMargin
  | .back => 0

/-- A count lies within the overtravel limit of a motion's first state, under the settings it will use (R128). -/
def State.WithinLimit (s : State) (kind : MotionKind) (count : Int) : Prop :=
  match kind with
  | .index | .learn | .forward => count ≤ s.sentTo kind + s.staged.overtravel
  | .back => -s.staged.overtravel ≤ count

/-- The tests on the entry to PERMIT let a motion begin: the counter is not saturated, and not in overtravel (R122, R129). -/
def State.ClearToMove (s : State) (kind : MotionKind) : Prop := s.btk.saturated = false ∧ s.WithinLimit kind s.btk.counter

/-- The entry to PERMIT (R9, R48, R64): the pending settings become the working ones, the motion record is made, LIFT PERMIT
asserts, the lift timer starts and the MOTION frame stands in DRVL's slot (R127). -/
structure State.EntersPermit (s t : State) (kind : MotionKind) (origin : Mask) : Prop where
  state : t.ixc.state = .permit
  motion : t.ixc.motion = some { kind := kind, origin := origin, target := s.sentTo kind, sample := none }
  settings : t.rst.transfer = s.rst.transfer.map fun x => { x with working := x.pending }
  timer : t.ixc.liftTimer = some { elapsed := 0, limit := s.staged.liftTimeout }
  permit : t.liftPermit = true
  frame : (t.link .drvl).unsolicited = some (.motion
    { step := .start, kind := kind, target := s.sentTo kind, stopBand := s.staged.stopBand
      limit := if kind = .back then -s.staged.overtravel else s.sentTo kind + s.staged.overtravel
      sense := if kind = .back then .lower else .upper })
  positions : t.rst.positions = s.rst.positions ∧ t.rst.details = s.rst.details ∧ t.rst.slots = s.rst.slots
  learn : kind = .learn → t.wlu.record.state = .inProgress ∧
    t.wlu.record.settings = some { start := s.staged.target, sweepMargin := s.staged.sweepMargin, limit := s.sentTo .learn,
                                   bias := s.staged.bias, minWidth := s.staged.minWidth, driftLimit := s.staged.driftLimit,
                                   extend := s.staged.extend }
  captures : ∀ k, 1 ≤ k → k ≤ 15 → (t.btk.captures.getD (k - 1) EntryCapture.reset).state =
    if kind = .index ∧ k < s.count then (if (s.palletAt k).isSome = true then .awaitDeparture else .armed)
    else if kind = .index then (s.btk.captures.getD (k - 1) EntryCapture.reset).state else .idle

/-- An entry to PERMIT that its tests abort in the same event (R122, R129, R59): the pending settings have become the working ones,
and the motion record and the MOTION frame are made, as for any entry; then FAULT is entered with the cause and the motion
pending, the timers stop, and the captures or the learn just set up are closed (R134, R146). -/
structure State.AbortsAtEntry (s t : State) (kind : MotionKind) (origin : Mask) (cause : Cause) : Prop where
  state : t.ixc.state = .fault
  current : t.ixc.currentFault = some { cause := cause, check := none, kind := some kind, stamp := s.ctm.clock }
  last : t.ixc.lastFault = t.ixc.currentFault
  motion : t.ixc.motion = some { kind := kind, origin := origin, target := s.sentTo kind, sample := none }
  settings : t.rst.transfer = s.rst.transfer.map fun x => { x with working := x.pending }
  timers : t.ixc.liftTimer = none ∧ t.ixc.carryTimer = none ∧ t.ixc.sweepTimer = none ∧ t.ixc.settleTimer = none ∧
    t.btk.homeTimer = none
  permit : t.liftPermit = false
  attention : t.liu.attentions.fault = some cause
  pending : t.ixc.indexPending = false
  frame : (t.link .drvl).unsolicited = some (.motion
    { step := .start, kind := kind, target := s.sentTo kind, stopBand := s.staged.stopBand
      limit := if kind = .back then -s.staged.overtravel else s.sentTo kind + s.staged.overtravel
      sense := if kind = .back then .lower else .upper })
  positions : t.rst.positions = s.rst.positions ∧ t.rst.details = s.rst.details ∧ t.rst.slots = s.rst.slots
  learn : kind = .learn → t.wlu.record.state = .aborted ∧ t.wlu.record.abortCause = some (.fault cause) ∧
    t.wlu.record.endTime = some s.ctm.clock ∧ t.liu.attentions.learnDone = some (.aborted cause)
  captures : ∀ k, 1 ≤ k → k ≤ 15 → (kind = .index → k < s.count →
      (t.btk.captures.getD (k - 1) EntryCapture.reset).state = .noEntry) ∧
    (kind ≠ .index → (t.btk.captures.getD (k - 1) EntryCapture.reset).state = .idle)

/-- What the entry to PERMIT comes to: the motion begins, or a test on entry that it fails aborts it. Where it fails both tests,
which of the two causes is entered is left open here. -/
def State.BeginsMotion (s t : State) (kind : MotionKind) (origin : Mask) : Prop :=
  (s.ClearToMove kind → s.EntersPermit t kind origin) ∧
    (¬s.ClearToMove kind → ∃ x, s.AbortsAtEntry t kind origin x ∧
      (x = .encoderRange ∧ s.btk.saturated = true ∨ x = .overtravel ∧ ¬s.WithinLimit kind s.btk.counter)) ∧
    t.btk.counter = s.btk.counter ∧ t.btk.saturated = s.btk.saturated

/-! ### Ends of orders -/

/-- A taken result at position `k`: phase DONE, closing CLEARED, the result kept, both timers stopped, the work time in the
position's statistics (R81, R107, R114, R169). Where the conditions of R46 then hold in COLLECT collection follows; otherwise nothing
moves, and COLLECT is not left. -/
structure State.OrderEnded (s t : State) (k : Nat) (r : Result) : Prop where
  position : t.pos k = { s.pos k with phase := .done }
  detail : t.detail k = { s.detail k with closing := .cleared, resultTaken := some r }
  timers : t.work k = { s.work k with running := none, limit := none } ∧ t.startTimer k = none
  statistics : (t.stats k).last = some ((s.work k).running.getD 0) ∧ (t.stats k).overruns = (s.stats k).overruns ∧
    (t.stats k).longest = some (match (s.stats k).longest with | none => (s.work k).running.getD 0 | some a => max a ((s.work k).running.getD 0))
  elsewhere : s.SameElsewhere t k
  tables : s.SameTables t
  resting : ¬(s.onPos k fun _ => t.pos k).Released → s.SameMotion t
  counting : t.btk.counter = s.btk.counter

/-- Pallet `n`'s record after position `k`'s outstanding order has been cancelled: an ORDERED PROCESS or CHECK order leaves
MISSED, a WORKING one ABANDONED, for the occupant's workpiece (R88). -/
def State.afterCancel (s : State) (k n : Nat) : Option Pallet :=
  if s.palletAt k = some n ∧ ((s.pos k).orderKind = .process ∨ (s.pos k).orderKind = .check) then
    match (s.pos k).phase with
    | .ordered => (s.pallet n).map fun p => { p with workpiece := p.workpiece.map fun w => w.record k ((s.pos k).program.getD 0) .missed none }
    | .working => (s.pallet n).map fun p => { p with workpiece := p.workpiece.map fun w => w.record k ((s.pos k).program.getD 0) .abandoned none }
    | .idle | .done | .fault => s.pallet n
  else s.pallet n

/-- What has become of an order cancelled by a report of the station itself (R88). -/
def OrderDetail.afterCancel (d : OrderDetail) : Phase → OrderDetail
  | .ordered => { d with closing := .missed }
  | .working => { d with closing := .abandoned }
  | .idle | .done | .fault => d

/-! ### Laws of the whole machine -/

/-- The interlock of R44 with what keeps it: the kinds of R11, BYPASS and UNUSED positions IDLE (R15, R11), no order
outstanding while motion is pending, no position in FAULT in a motion state, and no motion pending in HALT and COLLECT. -/
structure State.Interlocked (s : State) : Prop where
  entries : s.rst.positions.length = 16
  range : ∀ g, s.rst.geometry = some g → 3 ≤ g.count ∧ g.count ≤ 16
  kinds : ∀ k, k < 16 → (s.pos k).kind = kindOf s.rst.geometry k
  bypassIdle : ∀ k, k < 16 → (s.pos k).mode = .bypass → (s.pos k).phase = .idle
  unusedIdle : ∀ k, k < 16 → (s.pos k).kind = .unused → (s.pos k).phase = .idle
  pendingQuiet : s.ixc.motion.isSome = true → ∀ k, k < 16 → (s.pos k).phase.outstanding = false
  movingClear : s.ixc.state.moving = true → s.ixc.motion.isSome = true ∧ ∀ k, k < 16 → (s.pos k).phase ≠ .fault
  advancePending : s.ixc.state = .advance → s.ixc.motion.isSome = true
  restingClear : s.ixc.state = .halt ∨ s.ixc.state = .collect → s.ixc.motion = none

/-- The queues of R179 and R183: eighteen links, at most 4 responses on each, and at most 3 while a request awaits its
grant, so that its response has a place. -/
def State.QueuesBounded (s : State) : Prop :=
  s.liu.links.length = 18 ∧
    ∀ l : Link, (s.link l).responses.length ≤ 4 ∧ ((s.link l).slot.isSome = true → (s.link l).responses.length ≤ 3)

/-- The lists of R98 and R117: at most 32 schedule entries, each of a variant 1 to 8 with 1 to 9,999 left; at most 32
completion records. -/
def State.ListsBounded (s : State) : Prop :=
  s.rst.schedule.length ≤ 32 ∧
    (∀ e, e ∈ s.rst.schedule → 1 ≤ e.variant ∧ e.variant ≤ 8 ∧ 1 ≤ e.quantity ∧ e.quantity ≤ 9999) ∧ s.rst.log.length ≤ 32

/-- Every pallet stands at one place (R12, R20, R22): no two positions hold the same number, no number stands twice in the return
queue, none stands both at a position and in the queue, and no two slots hold the same number. -/
structure State.PalletsStandOnce (s : State) : Prop where
  entries : s.rst.positions.length = 16
  positions : ∀ i j n, s.palletAt i = some n → s.palletAt j = some n → i = j
  queue : s.rst.returnQueue.Nodup
  apart : ∀ i n, s.palletAt i = some n → n ∉ s.rst.returnQueue
  slots : ∀ (i j : Nat) (p q : Pallet), s.rst.slots[i]? = some (some p) → s.rst.slots[j]? = some (some q) → p.number = q.number → i = j

/-- The bar counter lies within its range (R121). -/
def State.CounterInRange (s : State) : Prop := Config.counterMin ≤ s.btk.counter ∧ s.btk.counter ≤ Config.counterMax

/-- A target that stands in the target range of a geometry: a multiple of Q in [Tlo, Thi] (R124). -/
def Geometry.Placed (g : Geometry) (x : Int) : Prop := (g.resolution : Int) ∣ x ∧ g.tlo ≤ x ∧ x ≤ g.thi

/-- The law of R124 with what keeps it: both copies of T are placed while a geometry exists, and so is the candidate of a
learn that may still write it. -/
structure State.TargetsPlaced (s : State) : Prop where
  range : ∀ g, s.rst.geometry = some g → 1000 ≤ g.pitch ∧ 1 ≤ g.resolution ∧ g.resolution ≤ 64
  copies : ∀ g, s.rst.geometry = some g →
    ∃ t, s.rst.transfer = some t ∧ g.Placed t.pending.target ∧ g.Placed t.working.target
  candidate : ∀ g, s.rst.geometry = some g →
    s.wlu.outcome = some .applied ∨ s.wlu.outcome = some .held ∨ s.wlu.record.state = .held →
      ∃ x, s.wlu.record.placed = some x ∧ g.Placed x
  sweeping : s.wlu.outcome.isSome = true → s.ixc.state = .sweep
  learning : s.ixc.state = .sweep → s.motionKind = some .learn

/-- While a LEARN motion stands in PERMIT, CARRY or SWEEP its record is not HELD: the entry to PERMIT has begun a new record, and
the learn write, which may make it HELD, leaves those states (R139, R140, R145). -/
def State.LearnUnheld (s : State) : Prop :=
  s.ixc.state = .permit ∨ s.ixc.state = .carry ∨ s.ixc.state = .sweep → s.motionKind = some .learn → s.wlu.record.state ≠ .held

end Sys2Proof.Machine
end

