-- ==== Sys2Proof/Certificates/Slice0/Obligations.lean ====
section
/-! DEFINITION. The statements for the provers, family by family: what each command does, where it completes, and the laws
that every step keeps. -/

open Sys2Proof Sys2Proof.Machine

/-! ### The machine as a whole -/

/-- A step with a command at the front of the queue is that command on the state with the queue's rest: the model's queue
(assumption 2). -/
def Obligations.StepCarriesOutTheFrontCommand : Prop :=
  ∀ (c : Instr) (rest : List Instr) (s : State), s.pending = c :: rest → step s = exec c { s with pending := rest }

/-- R154 and the model's tick (assumption 2), at a step on an empty queue: the head of the IXC work list is granted first,
otherwise the first slot that holds a request from the round-robin pointer on. With nothing waiting at the arbiter the line clock
and every running timer rise by one millisecond with their limits kept (R52, R136, R168), and the timers that have reached their
limits expire; the scrubber is granted when no timer has, and no other command joins the queue. -/
def Obligations.IdleStepGrantsOrTicks : Prop :=
  ∀ s : State, s.pending = [] → s.Live →
    let later (x : Timer) : Timer := { x with elapsed := countUp 4294967295 x.elapsed }
    (∀ w ws, s.aar.workList = w :: ws → step s = .next { s with pending := [w.command] }) ∧
    (s.aar.workList = [] → ∀ d i, d < 18 → (s.link (Link.at ((s.aar.pointer.place + d) % 18))).slot = some i →
      (∀ j, j < d → (s.link (Link.at ((s.aar.pointer.place + j) % 18))).slot = none) → step s = .next { s with pending := [i] }) ∧
    (s.aar.workList = [] → (∀ l, (s.link l).slot = none) → ∃ t, step s = .next t ∧ t.ctm.clock = s.ctm.clock + 1 ∧
      (∀ k, t.startTimer k = (s.startTimer k).map (countUp 4294967295)) ∧
      t.ctm.work = s.ctm.work.map (fun w => { w with running := w.running.map (countUp 4294967295) }) ∧
      t.ctm.indexTimer = s.ctm.indexTimer.map (countUp 4294967295) ∧ t.ctm.cycleTimer = s.ctm.cycleTimer.map (countUp 4294967295) ∧
      t.ixc = { s.ixc with liftTimer := s.ixc.liftTimer.map later, carryTimer := s.ixc.carryTimer.map later
                           sweepTimer := s.ixc.sweepTimer.map later, settleTimer := s.ixc.settleTimer.map later } ∧
      t.btk = { s.btk with homeTimer := s.btk.homeTimer.map later } ∧
      t.rst = s.rst ∧ t.wlu = s.wlu ∧ t.aar = s.aar ∧ t.pins = s.pins ∧ t.liu.attentions = s.liu.attentions ∧
      (∀ c, c ∈ t.pending → c = .liftTimeout ∨ c = .carryTimeout ∨ c = .sweepTimeout ∨ c = .settleEnd ∨ c = .homeTimeout ∨
        (∃ k, c = .startTimeout k) ∨ (∃ k, c = .overrun k) ∨ c = .scrubberRead []) ∧
      t.pending ≠ [] ∧ (.scrubberRead [] ∈ t.pending ↔ t.pending = [.scrubberRead []]) ∧
      (∀ k : Fin 16, .startTimeout k ∈ t.pending ↔ ∃ v x, t.startTimer k.val = some v ∧ t.rst.transfer = some x ∧ x.startTimeout ≤ v) ∧
      (∀ k : Fin 16, .overrun k ∈ t.pending ↔ (t.work k.val).overrunTaken = false ∧
        ∃ v m, (t.work k.val).running = some v ∧ (t.work k.val).limit = some m ∧ m < v) ∧
      (.liftTimeout ∈ t.pending ↔ ∃ x, t.ixc.liftTimer = some x ∧ x.limit ≤ x.elapsed) ∧
      (.carryTimeout ∈ t.pending ↔ ∃ x, t.ixc.carryTimer = some x ∧ x.limit ≤ x.elapsed) ∧
      (.sweepTimeout ∈ t.pending ↔ ∃ x, t.ixc.sweepTimer = some x ∧ x.limit ≤ x.elapsed) ∧
      (.settleEnd ∈ t.pending ↔ ∃ x, t.ixc.settleTimer = some x ∧ x.limit ≤ x.elapsed) ∧
      (.homeTimeout ∈ t.pending ↔ ∃ x, t.btk.homeTimer = some x ∧ x.limit ≤ x.elapsed))

/-- No command stops: every command answers a next state in every state. -/
def Obligations.EveryCommandAnswersANextState : Prop := ∀ (c : Instr) (s : State), ∃ t, exec c s = .next t

/-- The values of R193 after a device reset, with those of R10, R43, R75, R121, R131, R140, R154, R156, R178, R179 and R186. -/
def Obligations.ResetHoldsTheDeviceResetValues : Prop :=
  State.reset.rst.geometry = none ∧ State.reset.rst.transfer = none ∧ State.reset.rst.unconfirmed = false ∧
  (∀ k, k < 16 → State.reset.pos k =
    { kind := .unused, mode := .active, joined := none, occupant := .empty, phase := .idle, faultCode := none, orderNumber := 0,
      orderKind := .noOrder, program := none, instruction := none, hold := false }) ∧
  (∀ k, k < 16 → State.reset.detail k =
    { copyNumber := 0, copyKind := .noOrder, closing := .noOrder, resultTaken := none, faultReport := none, faultCount := 0 }) ∧
  (∀ n, State.reset.pallet n = none) ∧ State.reset.rst.returnQueue = [] ∧ State.reset.rst.schedule = [] ∧
  State.reset.rst.log = [] ∧ State.reset.rst.recordCounter = 0 ∧ State.reset.rst.lastFetched = none ∧
  (∀ v k, State.reset.routing v k = 0) ∧ (∀ k g, State.reset.budget k g = 0) ∧ (∀ k, State.reset.window k = none) ∧
  State.reset.rst.walk = ⟨.geometry, 0⟩ ∧ State.reset.rst.corrections = 0 ∧ State.reset.rst.damages = 0 ∧
  State.reset.ixc.state = .halt ∧ State.reset.ixc.runMode = .step ∧ State.reset.ixc.motion = none ∧
  State.reset.ixc.haltRequested = false ∧ State.reset.ixc.indexPending = false ∧ State.reset.ixc.learnArmed = false ∧
  State.reset.ixc.lineHold = false ∧ State.reset.ixc.currentFault = none ∧ State.reset.ixc.lastFault = none ∧
  State.reset.ixc.driveJoined = false ∧ State.reset.ixc.driveFaulted = false ∧
  State.reset.btk.counter = 0 ∧ State.reset.btk.saturated = false ∧ State.reset.btk.transitionErrors = 0 ∧
  State.reset.btk.lastHomeError = none ∧ State.reset.btk.largestHomeError = 0 ∧
  State.reset.btk.captures = List.replicate 15 { state := .idle, entry := none, drift := none, largest := 0 } ∧
  State.reset.wlu.record.state = .absent ∧ State.reset.ctm.clock = 0#32 ∧ (∀ k, State.reset.startTimer k = none) ∧
  (∀ k, State.reset.work k = { running := none, limit := none, overrunTaken := false }) ∧ State.reset.ctm.advances = 0 ∧
  State.reset.ctm.indexTimer = none ∧ State.reset.ctm.cycleTimer = none ∧ State.reset.ctm.lastGate = none ∧
  State.reset.aar.pointer = .sl 0 ∧ State.reset.aar.workList = [] ∧ State.reset.liu.attentions = Attentions.reset ∧
  State.reset.liu.sequence = 0 ∧ State.reset.pins.home = false ∧
  (∀ l : Link, (State.reset.link l).receiver = .hunting ∧ (State.reset.link l).slot = none ∧ (State.reset.link l).responses = [] ∧
    (State.reset.link l).errorCount = 0 ∧ (State.reset.link l).busyCount = 0 ∧
    (State.reset.link l).unsolicited = if l = .supl then some (.status 0 StatusContent.reset) else none)

/-- R193: while the device is held in reset both permits are off and no command has an effect; the levels of LINE STOP and of the
encoder are followed, and they and the waiting commands stand when the end of the RESET input completes the reset. That no
command has an effect until then, and that the stored values stand until the completion, is the model's reading of R193
(assumptions 1 and 23). -/
def Obligations.DeviceResetHoldsThenCompletes : Prop :=
  ∀ s : State,
    (∃ t, exec .deviceReset s = .next t ∧ t = { s with pins := { s.pins with resetInput := true } } ∧
      t.liftPermit = false ∧ t.returnPermit = false) ∧
    (s.pins.resetInput = true → exec .deviceResetComplete s = .next { State.reset with
      pins := { home := false, ip := 0#16, lineStop := s.pins.lineStop, resetInput := false, encoderA := s.pins.encoderA,
                encoderB := s.pins.encoderB }
      pending := s.pending }) ∧
    (s.pins.resetInput = false → exec .deviceResetComplete s = .next s) ∧
    (s.pins.resetInput = true →
      (∀ c : Instr, c ≠ .deviceReset → c ≠ .deviceResetComplete → c ≠ .lineStopActive → c ≠ .lineStopInactive →
        (∀ e, c ≠ .encoderEdge e) → exec c s = .next s) ∧
      exec .lineStopActive s = .next { s with pins := { s.pins with lineStop := true } } ∧
      exec .lineStopInactive s = .next { s with pins := { s.pins with lineStop := false } } ∧
      (∀ e, exec (.encoderEdge e) s = .next { s with pins := s.pins.encoder e }))

/-- R135 and R44: the levels of the two permits by the Index Controller state, HOME and LINE STOP, and the laws that they are never
asserted together and that LIFT PERMIT means no position in ORDERED, WORKING or FAULT, the latter in every state that keeps the
interlock. While the device is held in reset both are off (R193). -/
def Obligations.PermitsFollowTheirConditions : Prop :=
  ∀ s : State,
    (s.Live →
      (s.returnPermit = true ↔ s.ixc.state = .collect ∧ s.pins.home = false ∧ s.pins.lineStop = false) ∧
      (s.liftPermit = true ↔ (s.ixc.state = .permit ∨ s.ixc.state = .carry ∨ s.ixc.state = .sweep ∨ s.ixc.state = .reseat) ∧
        s.pins.lineStop = false)) ∧
    (s.pins.resetInput = true → s.liftPermit = false ∧ s.returnPermit = false) ∧
    ¬(s.liftPermit = true ∧ s.returnPermit = true) ∧
    (s.Interlocked → s.liftPermit = true → ∀ k, k < 16 →
      (s.pos k).phase ≠ .ordered ∧ (s.pos k).phase ≠ .working ∧ (s.pos k).phase ≠ .fault)

/-- Every step keeps the interlock of R44. -/
def Obligations.InterlockIsKeptByEveryStep : Prop := ∀ s t : State, s.Interlocked → step s = .next t → t.Interlocked

/-- Every step keeps the bounds of the links' queues (R179, R183); and every step keeps the bounds of the load schedule and of the
completion log (R98, R117), and the bar counter within its range (R121, R122). -/
def Obligations.QueuesListsAndCounterStayBounded : Prop :=
  (∀ s t : State, s.QueuesBounded → step s = .next t → t.QueuesBounded) ∧
  (∀ s t : State, s.ListsBounded → s.CounterInRange → step s = .next t → t.ListsBounded ∧ t.CounterInRange)

/-- Every step keeps every pallet at one place: as the occupant of one position, at one place in the return queue, or in neither
(R12, R20, R22, R57, R95, R103 to R105). -/
def Obligations.PalletsStandAtOnePlace : Prop := ∀ s t : State, s.PalletsStandOnce → step s = .next t → t.PalletsStandOnce

/-- Every step keeps both copies of the stop target a multiple of Q in [Tlo, Thi] (R124), and every step keeps the law that the
record of a LEARN motion in PERMIT, CARRY or SWEEP is not HELD (R139, R140, R145). -/
def Obligations.TargetsAndLearnRecordStayLawful : Prop :=
  (∀ s t : State, s.TargetsPlaced → step s = .next t → t.TargetsPlaced) ∧
  (∀ s t : State, s.LearnUnheld → step s = .next t → t.LearnUnheld)

/-- The laws that every step keeps hold after a device reset. -/
def Obligations.LawsHoldAtReset : Prop :=
  State.reset.Interlocked ∧ State.reset.QueuesBounded ∧ State.reset.ListsBounded ∧ State.reset.CounterInRange ∧
    State.reset.TargetsPlaced ∧ State.reset.LearnUnheld ∧ State.reset.PalletsStandOnce

/-- R187 and R198: every command that changes the status content posts one STATUS frame with the content as it then stands and the
next sequence number, and so does every LINE RESET that its grant carries out; a command that changes none, LINE RESET and a taken
RECOVER apart, posts none. Which commands post without a change is the model's reading (assumption 20). -/
def Obligations.StatusFrameFollowsEveryChange : Prop :=
  ∀ (c : Instr) (s t : State), s.Live → s.liu.links.length = 18 → exec c s = .next t →
    (t.statusContent ≠ s.statusContent →
      t.liu.sequence = (if s.liu.sequence < 65535 then s.liu.sequence + 1 else 1) ∧
      (t.link .supl).unsolicited = some (.status t.liu.sequence t.statusContent)) ∧
    (t.statusContent = s.statusContent → (∀ l tag, c ≠ .recoverForward l tag ∧ c ≠ .recoverBack l tag ∧ c ≠ .lineReset l tag) →
      t.liu.sequence = s.liu.sequence) ∧
    (∀ tag, c = .lineReset .supl tag → s.Free .supl →
      t.liu.sequence = (if s.liu.sequence < 65535 then s.liu.sequence + 1 else 1) ∧
      (t.link .supl).unsolicited = some (.status t.liu.sequence t.statusContent))

/-! ### Wired lines -/

/-- R123 and R136: a rising edge of HOME re-references the counter in every state, stops the home timer, and raises HOME_DRIFT
beyond the working HT. Outside the motion states, and in COLLECT where it does not complete the conditions of R46, nothing else
changes. In a motion state the re-referenced counter is tested as after any change of it (R128, R129, R143), which is the model's
reading (assumption 25): overtravel aborts the motion, the sweep ends at its limit, and otherwise the Index Controller and the learn
stand. A falling edge leaves the counter, and in COLLECT starts the home timer with the working home timeout. -/
def Obligations.HomeEdgesReferenceTheCounter : Prop :=
  ∀ s : State, s.Live →
    let referenced : Btk := { s.btk with
      lastHomeError := some s.btk.counter, largestHomeError := max s.btk.largestHomeError s.btk.counter.natAbs
      counter := 0, saturated := false, homeTimer := none }
    let drift (t : State) := t.liu.attentions = { s.liu.attentions with homeDrift := t.liu.attentions.homeDrift }
    (s.pins.home = true → exec .homeRising s = .next s) ∧
    (s.pins.home = false → ∃ t, exec .homeRising s = .next t ∧ t.pins = { s.pins with home := true } ∧
      t.btk.lastHomeError = some s.btk.counter ∧ t.btk.largestHomeError = max s.btk.largestHomeError s.btk.counter.natAbs ∧
      t.btk.counter = 0 ∧ t.btk.saturated = false ∧ t.btk.homeTimer = none ∧
      t.btk.transitionErrors = s.btk.transitionErrors ∧
      t.liu.attentions.homeDrift = (if s.rst.geometry.isSome = true ∧ s.working.homeTolerance < s.btk.counter.natAbs
        then some s.btk.counter else s.liu.attentions.homeDrift) ∧
      t.rst.positions = s.rst.positions ∧ t.rst.slots = s.rst.slots ∧ s.SameLists t ∧ s.LinksKept t ∧ t.pending = s.pending ∧
      (¬{ s with pins := { s.pins with home := true } }.Released → s.ixc.state.moving = false →
        t.ixc = s.ixc ∧ t.btk = referenced ∧ t.rst = s.rst ∧ t.wlu = s.wlu ∧ t.ctm = s.ctm ∧ t.aar = s.aar ∧ drift t) ∧
      (∀ m, s.ixc.motion = some m → m.kind.runsIn s.ixc.state = true →
        let ends := s.ixc.state = .sweep ∧ s.wlu.outcome = none ∧ s.sweepLimit ≤ 0
        t.rst = s.rst ∧ t.ctm = s.ctm ∧
        (s.InOvertravel m 0 → { s with btk := referenced }.EntersFault t .overtravel none) ∧
        (¬s.InOvertravel m 0 → drift t ∧ t.btk = { referenced with
          reseatTight := s.btk.reseatTight || decide (s.ixc.state = .reseat ∧ 0 ≤ m.target + s.working.overtravel) }) ∧
        (¬s.InOvertravel m 0 → ¬ends → t.ixc = s.ixc ∧ t.wlu = s.wlu ∧ t.aar = s.aar) ∧
        (¬s.InOvertravel m 0 → ends → s.rst.geometry.isSome = true → s.wlu.record.settings.isSome = true →
          t.ixc = { s.ixc with sweepTimer := none } ∧ t.aar.workList = s.aar.workList ++ [.learnWrite] ∧ t.wlu.outcome.isSome = true))) ∧
    (s.pins.home = false → exec .homeFalling s = .next s) ∧
    (s.pins.home = true → exec .homeFalling s = .next { s with
      pins := { s.pins with home := false }
      btk := if s.ixc.state = .collect then { s.btk with homeTimer := some { elapsed := 0, limit := s.working.homeTimeout } } else s.btk })

/-- R133 and R142: what an edge of an in-position input does to the capture of its position, and to nothing else. -/
def Obligations.InPositionEdgeMovesOneCapture : Prop :=
  ∀ (k : Fin 16) (active : Bool) (s : State), s.Live →
    let u := { s with pins := s.pins.setIp k.val active }
    let indexing := (s.ixc.state = .permit ∨ s.ixc.state = .carry) ∧ s.motionKind = some .index
    let learning := (s.ixc.state = .permit ∨ s.ixc.state = .sweep) ∧ s.motionKind = some .learn ∧ s.wlu.outcome = none
    (member s.pins.ip k.val = active → exec (.inPositionEdge k active) s = .next s) ∧
    (member s.pins.ip k.val ≠ active → ¬(0 < k.val ∧ k.val < s.count ∧ (indexing ∨ learning)) →
      exec (.inPositionEdge k active) s = .next u) ∧
    (member s.pins.ip k.val ≠ active → 0 < k.val → k.val < s.count → indexing → s.btk.captures.length = 15 →
      ∃ t, exec (.inPositionEdge k active) s = .next t ∧ t.pins = u.pins ∧ t.rst = s.rst ∧ t.ixc = s.ixc ∧ t.wlu = s.wlu ∧
        t.ctm = s.ctm ∧ t.aar = s.aar ∧ t.btk = { s.btk with captures := t.btk.captures } ∧ s.LinksKept t ∧
        (∀ j, j ≠ k.val - 1 → t.btk.captures.getD j EntryCapture.reset = s.btk.captures.getD j EntryCapture.reset) ∧
        (let c := s.btk.captures.getD (k.val - 1) EntryCapture.reset
         let d := (s.window k.val).map fun w => s.btk.counter - w.low
         t.btk.captures.getD (k.val - 1) EntryCapture.reset =
           (match c.state, active with
            | .awaitDeparture, false => { c with state := .armed }
            | .armed, true => { state := .captured, entry := some s.btk.counter, drift := d,
                                largest := match d with | none => c.largest | some x => max c.largest x.natAbs }
            | _, _ => c) ∧
         t.liu.attentions =
           (if c.state = .armed ∧ active = true ∧ ∃ x, d = some x ∧ s.working.entryTolerance < x.natAbs then
             { s.liu.attentions with locatorDrift := withMember s.liu.attentions.locatorDrift k.val }
            else s.liu.attentions))) ∧
    (member s.pins.ip k.val ≠ active → 0 < k.val → k.val < s.count → learning → s.wlu.record.entries.length = 15 →
      ∀ x, s.wlu.record.settings = some x → ∃ t, exec (.inPositionEdge k active) s = .next t ∧ t.pins = u.pins ∧ t.rst = s.rst ∧
        t.ixc = s.ixc ∧ t.btk = s.btk ∧ t.ctm = s.ctm ∧ t.aar = s.aar ∧ t.liu = s.liu ∧
        t.wlu = { s.wlu with record := { s.wlu.record with entries := t.wlu.record.entries } } ∧
        (∀ j, j ≠ k.val - 1 → t.wlu.record.entries.getD j SweepEntry.blank = s.wlu.record.entries.getD j SweepEntry.blank) ∧
        (let e := s.wlu.record.entries.getD (k.val - 1) SweepEntry.blank
         t.wlu.record.entries.getD (k.val - 1) SweepEntry.blank =
           match e.capture, active with
           | .awaitDeparture, false => { e with capture := .armed }
           | .armed, true => { e with capture := .risen, low := some s.btk.counter }
           | .risen, false => { e with capture := .fallen, high := some s.btk.counter }
           | .fallen, true => if x.extend then { e with capture := .risen } else e
           | _, _ => e))

/-- R55, R59, R61, R62: LINE STOP aborts a motion and a pending advance with STOPPED, and is only a level otherwise; its end
changes nothing but the level, unless it completes a collection. -/
def Obligations.LineStopAbortsTheMotion : Prop :=
  ∀ s : State, s.Live →
    (s.pins.lineStop = true → exec .lineStopActive s = .next s) ∧
    (s.pins.lineStop = false → s.ixc.state.moving = false → s.ixc.state ≠ .advance →
      exec .lineStopActive s = .next { s with pins := { s.pins with lineStop := true } }) ∧
    (s.pins.lineStop = false → s.ixc.state.moving = true ∨ s.ixc.state = .advance →
      ∃ t, exec .lineStopActive s = .next t ∧ s.EntersFault t .stopped none ∧ t.pins = { s.pins with lineStop := true } ∧
        t.rst = s.rst ∧ t.ctm = s.ctm ∧ s.LinksKept t ∧ t.liftPermit = false ∧ t.returnPermit = false) ∧
    (s.pins.lineStop = false → exec .lineStopInactive s = .next s) ∧
    (s.pins.lineStop = true → let u := { s with pins := { s.pins with lineStop := false } }
      ¬u.Released → exec .lineStopInactive s = .next u)

/-- R121 and R122: an edge of the encoder counts one in its direction, in every state; a count beyond an end of the range sets
the saturated flag instead and aborts a motion with ENCODER_RANGE; a saturated counter does not count; a transition of both
channels is an error. Outside the motion states nothing else changes. R128, R129, R143: in the states that a motion runs through, a
counting edge that brings the counter into overtravel aborts it with OVERTRAVEL; one that does not leaves the state, and in SWEEP
ends the sweep at its limit. -/
def Obligations.EncoderEdgesMoveTheCounter : Prop :=
  ∀ (ch : Channel) (d : Travel) (s : State), s.Live →
    let c := match d with | .carry => s.btk.counter + 1 | .home => s.btk.counter - 1
    let u := { s with pins := s.pins.encoder (.edge ch d) }
    let inRange := Config.counterMin ≤ c ∧ c ≤ Config.counterMax
    (s.btk.saturated = true → exec (.encoderEdge (.edge ch d)) s = .next u) ∧
    (s.btk.saturated = false → inRange → ∃ t, exec (.encoderEdge (.edge ch d)) s = .next t ∧ t.pins = u.pins ∧
      t.btk.counter = c ∧ t.btk.saturated = false ∧ t.rst = s.rst ∧ t.ctm = s.ctm ∧ s.LinksKept t ∧
      (s.ixc.state.moving = false → t = { u with btk := { s.btk with counter := c } })) ∧
    (s.btk.saturated = false → ¬inRange → s.ixc.state.moving = false →
      exec (.encoderEdge (.edge ch d)) s = .next { u with btk := { s.btk with saturated := true } }) ∧
    (s.btk.saturated = false → ¬inRange → s.ixc.state.moving = true → ∃ t, exec (.encoderEdge (.edge ch d)) s = .next t ∧
      { s with btk := { s.btk with saturated := true } }.EntersFault t .encoderRange none ∧ t.pins = u.pins ∧ t.rst = s.rst ∧
      s.LinksKept t) ∧
    exec (.encoderEdge .both) s = .next { s with
      pins := s.pins.encoder .both, btk := { s.btk with transitionErrors := countUp 65535 s.btk.transitionErrors } } ∧
    (∀ m, s.btk.saturated = false → s.ixc.motion = some m → m.kind.runsIn s.ixc.state = true → inRange →
      ∃ t, exec (.encoderEdge (.edge ch d)) s = .next t ∧
      (s.InOvertravel m c → { s with btk := { s.btk with counter := c } }.EntersFault t .overtravel none ∧ t.rst = s.rst) ∧
      (¬s.InOvertravel m c → t.ixc.state = s.ixc.state ∧ t.ixc.motion = s.ixc.motion ∧ t.rst = s.rst ∧
        (s.ixc.state = .sweep → s.wlu.outcome = none → c < s.sweepLimit → t.wlu = s.wlu ∧ t.aar = s.aar) ∧
        (s.ixc.state = .sweep → s.wlu.outcome = none → s.sweepLimit ≤ c → s.rst.geometry.isSome = true →
          s.wlu.record.settings.isSome = true →
          t.aar.workList = s.aar.workList ++ [.learnWrite] ∧ t.ixc.sweepTimer = none ∧ t.wlu.outcome.isSome = true)))

/-! ### Timers -/

/-- R52, R59, R62, R136: the expiries of the lift, carry, sweep and home timers enter FAULT with their causes, motion kept; a
timer that does not run does not expire. -/
def Obligations.TimeoutsEnterFault : Prop :=
  ∀ s : State, s.Live →
    (s.ixc.state = .permit → s.ixc.liftTimer.isSome = true → ∃ t, exec .liftTimeout s = .next t ∧
      s.EntersFault t .liftTimeout none ∧ t.rst = s.rst ∧ t.ctm = s.ctm ∧ t.pins = s.pins ∧ s.LinksKept t) ∧
    (s.ixc.state = .carry ∨ s.ixc.state = .reseat → s.ixc.carryTimer.isSome = true → ∃ t, exec .carryTimeout s = .next t ∧
      s.EntersFault t .carryTimeout none ∧ t.rst = s.rst ∧ t.ctm = s.ctm ∧ t.pins = s.pins ∧ s.LinksKept t) ∧
    (s.ixc.state = .sweep → s.ixc.sweepTimer.isSome = true → ∃ t, exec .sweepTimeout s = .next t ∧
      s.EntersFault t .carryTimeout none ∧ t.rst = s.rst ∧ t.ctm = s.ctm ∧ t.pins = s.pins ∧ s.LinksKept t) ∧
    (s.ixc.state = .collect → s.btk.homeTimer.isSome = true → ∃ t, exec .homeTimeout s = .next t ∧
      s.EntersFault t .homeTimeout none ∧ t.rst = s.rst ∧ t.ctm = s.ctm ∧ t.pins = s.pins ∧ s.LinksKept t) ∧
    (s.ixc.liftTimer = none → exec .liftTimeout s = .next s) ∧ (s.ixc.carryTimer = none → exec .carryTimeout s = .next s) ∧
    (s.ixc.sweepTimer = none → exec .sweepTimeout s = .next s) ∧ (s.btk.homeTimer = none → exec .homeTimeout s = .next s)

/-- R53, R54, R55, R66, R136: at the end of the settle time the stop check and the seat check decide between STOP_MISS, SEAT,
ADVANCE and, for BACK, the end of the motion in HALT, or in COLLECT, on whose entry the home timer starts if HOME is inactive. A
CONFIG fault that waits (R165) is entered on the entry to COLLECT here too, in the states, which no run reaches, where a BACK
motion finds one. -/
def Obligations.SettleEndMakesTheChecks : Prop :=
  ∀ (m : Motion) (s : State), s.Live → s.ixc.state = .settle → s.ixc.settleTimer.isSome = true → s.ixc.motion = some m →
    let target := match m.kind with | .index | .forward => s.working.target | .learn => m.target | .back => 0
    let expected (k : Nat) := match m.kind with
      | .index | .learn | .forward => 0 < k ∧ member m.origin (k - 1) = true
      | .back => member m.origin k = true
    let stops := ((m.sample.getD 0 - target).natAbs : Int) ≤ s.working.stopBand
    let seated := ∀ k, k < 16 → k < s.count → (expected k ↔ member s.pins.ip k = true)
    let recorded (x : SeatCheck) := x.sample = m.sample.getD 0 ∧ x.target = target ∧
      (∀ k, k < 16 → (member x.missing k = true ↔ k < s.count ∧ expected k ∧ member s.pins.ip k = false)) ∧
      (∀ k, k < 16 → (member x.unexpected k = true ↔ k < s.count ∧ ¬expected k ∧ member s.pins.ip k = true))
    (¬stops → ∃ t x, exec .settleEnd s = .next t ∧ s.EntersFault t .stopMiss (some x) ∧ recorded x ∧ t.rst = s.rst) ∧
    (stops → ¬seated → ∃ t x, exec .settleEnd s = .next t ∧ s.EntersFault t .seat (some x) ∧ recorded x ∧ t.rst = s.rst) ∧
    (stops → seated → m.kind ≠ .back → ∃ t, exec .settleEnd s = .next t ∧
      t.ixc = { s.ixc with state := .advance, settleTimer := none } ∧ t.aar.workList = s.aar.workList ++ [.advance] ∧
      t.rst = s.rst ∧ t.btk = s.btk ∧ t.wlu = s.wlu ∧ t.ctm = s.ctm ∧ t.pins = s.pins ∧ s.LinksKept t) ∧
    (stops → seated → m.kind = .back → s.ixc.haltRequested = true → ∃ t, exec .settleEnd s = .next t ∧
      t.ixc.state = .halt ∧ t.ixc.motion = none ∧ t.ixc.haltRequested = false ∧ t.ixc.currentFault = s.ixc.currentFault ∧
      t.btk = { s.btk with homeTimer := none } ∧ t.ctm.indexTimer = none ∧ t.ctm.advances = s.ctm.advances ∧ t.rst = s.rst) ∧
    (stops → seated → m.kind = .back → s.ixc.haltRequested = false → s.ixc.configDue = true → ∃ t, exec .settleEnd s = .next t ∧
      t.ixc.state = .fault ∧ t.ixc.motion = none ∧ t.ixc.configDue = false ∧ t.liu.attentions.fault = some .config ∧
      t.ixc.currentFault = some { cause := .config, check := none, kind := none, stamp := s.ctm.clock } ∧
      t.ixc.lastFault = t.ixc.currentFault ∧ t.btk = { s.btk with homeTimer := none } ∧ t.ctm.indexTimer = none ∧
      t.ctm.advances = s.ctm.advances ∧ t.rst = s.rst) ∧
    (stops → seated → m.kind = .back → s.ixc.haltRequested = false → s.ixc.configDue = false →
      ¬({ s with ixc := { s.ixc with state := .collect } }.Released) → ∃ t, exec .settleEnd s = .next t ∧
      t.ixc.state = .collect ∧ t.ixc.motion = none ∧ t.ctm.indexTimer = none ∧ t.ctm.advances = s.ctm.advances ∧ t.rst = s.rst ∧
      t.btk = (if s.pins.home then s.btk else { s.btk with homeTimer := some { elapsed := 0, limit := s.working.homeTimeout } }))

/-- R86 and R87: the expiry of a start timer of an ORDERED position joins the work list; its granted write cancels the order as
MISSED and puts the position into FAULT(NO_START), which aborts a motion; a write that finds the position no longer ORDERED
writes nothing. -/
def Obligations.StartTimeoutFaultsTheUnstartedPosition : Prop :=
  ∀ (k : Fin 16) (s : State), s.Live →
    ((s.startTimer k.val).isSome = true → (s.pos k.val).phase = .ordered → exec (.startTimeout k) s = .next { s with
      ctm := { s.ctm with startTimers := s.ctm.startTimers.set k.val none }
      aar := { s.aar with workList := s.aar.workList ++ [.startExpiry k.val] } }) ∧
    (s.startTimer k.val = none ∨ (s.pos k.val).phase ≠ .ordered → exec (.startTimeout k) s = .next s) ∧
    (∀ ws, s.aar.workList = .startExpiry k.val :: ws → s.rst.errors = [] →
      ((s.pos k.val).phase ≠ .ordered → exec (.startTimeoutWrite k) s = .next { s with aar := { s.aar with workList := ws } }) ∧
      ((s.pos k.val).phase = .ordered → s.Shaped → ∃ t, exec (.startTimeoutWrite k) s = .next t ∧
        t.pos k.val = { s.pos k.val with phase := .fault, faultCode := some .noStart } ∧
        t.detail k.val = { s.detail k.val with closing := .missed } ∧ t.startTimer k.val = none ∧ s.SameElsewhere t k.val ∧
        (∀ n, t.pallet n = s.afterCancel k.val n) ∧ s.SameTables t ∧ s.SameLists t ∧ s.LinksKept t ∧ t.pins = s.pins ∧
        (s.ixc.state.abortable = true → { s with aar := { s.aar with workList := ws } }.EntersFault t (.stationFault k.val) none) ∧
        (s.ixc.state.abortable = false → t.ixc = s.ixc ∧ t.btk = s.btk ∧ t.wlu = s.wlu ∧ t.aar.workList = ws)))

/-- R171 and R172: a running work time that is greater than its limit raises one overrun for an order, and nothing but the flag, the
count and the attention; a value at or below the limit as it stands, and a timer without a limit, raise none. -/
def Obligations.OverrunIsRaisedOncePerOrder : Prop :=
  ∀ (k : Fin 16) (s : State), s.Live → s.Shaped →
    let beyond := ∃ v x, (s.work k.val).running = some v ∧ (s.work k.val).limit = some x ∧ x < v
    ((s.work k.val).overrunTaken = true ∨ ¬beyond → exec (.overrun k) s = .next s) ∧
    ((s.work k.val).overrunTaken = false → beyond → ∃ t, exec (.overrun k) s = .next t ∧
      t.work k.val = { s.work k.val with overrunTaken := true } ∧
      t.stats k.val = { s.stats k.val with overruns := countUp 65535 (s.stats k.val).overruns } ∧
      (∀ j, j ≠ k.val → t.work j = s.work j ∧ t.stats j = s.stats j) ∧
      t.liu.attentions = { s.liu.attentions with overrun := t.liu.attentions.overrun } ∧
      (∀ j, j < 16 → (member t.liu.attentions.overrun j = true ↔ member s.liu.attentions.overrun j = true ∨ j = k.val)) ∧
      t.rst = s.rst ∧ t.ixc = s.ixc ∧ t.btk = s.btk ∧ t.wlu = s.wlu ∧ t.aar = s.aar ∧ t.pins = s.pins ∧ s.LinksKept t)

/-! ### Grants of the Index Controller and of the scrubber -/

/-- R56 to R58, R102, R165: the advance of a line whose tracking cells are sound. The pallet at N−1 leaves, every occupant moves
one position downstream, every order number rises, every position is ORDERED or IDLE anew, position 0 with FEED, and the motion
ends in COLLECT, on whose entry the home timer starts if HOME is inactive (R136), or HALT. The index time with its recovered
mark and the cycle time are recorded (R173, R174). Collection is not completed there: position 0 is ORDERED. Where a CONFIG
fault waits for the advance, its end in COLLECT enters FAULT(CONFIG) with no motion pending, and its end in HALT does not. -/
def Obligations.AdvanceShiftsTheLine : Prop :=
  ∀ (ws : List WorkItem) (s : State), s.Sound → s.Shaped → s.aar.workList = .advance :: ws → s.ixc.state = .advance →
    3 ≤ s.count → s.count ≤ 16 → (s.pos 0).kind = .load → (s.pos 0).mode = .active → (∀ k, k < s.count → s.unused k = false) →
    let config := s.ixc.configDue = true ∧ s.ixc.haltRequested = false
    ∃ t, exec .advance s = .next t ∧
      (∀ k, k < s.count → (t.pos k).occupant = (if k = 0 then .empty else (s.pos (k - 1)).occupant)) ∧
      (∀ k, k < s.count → (t.pos k).orderNumber = ((s.pos k).orderNumber + 1) % 256 ∧
        (t.pos k).faultCode = none ∧ (t.pos k).mode = (s.pos k).mode ∧ (t.pos k).hold = (s.pos k).hold ∧
        (t.pos k).joined = (s.pos k).joined) ∧
      (∀ k, k < s.count → (s.pos k).mode = .bypass → (t.pos k).phase = .idle ∧ (t.pos k).orderKind = .noOrder ∧
        (t.detail k).closing = .noOrder) ∧
      (∀ k, k < s.count → (s.pos k).mode = .active →
        ((t.pos k).phase = .ordered ∧ (t.pos k).orderKind ≠ .noOrder ∧ (t.detail k).closing = .opened) ∨
        ((t.pos k).phase = .idle ∧ (t.pos k).orderKind = .noOrder ∧ (t.detail k).closing = .noOrder)) ∧
      (t.pos 0).phase = .ordered ∧ (t.pos 0).orderKind = .feed ∧
      (∀ k, s.count ≤ k → t.pos k = s.pos k ∧ t.detail k = s.detail k) ∧
      (∀ n p, s.palletAt (s.count - 1) = some n → s.pallet n = some p →
        t.rst.returnQueue = (if p.divert = true ∨ s.maintenanceDue p = true then s.rst.returnQueue else s.rst.returnQueue ++ [n]) ∧
        (p.divert = true ∨ s.maintenanceDue p = true → ∃ q, t.pallet n = some q ∧ q.divert = false) ∧
        ((∀ j, j < 16 → j + 1 ≠ s.count → s.palletAt j ≠ some n) →
          t.pallet n = some (if p.divert = true ∨ s.maintenanceDue p = true then { p with divert := false } else p)) ∧
        (s.maintenanceDue p = true → t.liu.attentions.maintenanceOut = some n)) ∧
      (s.palletAt (s.count - 1) = none → t.rst.returnQueue = s.rst.returnQueue) ∧
      t.rst.schedule = s.rst.schedule ∧ t.rst.log = s.rst.log ∧ t.rst.routing = s.rst.routing ∧
      t.ixc.motion = none ∧ t.ixc.haltRequested = false ∧ t.ixc.configDue = false ∧
      t.ixc.state = (if s.ixc.haltRequested then .halt else if s.ixc.configDue then .fault else .collect) ∧
      (config → t.ixc.currentFault = some { cause := .config, check := none, kind := none, stamp := s.ctm.clock } ∧
        t.ixc.lastFault = t.ixc.currentFault ∧ t.liu.attentions.fault = some .config ∧
        t.aar.workList = ws.filter fun w => w != .advance && w != .learnWrite) ∧
      (¬config → t.ixc.currentFault = s.ixc.currentFault ∧ t.ixc.lastFault = s.ixc.lastFault ∧
        t.liu.attentions.fault = s.liu.attentions.fault ∧ t.aar.workList = ws) ∧
      t.ctm.advances = countUp 4294967295 s.ctm.advances ∧ t.ctm.indexTimer = none ∧
      (let took (old new : Span) (v : Nat) := new = { last := some v
                                                      shortest := some (match old.shortest with | none => v | some a => min a v)
                                                      longest := some (match old.longest with | none => v | some a => max a v) }
       (∀ v, s.ctm.indexTimer = some v → took s.ctm.indexTimes t.ctm.indexTimes v ∧
         t.ctm.lastIndexRecovered = some s.ctm.indexRecovered) ∧
       (s.ctm.indexTimer = none → t.ctm.indexTimes = s.ctm.indexTimes ∧ t.ctm.lastIndexRecovered = s.ctm.lastIndexRecovered) ∧
       (∀ v, s.ctm.cycleTimer = some v → took s.ctm.cycleTimes t.ctm.cycleTimes v) ∧
       (s.ctm.cycleTimer = none → t.ctm.cycleTimes = s.ctm.cycleTimes)) ∧
      t.ctm.cycleTimer = (if s.ixc.haltRequested then none else some 0) ∧ t.pins = s.pins ∧
      t.btk = { s.btk with
        homeTimer := if s.ixc.haltRequested ∨ s.ixc.configDue then none
          else if s.pins.home then s.btk.homeTimer else some { elapsed := 0, limit := s.working.homeTimeout } }

/-- R57, R76 to R78, R86, R102, R113: the orders that the advance of a sound line issues. A PROCESS or CHECK position is given its
kind and the routed program where none of the conditions of R77 holds for the block that arrives, and NONE otherwise; at a BYPASS
position such a block takes a MISSED entry. Position N−1 is given UNLOAD with the lane and the route of R113. The start timers
start, and every joined ACTIVE station is sent its ORDER frame. The pallet that leaves loses only the divert flag with which it goes
to OUT (R24, R56), and no record changes but that one and those that take a MISSED entry. -/
def Obligations.AdvanceIssuesTheNextOrders : Prop :=
  ∀ (ws : List WorkItem) (s : State), s.Sound → s.Shaped → s.aar.workList = .advance :: ws → s.ixc.state = .advance →
    3 ≤ s.count → s.count ≤ 16 → (s.pos 0).kind = .load → (s.pos 0).mode = .active → (∀ k, k < s.count → s.unused k = false) →
    s.liu.links.length = 18 →
    (∀ i j n, i < 16 → j < 16 → s.palletAt i = some n → s.palletAt j = some n → i = j) →
    ∃ t, exec .advance s = .next t ∧
      (∀ k, 0 < k → k < s.count →
        let p := s.pos k
        let working := p.kind = .process ∨ p.kind = .check
        let due (w : Workpiece) := w.disposition ≠ .suspect ∧ w.disposition ≠ .reject ∧ s.routing w.variant k ≠ 0 ∧
          ¬∃ g q r v, HistoryEntry.outcome k g q r v ∈ w.history ∧ (r = .done ∨ r = .passed)
        let resting := (t.pos k).phase = .idle ∧ (t.pos k).orderKind = .noOrder ∧ (t.pos k).program = none ∧
          (t.pos k).instruction = none
        let started (kind : OrderKind) (g : Option Nat) (i : Option Instruction) := (t.pos k).phase = .ordered ∧
          (t.pos k).orderKind = kind ∧ (t.pos k).program = g ∧ (t.pos k).instruction = i ∧ t.startTimer k = some 0
        (∀ n q w, working → s.palletAt (k - 1) = some n → s.pallet n = some q → q.workpiece = some w → due w →
          (p.mode = .active → started (if p.kind = .process then .process else .check) (some (s.routing w.variant k)) none ∧
            t.pallet n = some q) ∧
          (p.mode = .bypass → resting ∧
            t.pallet n = some { q with workpiece := some (w.record k (s.routing w.variant k) .missed none) })) ∧
        (working → ¬(∃ n q w, s.palletAt (k - 1) = some n ∧ s.pallet n = some q ∧ q.workpiece = some w ∧ due w) →
          resting ∧ ∀ n, s.palletAt (k - 1) = some n → t.pallet n = s.pallet n) ∧
        (∀ n q, p.kind = .unload → p.mode = .active → s.palletAt (k - 1) = some n → s.pallet n = some q →
          started .unload none (some (.unload
            (match q.workpiece with
              | none => .noLane
              | some w => match w.disposition with | .good => .ship | .suspect | .reject => .reject | .rework => .keep)
            (if q.divert = true ∨ s.maintenanceDue q = true then .out else .loop))) ∧ t.pallet n = some q) ∧
        (p.kind = .unload → p.mode = .active → s.palletAt (k - 1) = none → resting)) ∧
      (t.pos 0).program = none ∧ (t.pos 0).instruction = none ∧ t.startTimer 0 = none ∧
      (∀ k, k < s.count → (s.pos k).mode = .active → (s.pos k).joined.isSome = true →
        (t.link (Link.at k)).unsolicited = some (.order (t.orderFrame k))) ∧
      (∀ k, k < 16 → s.count ≤ k ∨ (s.pos k).mode = .bypass ∨ (s.pos k).joined = none →
        (t.link (Link.at k)).unsolicited = (s.link (Link.at k)).unsolicited) ∧
      (∀ n q, s.palletAt (s.count - 1) = some n → s.pallet n = some q →
        t.pallet n = some (if q.divert = true ∨ s.maintenanceDue q = true then { q with divert := false } else q)) ∧
      (∀ k n, s.palletAt k = some n → s.count ≤ k ∨ ((s.pos (k + 1)).kind ≠ .process ∧ (s.pos (k + 1)).kind ≠ .check ∧
        (s.pos (k + 1)).mode = .active ∧ k + 1 < s.count) → t.pallet n = s.pallet n) ∧
      (∀ n, (∀ k, k < 16 → s.palletAt k ≠ some n) → t.pallet n = s.pallet n)

/-- R56 and R162: an advance that finds the tracking cell of a position uncorrectable repairs that cell and writes nothing
else; the Index Controller enters FAULT(TRACKING) with the motion kept. -/
def Obligations.AdvanceStopsOnALostPosition : Prop :=
  ∀ (ws : List WorkItem) (k : Nat) (s : State), s.Live → s.Shaped → s.aar.workList = .advance :: ws → s.ixc.state = .advance →
    k < s.count → s.count ≤ 16 → s.unused k = false → s.rst.errors = [(⟨.positionTracking, k⟩, .uncorrectable)] →
    ∃ t, exec .advance s = .next t ∧ t.ixc.state = .fault ∧ t.ixc.motion = s.ixc.motion ∧
      t.liu.attentions.fault = some .tracking ∧ (∃ f, t.ixc.currentFault = some f ∧ f.cause = .tracking) ∧
      (t.pos k).occupant = .unknown ∧
      ((s.pos k).mode = .active → (t.pos k).phase = .fault ∧ (t.pos k).faultCode = some .store ∧
        (t.pos k).orderNumber = (s.detail k).copyNumber ∧ (t.pos k).orderKind = (s.detail k).copyKind) ∧
      ((s.pos k).mode = .bypass → (t.pos k).phase = .idle ∧ (t.pos k).orderKind = .noOrder) ∧
      s.SameElsewhere t k ∧ s.SameLists t ∧ t.rst.slots = s.rst.slots ∧ t.rst.errors = [] ∧
      t.rst.damages = countUp 65535 s.rst.damages ∧ t.ctm.advances = s.ctm.advances ∧ t.ctm.indexTimer = s.ctm.indexTimer ∧
      s.LinksKept t

/-- R145, R49, R127 and R134: the learn write takes the outcome into the record, writes the target and the windows of an APPLIED
learn, clears the largest drift of each position whose window it writes, raises LEARN_DONE and enters RESEAT with the resulting
target, which the MOTION frame carries. A counter that is saturated, or in overtravel already, aborts the motion in the same
event (R122, R129) and leaves the learn as written. -/
def Obligations.LearnWriteEntersReseat : Prop :=
  ∀ (ws : List WorkItem) (o : LearnOutcome) (m : Motion) (x : Transfer) (s : State), s.Sound → s.aar.workList = .learnWrite :: ws →
    s.ixc.state = .sweep → s.wlu.outcome = some o → s.ixc.motion = some m → m.kind = .learn →
    s.rst.transfer = some x → s.rst.windows.length = 15 →
    let target := match o with
      | .applied => s.wlu.record.placed.getD 0
      | .held | .failed _ => (s.wlu.record.settings.map (·.start)).getD 0
    let within := s.btk.counter ≤ target + x.working.overtravel ∨ s.btk.counter ≤ s.sweepLimit + x.working.overtravel
    let clear := s.btk.saturated = false ∧ within
    s.liu.links.length = 18 →
    ∃ t, exec .learnWrite s = .next t ∧ t.ixc.motion = some { m with target := target } ∧ t.ixc.sweepTimer = none ∧
      (clear → t.ixc.state = .reseat ∧ t.ixc.carryTimer = some { elapsed := 0, limit := x.working.carryTimeout } ∧
        t.aar.workList = ws ∧ t.liftPermit = !s.pins.lineStop) ∧
      (¬clear → ∃ y, (y = .encoderRange ∧ s.btk.saturated = true ∨ y = .overtravel ∧ ¬within) ∧ t.ixc.state = .fault ∧
        t.ixc.currentFault = some { cause := y, check := none, kind := some .learn, stamp := s.ctm.clock } ∧
        t.ixc.lastFault = t.ixc.currentFault ∧ t.ixc.carryTimer = none ∧ t.liftPermit = false ∧ t.liu.attentions.fault = some y) ∧
      t.wlu.outcome = none ∧ t.wlu.record.resulting = some target ∧ t.wlu.record.endTime = some s.ctm.clock ∧
      (o = .applied → t.wlu.record.state = .applied ∧ t.liu.attentions.learnDone = some .applied) ∧
      (o = .held → t.wlu.record.state = .held ∧ t.liu.attentions.learnDone = some .held) ∧
      (∀ r, o = .failed r → t.wlu.record.state = .failed ∧ t.wlu.record.failure = some r ∧
        t.liu.attentions.learnDone = some (.failed r)) ∧
      (o = .applied → t.working.target = target ∧ t.staged.target = target) ∧
      (o ≠ .applied → t.rst.transfer = s.rst.transfer ∧ t.rst.windows = s.rst.windows) ∧
      (o = .applied → ∀ k, 1 ≤ k → k ≤ 15 → t.window k =
        if (s.sweepEntry k).outcome = some .window then
          some { low := (s.sweepEntry k).low.getD 0, high := (s.sweepEntry k).high.getD 0 }
        else s.window k) ∧
      (s.btk.captures.length = 15 → ∀ k, 1 ≤ k → k ≤ 15 → t.btk.captures.getD (k - 1) EntryCapture.reset =
        let c := s.btk.captures.getD (k - 1) EntryCapture.reset
        if o = .applied ∧ (s.sweepEntry k).outcome = some .window then { c with largest := 0 } else c) ∧
      (∃ f, (t.link .drvl).unsolicited = some (.motion f) ∧ f.step = .reseat ∧ f.kind = .learn ∧ f.target = target ∧
        f.stopBand = x.working.stopBand ∧
        f.limit = (if s.btk.counter ≤ target + x.working.overtravel then target + x.working.overtravel
          else s.sweepLimit + x.working.overtravel))

/-- R154, R159, R163, R166: a scrubber grant, made while nothing waits for the store, reads the cell at the walk position and moves
on; its command first takes in the cells upset since the last one, and does no more while something waits. A sound cell changes
nothing else; a single-bit error is corrected, counted and reported; a lost routing or budget cell becomes 0 and a lost window is
removed. How upsets come in is the model's choice (assumption 4). -/
def Obligations.ScrubberReadsAndRepairsItsCell : Prop :=
  ∀ s : State, s.Live →
    (∀ us, exec (.scrubberRead us) s = exec (.scrubberRead []) (s.upset us)) ∧
    (¬s.Quiet → ∀ us, exec (.scrubberRead us) s = .next (s.upset us)) ∧
    (∀ (c : Cell) (e : CellError), c.index < Region.size c.region →
      (s.upset [(c, e)]).rst.errors = s.rst.errors.filter (fun x => x.1 != c) ++ [(c, e)]) ∧
    (s.Quiet →
    let next : Cell := if s.rst.walk.index + 1 < Region.size s.rst.walk.region then ⟨s.rst.walk.region, s.rst.walk.index + 1⟩
      else ⟨Region.next s.rst.walk.region, 0⟩
    (s.rst.errors = [] → exec (.scrubberRead []) s = .next { s with rst := { s.rst with walk := next } }) ∧
    (s.rst.errors = [(s.rst.walk, .correctable)] → ∃ t, exec (.scrubberRead []) s = .next t ∧
      t.rst = { s.rst with walk := next, errors := [], corrections := countUp 65535 s.rst.corrections,
                           lastCorrected := some (s.cellName s.rst.walk) } ∧
      t.liu.attentions = { s.liu.attentions with storeCorrected := some (s.cellName s.rst.walk) } ∧
      t.ixc = s.ixc ∧ t.btk = s.btk ∧ t.wlu = s.wlu ∧ t.ctm = s.ctm ∧ t.aar = s.aar ∧ s.LinksKept t) ∧
    (∀ i, i < 8 → s.rst.walk = ⟨.routing, i⟩ → s.rst.errors = [(s.rst.walk, .uncorrectable)] → s.rst.routing.length = 128 →
      ∃ t, exec (.scrubberRead []) s = .next t ∧
      t.rst = { s.rst with walk := next, errors := [], damages := countUp 65535 s.rst.damages,
                           lastDamaged := some ⟨⟨.routing, i⟩, none, none⟩, routing := t.rst.routing } ∧
      (∀ v k, 1 ≤ v → v ≤ 8 → k < 16 → t.routing v k = if v = i + 1 then 0 else s.routing v k) ∧
      t.liu.attentions = { s.liu.attentions with storeDamaged := some ⟨⟨.routing, i⟩, none, none⟩ } ∧
      t.ixc = s.ixc ∧ t.btk = s.btk ∧ t.wlu = s.wlu ∧ t.ctm = s.ctm ∧ t.aar = s.aar ∧ s.LinksKept t) ∧
    (∀ i, i < 15 → s.rst.walk = ⟨.window, i⟩ → s.rst.errors = [(s.rst.walk, .uncorrectable)] → s.rst.windows.length = 15 →
      s.btk.captures.length = 15 → ∃ t, exec (.scrubberRead []) s = .next t ∧ t.window (i + 1) = none ∧
      (∀ k, k ≠ i + 1 → t.window k = s.window k) ∧ (t.btk.captures.getD i EntryCapture.reset).largest = 0 ∧
      t.btk.counter = s.btk.counter ∧ t.rst.damages = countUp 65535 s.rst.damages ∧
      t.liu.attentions = { s.liu.attentions with storeDamaged := some ⟨⟨.window, i⟩, none, none⟩ } ∧
      t.rst.positions = s.rst.positions ∧ t.ixc = s.ixc ∧ t.ctm = s.ctm ∧ s.LinksKept t) ∧
    (∀ k g, k < 16 → 1 ≤ g → g ≤ 15 → s.rst.walk = ⟨.budget, k * 15 + (g - 1)⟩ → s.rst.errors = [(s.rst.walk, .uncorrectable)] →
      s.rst.budgets.length = 240 → s.Shaped → ∃ t, exec (.scrubberRead []) s = .next t ∧ t.budget k g = 0 ∧
      ((s.pos k).program = some g → (s.work k).running.isSome = true → (t.work k).limit = none) ∧
      (t.work k).running = (s.work k).running ∧ t.rst.damages = countUp 65535 s.rst.damages ∧
      t.rst.positions = s.rst.positions ∧ t.ixc = s.ixc ∧ s.LinksKept t))

/-- R161, R25, R32, R33, R12: a scrubber grant that finds cells of a pallet slot lost. A lost header leaves a pallet that takes no
block and leaves the line; a lost workpiece or serial cell makes the serial LOST and the workpiece doubtful, and both together a
block of pass 2 in the lowest variant; a lost history cell makes its two entries LOST; with all three number-holding cells lost the
slot is freed, and its pallet stands at no position and in no queue place. That a history cell raises the disposition whether or not
it holds an entry in use, and that the freed slot's position keeps its phase and its order, with nothing done by the Index
Controller, are the model's readings (assumption 12). -/
def Obligations.LostPalletCellsAreRewrittenSafely : Prop :=
  ∀ (i : Nat) (p : Pallet) (s : State), s.Live → s.Quiet → i < 64 → s.rst.slots[i]? = some (some p) →
    let lost (js : List Nat) := s.rst.walk = ⟨.palletSlot, 17 * i + js.headD 0⟩ ∧
      s.rst.errors = js.map fun j => ((⟨.palletSlot, 17 * i + j⟩ : Cell), CellError.uncorrectable)
    let kept (t : State) := t.rst.errors = [] ∧ t.ixc = s.ixc ∧ t.btk = s.btk ∧ t.wlu = s.wlu ∧ t.ctm = s.ctm ∧ t.aar = s.aar ∧
      t.rst.schedule = s.rst.schedule ∧ t.rst.log = s.rst.log ∧ s.LinksKept t
    let becomes (q : Pallet) := ∃ t, exec (.scrubberRead []) s = .next t ∧ kept t ∧ t.rst.slots = s.rst.slots.set i (some q) ∧
      t.rst.positions = s.rst.positions ∧ t.rst.returnQueue = s.rst.returnQueue
    let doubt (d : Disposition) := d.raise .suspect
    (lost [0] → becomes { p with
      variants := 0#16, damaged := true, divert := true, clamps := match s.rst.geometry with | none => 65535 | some g => g.service }) ∧
    (lost [1] → becomes { p with workpiece := p.workpiece.map fun w => { w with disposition := .reject, serial := .lost } }) ∧
    (lost [2] → becomes { p with workpiece := p.workpiece.map fun w => { w with disposition := doubt w.disposition, serial := .lost } }) ∧
    (∀ h, h < 14 → lost [3 + h] → becomes { p with workpiece := p.workpiece.map fun w =>
      { w with disposition := doubt w.disposition, history := w.history.mapIdx fun n e => if n / 2 = h then .lost else e } }) ∧
    (∀ v, lost [1, 2] → ((1 ≤ v ∧ v ≤ 8 ∧ member p.variants v = true ∧ ∀ x, 1 ≤ x → x < v → member p.variants x = false) ∨
        (v = 1 ∧ ∀ x, 1 ≤ x → x ≤ 8 → member p.variants x = false)) →
      becomes { p with workpiece := some { serial := .lost, variant := v, disposition := .reject, pass := 2,
                                           history := match p.workpiece with | none => [] | some w => w.history } }) ∧
    (lost [0, 1, 2] → s.Shaped → ∃ t, exec (.scrubberRead []) s = .next t ∧ kept t ∧ t.rst.slots = s.rst.slots.set i none ∧
      t.rst.returnQueue = s.rst.returnQueue.filter (· != p.number) ∧
      t.rst.damages = countUp 65535 (countUp 65535 (countUp 65535 s.rst.damages)) ∧
      ∀ k, k < 16 → t.pos k = { s.pos k with
        occupant := if (s.pos k).occupant = .pallet p.number then .unknown else (s.pos k).occupant })

/-- R92, R162: a scrubber grant that finds a tracking cell or an order detail cell lost. The occupant becomes UNKNOWN, an ACTIVE
position goes to FAULT(STORE), which aborts a motion, and its order is withdrawn; a BYPASS position is IDLE; an UNUSED one EMPTY.
The order number and kind come from the other cell, and are 0 and NONE where both are lost. -/
def Obligations.LostPositionCellsAreRewrittenSafely : Prop :=
  ∀ (k : Nat) (s : State), s.Live → s.Quiet → s.Shaped → k < 16 →
    let p := s.pos k
    let d := s.detail k
    let lost (cs : List Cell) := s.rst.walk = ⟨.positionTracking, k⟩ ∧ s.rst.errors = cs.map fun c => (c, CellError.uncorrectable)
    let becomes (q : Position) (e : OrderDetail) := ∃ t, exec (.scrubberRead []) s = .next t ∧ t.pos k = q ∧ t.detail k = e ∧
      t.startTimer k = none ∧ (t.work k).running = none ∧ s.SameElsewhere t k ∧ t.rst.slots = s.rst.slots ∧ s.SameLists t ∧
      t.rst.errors = [] ∧ s.LinksKept t ∧
      (p.kind ≠ .unused → p.mode = .active → s.ixc.state.abortable = true → s.EntersFault t (.stationFault k) none) ∧
      (p.kind = .unused ∨ p.mode = .bypass ∨ s.ixc.state.abortable = false → t.ixc = s.ixc)
    let faulted (number : Nat) (kind : OrderKind) : Position := { p with
      occupant := .unknown, phase := .fault, faultCode := some .store, orderNumber := number, orderKind := kind, program := none
      instruction := none }
    let tracking : Cell := ⟨.positionTracking, k⟩
    let detail : Cell := ⟨.orderDetail, k⟩
    (lost [tracking] → p.kind ≠ .unused → p.mode = .active → becomes (faulted d.copyNumber d.copyKind)
      (if p.phase = .ordered ∨ p.phase = .working then { d with closing := .withdrawn } else d)) ∧
    (lost [tracking] → p.kind ≠ .unused → p.mode = .bypass → p.phase = .idle → becomes
      { p with occupant := .unknown, phase := .idle, faultCode := none, orderNumber := d.copyNumber, orderKind := .noOrder
               program := none, instruction := none } d) ∧
    (lost [tracking] → p.kind = .unused → becomes
      { p with occupant := .empty, phase := .idle, faultCode := none, orderNumber := d.copyNumber, orderKind := .noOrder
               program := none, instruction := none } d) ∧
    (lost [tracking, detail] → p.kind ≠ .unused → p.mode = .active → becomes (faulted 0 .noOrder)
      { copyNumber := 0, copyKind := .noOrder, closing := .noOrder, resultTaken := none, faultReport := none, faultCount := 0 }) ∧
    (s.rst.walk = detail → s.rst.errors = [(detail, .uncorrectable)] → ∃ t, exec (.scrubberRead []) s = .next t ∧
      t.detail k = { copyNumber := p.orderNumber, copyKind := p.orderKind, closing := if p.orderKind = .noOrder then .noOrder else .opened
                     resultTaken := none, faultReport := none, faultCount := 0 } ∧
      t.rst.positions = s.rst.positions ∧ t.rst.slots = s.rst.slots ∧ s.SameLists t ∧ t.rst.errors = [] ∧ t.ixc = s.ixc ∧
      t.ctm = s.ctm ∧ s.LinksKept t)

/-- R165, R162, R9: a scrubber grant that finds a geometry, transfer or position configuration cell lost. One geometry cell is
rewritten from the other; both together leave an unconfirmed geometry rebuilt from the positions' kinds, or none; a transfer
cell takes its defaults; a position is ACTIVE, not joined and without hold. After each repair COLLECT and a motion state enter
FAULT(CONFIG), ADVANCE remembers it, and HALT and FAULT stay. A learn record that the loss of both geometry cells finds HELD
becomes DISCARDED, in the states that keep the law of the record. That the rebuilt kinds are written into every position's
entry, the rest of it kept, is the model's reading (assumption 13). -/
def Obligations.LostSettingsEnterConfigFault : Prop :=
  ∀ s : State, s.Live → s.Quiet → s.Shaped →
    let lost (cs : List Cell) := cs.head? = some s.rst.walk ∧ s.rst.errors = cs.map fun c => (c, CellError.uncorrectable)
    let acts (t : State) := (s.ixc.state = .halt ∨ s.ixc.state = .fault → t.ixc = s.ixc) ∧
      (s.ixc.state = .advance → t.ixc = { s.ixc with configDue := true }) ∧
      (s.ixc.state = .collect ∨ s.ixc.state.moving = true → t.ixc.state = .fault ∧ t.ixc.motion = s.ixc.motion ∧
        t.liu.attentions.fault = some .config ∧ ∃ f, t.ixc.currentFault = some f ∧ f.cause = .config)
    let kept (t : State) := t.rst.errors = [] ∧ t.rst.slots = s.rst.slots ∧ t.rst.details = s.rst.details ∧ s.SameLists t ∧
      s.LinksKept t ∧ t.btk.counter = s.btk.counter
    let group (g : Geometry) (i : Nat) (y : Staged) : Staged := match i with
      | 0 => { y with target := g.place g.pitch, stopBand := 40, overtravel := (g.pitch : Int) / 20, sweepMargin := (g.pitch : Int) / 8 }
      | 1 => { y with bias := 0, minWidth := 100, driftLimit := 200, entryTolerance := 150 }
      | 2 => { y with homeTolerance := 50, extend := false, settleTime := 100, liftTimeout := 3000 }
      | _ => { y with carryTimeout := 8000, sweepTimeout := 60000, homeTimeout := 8000 }
    (∀ c, c < 2 → lost [⟨.geometry, c⟩] → ∃ t, exec (.scrubberRead []) s = .next t ∧ acts t ∧ kept t ∧
      t.rst.geometry = s.rst.geometry ∧ t.rst.unconfirmed = s.rst.unconfirmed ∧ t.rst.positions = s.rst.positions ∧
      t.rst.transfer = s.rst.transfer ∧ t.rst.windows = s.rst.windows) ∧
    (lost [⟨.geometry, 0⟩, ⟨.geometry, 1⟩] → (∀ k, k < 16 → (s.pos k).kind = .unused) → ∃ t, exec (.scrubberRead []) s = .next t ∧
      acts t ∧ kept t ∧ t.rst.geometry = none ∧ t.rst.positions = s.rst.positions ∧ t.rst.transfer = s.rst.transfer ∧
      t.rst.windows = s.rst.windows) ∧
    (lost [⟨.geometry, 0⟩, ⟨.geometry, 1⟩] → s.LearnUnheld → (∃ k, k < 16 ∧ (s.pos k).kind ≠ .unused) → ∃ t g,
      exec (.scrubberRead []) s = .next t ∧ acts t ∧ kept t ∧ t.rst.geometry = some g ∧ t.rst.unconfirmed = true ∧ g.pitch = 1000 ∧ g.resolution = 1 ∧ g.service = 20000 ∧
      3 ≤ g.count ∧ g.count ≤ 16 ∧ (∀ k, g.count ≤ k → k < 16 → (s.pos k).kind = .unused) ∧
      (3 < g.count → (s.pos (g.count - 1)).kind ≠ .unused) ∧
      (∀ k, k < 16 → t.pos k = { s.pos k with
        kind := if g.count ≤ k then .unused else if k = 0 then .load else if k + 1 = g.count then .unload
          else if (s.pos k).kind = .check then .check else .process }) ∧
      (∀ x, s.rst.transfer = some x → let refit (y : Staged) : Staged := { y with
          target := g.place 1000, overtravel := min (max y.overtravel 10) 250, sweepMargin := min (max y.sweepMargin 50) 250 }
        t.rst.transfer = some { x with pending := refit x.pending, working := refit x.working }) ∧
      (s.rst.windows.length = 15 → ∀ k, k ≤ 15 → t.window k = none) ∧
      t.wlu.record.state = (if s.wlu.record.state = .held then .discarded
        else if (s.ixc.state = .permit ∨ s.ixc.state = .carry ∨ s.ixc.state = .sweep) ∧ s.motionKind = some .learn then .aborted
        else s.wlu.record.state)) ∧
    (∀ i, i < 9 → lost [⟨.transfer, i⟩] → s.rst.geometry = none → ∃ t, exec (.scrubberRead []) s = .next t ∧ acts t ∧ kept t ∧
      t.rst.transfer = s.rst.transfer ∧ t.rst.positions = s.rst.positions) ∧
    (∀ i g x, i < 9 → lost [⟨.transfer, i⟩] → s.rst.geometry = some g → s.rst.transfer = some x →
      ∃ t, exec (.scrubberRead []) s = .next t ∧ acts t ∧ kept t ∧ t.rst.geometry = some g ∧ t.rst.positions = s.rst.positions ∧
      t.rst.transfer = some (if i < 4 then { x with pending := group g i x.pending }
        else if i < 8 then { x with working := group g (i - 4) x.working }
        else { x with startTimeout := 2000, budgetTolerance := 10 }) ∧
      (i < 8 → t.ctm = s.ctm) ∧
      (i = 8 → ∀ k, k < 16 → (t.startTimer k = if ∃ v, s.startTimer k = some v ∧ 2000 < v then none else s.startTimer k) ∧
        (t.work k).running = (s.work k).running ∧
        ((s.work k).running.isSome = true → (t.work k).limit = match (s.pos k).program with
          | some n => if (s.pos k).orderKind = .process ∨ (s.pos k).orderKind = .check then budgetLimit (some 10) (s.budget k n) else none
          | none => none))) ∧
    (∀ k, k < 16 → lost [⟨.positionConfig, k⟩] → ∃ t, exec (.scrubberRead []) s = .next t ∧ acts t ∧ kept t ∧
      t.pos k = { s.pos k with
        kind := (match s.rst.geometry with
          | none => .unused
          | some g => if g.count ≤ k then .unused else if k = 0 then .load else if k + 1 = g.count then .unload
            else match g.kinds.getD (k - 1) .process with | .process => .process | .check => .check)
        mode := .active, joined := none, hold := false } ∧
      (∀ j, j ≠ k → t.pos j = s.pos j) ∧ t.rst.geometry = s.rst.geometry ∧ t.rst.transfer = s.rst.transfer)

/-- R164, R98: a scrubber grant that finds a cell of the return queue, the load schedule or the completion log lost. A queue
place or a schedule entry goes and those behind it move up; a record stays in its place with its serial or two of its entries
LOST; with both headers lost it is numbered by its neighbour and its fields are LOST; a lost control cell is rebuilt from the
places. That a record with both headers lost has a LOST serial, and that the lost cell of an empty schedule raises no
SCHEDULE_EMPTY, are the model's readings (assumption 11). -/
def Obligations.LostListCellsAreRewrittenSafely : Prop :=
  ∀ s : State, s.Live → s.Quiet → s.rst.logHead < 32 → s.rst.log.length ≤ 32 →
    let lost (cs : List Cell) := cs.head? = some s.rst.walk ∧ s.rst.errors = cs.map fun c => (c, CellError.uncorrectable)
    let kept (t : State) := t.rst.errors = [] ∧ t.rst.slots = s.rst.slots ∧ t.rst.positions = s.rst.positions ∧
      t.rst.details = s.rst.details ∧ t.rst.geometry = s.rst.geometry ∧ t.rst.transfer = s.rst.transfer ∧ t.ixc = s.ixc ∧
      t.btk = s.btk ∧ t.wlu = s.wlu ∧ t.ctm = s.ctm ∧ t.aar = s.aar ∧ s.LinksKept t
    let lists (t : State) := t.rst.returnQueue = s.rst.returnQueue ∧ t.rst.schedule = s.rst.schedule
    let cell (place j : Nat) : Cell := ⟨.log, 1 + 17 * place + j⟩
    let forget (h : Nat) (c : CompletionRecord) : CompletionRecord :=
      { c with history := c.history.mapIdx fun n e => if n / 2 = h then .lost else e }
    let becomes (log : List CompletionRecord) (fetched : Option CompletionRecord) := ∃ t, exec (.scrubberRead []) s = .next t ∧ kept t ∧
      lists t ∧ t.rst.log = log ∧ t.rst.lastFetched = fetched ∧ t.rst.recordCounter = s.rst.recordCounter ∧ t.rst.logHead = s.rst.logHead
    (∀ i, i < 64 → lost [⟨.returnQueue, i⟩] → ∃ t, exec (.scrubberRead []) s = .next t ∧ kept t ∧
      t.rst.returnQueue = s.rst.returnQueue.eraseIdx i ∧ t.rst.schedule = s.rst.schedule ∧ t.rst.log = s.rst.log) ∧
    (∀ i, i < 32 → lost [⟨.schedule, i⟩] → ∃ t, exec (.scrubberRead []) s = .next t ∧ kept t ∧
      t.rst.schedule = s.rst.schedule.eraseIdx i ∧ t.rst.returnQueue = s.rst.returnQueue ∧ t.rst.log = s.rst.log ∧
      t.liu.attentions.scheduleEmpty = (s.liu.attentions.scheduleEmpty || (t.rst.schedule.isEmpty && !s.rst.schedule.isEmpty))) ∧
    (∀ i c, s.rst.log[i]? = some c → let place := (s.rst.logHead + i) % 32
      (∀ j, j < 3 → lost [cell place j] → becomes (s.rst.log.set i { c with serial := .lost }) s.rst.lastFetched) ∧
      (∀ h, h < 14 → lost [cell place (3 + h)] → becomes (s.rst.log.set i (forget h c)) s.rst.lastFetched) ∧
      (∀ n, lost [cell place 0, cell place 1] →
        (∃ j a, i = j + 1 ∧ s.rst.log[j]? = some a ∧ n = countUp 4294967295 a.number) ∨
        (∃ b, i = 0 ∧ s.rst.log[1]? = some b ∧ n = b.number - 1) ∨ (s.rst.log.length = 1 ∧ n = s.rst.recordCounter) →
        becomes (s.rst.log.set i { c with number := n, detail := none, serial := .lost }) s.rst.lastFetched)) ∧
    (∀ c, s.rst.lastFetched = some c →
      (∀ j, j < 3 → lost [cell 32 j] → becomes s.rst.log (some { c with serial := .lost })) ∧
      (∀ h, h < 14 → lost [cell 32 (3 + h)] → becomes s.rst.log (some (forget h c))) ∧
      (lost [cell 32 0, cell 32 1] → becomes s.rst.log (if s.rst.recordCounter ≤ s.rst.log.length then none
        else some { c with
          number := match s.rst.log with | [] => s.rst.recordCounter | b :: _ => b.number - 1
          detail := none, serial := .lost }))) ∧
    (lost [⟨.log, 0⟩] → ∃ t n, exec (.scrubberRead []) s = .next t ∧ kept t ∧ lists t ∧ t.rst.lastFetched = s.rst.lastFetched ∧
      t.rst.log = s.rst.log.drop n ++ s.rst.log.take n ∧ t.rst.logHead = (s.rst.logHead + n) % 32 ∧
      (∀ a b, t.rst.log.head? = some a → b ∈ s.rst.log → a.number ≤ b.number) ∧
      (∀ b, b ∈ s.rst.log ∨ s.rst.lastFetched = some b → b.number ≤ t.rst.recordCounter) ∧
      (t.rst.recordCounter = 0 ∨ ∃ b, (b ∈ s.rst.log ∨ s.rst.lastFetched = some b) ∧ b.number = t.rst.recordCounter))

/-! ### Links -/

/-- R181 to R183: a frame whose check fails is counted and dropped; one whose check holds is dropped, answered BUSY, refused, or put
into the link's slot as the command that it spells. -/
def Obligations.FrameIsRefusedOrTakesTheSlot : Prop :=
  ∀ (l : Link) (kind tag : Byte) (body : List Byte) (check : BitVec 16) (s : State), s.Live → s.liu.links.length = 18 →
    let whole := body.length ≤ 240 ∧ check = frameCheck kind tag body
    let full := 4 ≤ (s.link l).responses.length ∨ 3 ≤ (s.link l).responses.length ∧ (s.link l).slot.isSome = true
    let refused (r : Reason) := Host.Outcome.next (ρ := Refusal) (φ := Fault) (s.onLink l fun x =>
      { x with receiver := .hunting, responses := x.responses ++ [{ tag := tag, result := .refused r, data := [] }] })
    (¬whole ∨ full → exec (.frameReceived l kind tag body check) s = .next (s.onLink l fun x =>
      { x with receiver := .hunting, errorCount := countUp 65535 x.errorCount })) ∧
    (whole → ¬full → (s.link l).slot.isSome = true → exec (.frameReceived l kind tag body check) s = .next (s.onLink l fun x =>
      { x with receiver := .hunting, busyCount := countUp 65535 x.busyCount
               responses := x.responses ++ [{ tag := tag, result := .busy, data := [] }] })) ∧
    (whole → ¬full → (s.link l).slot = none →
      (kind.toNat = 0 ∨ 60 < kind.toNat → exec (.frameReceived l kind tag body check) s = refused .range) ∧
      (1 ≤ kind.toNat → kind.toNat ≤ 60 →
        let permitted := match l with
          | .sl _ => kind.toNat ≤ 24
          | .drvl => kind.toNat ≤ 16 ∨ 25 ≤ kind.toNat ∧ kind.toNat ≤ 28
          | .supl => kind.toNat ≤ 15 ∨ 29 ≤ kind.toNat
        (¬permitted → exec (.frameReceived l kind tag body check) s = refused .notPermitted) ∧
        (permitted → decodeRequest l kind tag body = none → exec (.frameReceived l kind tag body check) s = refused .range) ∧
        (∀ i, permitted → decodeRequest l kind tag body = some i → exec (.frameReceived l kind tag body check) s =
          .next (s.onLink l fun x => { x with receiver := .hunting, slot := some i }))))

/-- R181 and R182: what a character and a gap do to a receiver, up to the last byte of a frame. R185: when a frame has been sent,
the transmitter takes the response at the head of the queue, or else the unsolicited frame, or stays idle. -/
def Obligations.ReceiversAssembleAndTransmittersSend : Prop :=
  ∀ (l : Link) (s : State), s.Live → s.liu.links.length = 18 →
    let lost := Host.Outcome.next (ρ := Refusal) (φ := Fault) (s.onLink l fun x =>
      { x with receiver := .hunting, errorCount := countUp 65535 x.errorCount })
    ((s.link l).receiver = .hunting →
      exec (.receiveGapTimeout l) s = .next s ∧ exec (.characterReceived l none) s = .next s ∧
      (∀ b, b ≠ 165#8 → exec (.characterReceived l (some b)) s = .next s) ∧
      exec (.characterReceived l (some 165#8)) s = .next (s.onLink l fun x => { x with receiver := .inFrame [] })) ∧
    (∀ bs, (s.link l).receiver = .inFrame bs → exec (.receiveGapTimeout l) s = lost ∧ exec (.characterReceived l none) s = lost) ∧
    ((s.link l).receiver = .inFrame [] → ∀ b,
      (240 < b.toNat → exec (.characterReceived l (some b)) s = lost) ∧
      (b.toNat ≤ 240 → exec (.characterReceived l (some b)) s = .next (s.onLink l fun x => { x with receiver := .inFrame [b] }))) ∧
    (∀ n bs b, (s.link l).receiver = .inFrame (n :: bs) → n.toNat ≤ 240 → bs.length + 1 < n.toNat + 4 →
      exec (.characterReceived l (some b)) s = .next (s.onLink l fun x => { x with receiver := .inFrame (n :: bs ++ [b]) })) ∧
    (∀ n kind tag body (hi lo : Byte), (s.link l).receiver = .inFrame (n :: kind :: tag :: body ++ [hi]) → n.toNat ≤ 240 →
      body.length = n.toNat → exec (.characterReceived l (some lo)) s = exec (.frameReceived l kind tag body (hi ++ lo)) s) ∧
    (∀ r rs, (s.link l).responses = r :: rs → exec (.frameSent l) s =
      .next (s.onLink l fun x => { x with responses := rs, sending := some (.response r) })) ∧
    (∀ f, (s.link l).responses = [] → (s.link l).unsolicited = some f → exec (.frameSent l) s =
      .next (s.onLink l fun x => { x with unsolicited := none, sending := some (.unsolicited f) })) ∧
    ((s.link l).responses = [] → (s.link l).unsolicited = none → exec (.frameSent l) s =
      .next (s.onLink l fun x => { x with sending := none }))

/-- R183, request index 10.7: a request on a link that does not permit it is refused without a grant, with NOT_PERMITTED, or with
RANGE for the JOIN body of another kind of link, which is the model's reading of case 5 of R183 (assumption 19); nothing but the
response changes. -/
def Obligations.RequestsOnTheWrongLinkAreRefused : Prop :=
  ∀ (c : Instr) (p : Permit) (l : Link) (tag : Byte) (s : State), c.request = some (p, l, tag) → s.Live → s.Free l →
    let answer (r : Reason) := Host.Outcome.next (ρ := Refusal) (φ := Fault) (s.onLink l fun x =>
      { x with responses := x.responses ++ [{ tag := tag, result := .refused r, data := [] }] })
    (p = .supervisor → l ≠ .supl → exec c s = answer .notPermitted) ∧
    (p = .station → l.station = none → exec c s = answer .notPermitted) ∧
    (p = .drive → l ≠ .drvl → exec c s = answer .notPermitted) ∧
    (p = .stationJoin → l = .drvl → exec c s = answer .range) ∧
    (p = .driveJoin → l.station.isSome = true → exec c s = answer .range) ∧
    (p = .stationJoin ∨ p = .driveJoin → l = .supl → exec c s = answer .notPermitted)

/-! ### Reads -/

/-- R18, R39, R40, R71, R74, R85, R97, R101, R120, R126, R152, R167, R170, R176, R190: on every link and in every Index Controller
state a READ request is answered OK with its data, or refused for its argument, and changes nothing else. The layout of the
data rests on assumptions 6, 14 and 21, the limit that READ TARGET gives in ADVANCE and FAULT on assumption 31. -/
def Obligations.ReadsAnswerAndChangeNothingElse : Prop :=
  ∀ (l : Link) (tag : Byte) (s : State), s.Ready l →
    let answer (d : List Byte) := Host.Outcome.next (ρ := Refusal) (φ := Fault) (s.answered l tag .ok d)
    let refused (r : Reason) := Host.Outcome.next (ρ := Refusal) (φ := Fault) (s.answered l tag (.refused r) [])
    let at16 (c : Option Nat → Instr) (body : Option Nat → List Byte) :=
      exec (c none) s = answer (body none) ∧ (∀ k, k ≤ 15 → exec (c (some k)) s = answer (body (some k))) ∧
        ∀ k, 15 < k → exec (c (some k)) s = refused .range
    at16 (.readPosition l tag) s.positionBody ∧ at16 (.readOrder l tag) s.orderBody ∧ at16 (.readBudget l tag) s.budgetBody ∧
    at16 (.readTiming l tag) s.timingBody ∧
    exec (.readPallet l tag none) s = answer s.palletsBody ∧
    (∀ n, n = 0 ∨ 255 < n → exec (.readPallet l tag (some n)) s = refused .range) ∧
    (∀ n, 1 ≤ n → n ≤ 255 → s.pallet n = none → exec (.readPallet l tag (some n)) s = refused .unknownPallet) ∧
    (∀ n p, 1 ≤ n → n ≤ 255 → s.pallet n = some p → exec (.readPallet l tag (some n)) s = answer (s.palletBody p)) ∧
    (∀ v k, (∃ x, v = some x ∧ (x = 0 ∨ 8 < x)) ∨ (∃ x, k = some x ∧ 15 < x) → exec (.readRouting l tag v k) s = refused .range) ∧
    (∀ v k, (∀ x, v = some x → 1 ≤ x ∧ x ≤ 8) → (∀ x, k = some x → x ≤ 15) →
      exec (.readRouting l tag v k) s = answer (s.routingBody v k)) ∧
    exec (.readIndex l tag) s = answer s.indexBody ∧ exec (.readReturn l tag) s = answer s.returnBody ∧
    exec (.readSchedule l tag) s = answer s.scheduleBody ∧ exec (.readCompletion l tag) s = answer s.completionBody ∧
    exec (.readTarget l tag) s = answer s.targetBody ∧ exec (.readLearn l tag) s = answer s.learnBody ∧
    exec (.readStatus l tag) s = answer s.statusReply ∧
    exec (.readStore l tag) s = answer { s with aar := { s.aar with pointer := l.next } }.storeBody ∧
    exec (.readLinks l tag) s = answer (s.onLink l fun x => { x with slot := some (.readLinks l tag) }).linksBody

/-! ### Membership and holds -/

/-- R88, R89 and R194: a taken JOIN sets the joined field, keeps hold, mode, occupant and order number, ends an outstanding
order of an ACTIVE position and stops its timer, posts the ORDER frame, and with self-test FAIL puts an ACTIVE position into
FAULT(SELF_TEST), which aborts a motion; the refusals come in their order. -/
def Obligations.JoinTakesTheStation : Prop :=
  ∀ (k : Fin 16) (tag : Byte) (programs : Mask) (test : Option SelfTest) (s : State), s.Ready (.sl k) →
    let l := Link.sl k
    let c := Instr.join l tag programs test
    (s.rst.geometry = none → exec c s = .next (s.answered l tag (.refused .geometryAbsent) [])) ∧
    (s.rst.geometry.isSome = true → s.unused k.val = true → exec c s = .next (s.answered l tag (.refused .notInLine) [])) ∧
    (s.rst.geometry.isSome = true → s.unused k.val = false → member programs 0 = true ∨ test = none →
      exec c s = .next (s.answered l tag (.refused .range) [])) ∧
    (∀ x, s.rst.geometry.isSome = true → s.unused k.val = false → member programs 0 = false → test = some x → s.Shaped →
      ∃ t data, exec c s = .next t ∧ s.Answered t l tag .ok data ∧
      t.pos k.val = { s.pos k.val with
        joined := some { programs := programs, selfTest := x }
        phase := (match (s.pos k.val).mode, x with
          | .bypass, _ => (s.pos k.val).phase
          | .active, .fail => .fault
          | .active, .pass => match (s.pos k.val).phase with
            | .idle => .idle
            | .ordered | .working | .done => .done
            | .fault => if (s.pos k.val).orderKind = .noOrder then .idle else .done)
        faultCode := (match (s.pos k.val).mode, x with
          | .bypass, _ => (s.pos k.val).faultCode
          | .active, .fail => some .selfTest
          | .active, .pass => none) } ∧
      t.detail k.val = (if (s.pos k.val).mode = .active then (s.detail k.val).afterCancel (s.pos k.val).phase else s.detail k.val) ∧
      (∀ n, t.pallet n = if (s.pos k.val).mode = .active then s.afterCancel k.val n else s.pallet n) ∧
      ((s.pos k.val).mode = .active → (s.pos k.val).phase = .ordered → t.startTimer k.val = none) ∧
      ((s.pos k.val).mode = .active → (s.pos k.val).phase = .working → (t.work k.val).running = none) ∧
      (t.link l).unsolicited = some (.order (t.orderFrame k.val)) ∧ s.SameElsewhere t k.val ∧ s.SameTables t ∧ s.SameLists t ∧
      ((s.pos k.val).mode = .active → x = .fail → s.ixc.state.abortable = true → s.EntersFault t (.stationFault k.val) none) ∧
      (¬(s.onPos k.val fun _ => t.pos k.val).Released →
        ((s.pos k.val).mode = .active → x = .fail → s.ixc.state.abortable = false) → s.SameMotion t))

/-- R195: LEAVE is refused in the order of its checks, and in IDLE, DONE and FAULT clears the joined field and the hold and nothing
else. R70: HOLD sets the hold of an ACTIVE position and leaves that of a BYPASS position clear; UNHOLD clears it, and completes no
collection unless it leaves every condition of R46 met. -/
def Obligations.LeaveAndHoldsWriteTheMembership : Prop :=
  ∀ (k : Fin 16) (tag : Byte) (s : State), s.Ready (.sl k) →
    let l := Link.sl k
    let refused (r : Reason) := Host.Outcome.next (ρ := Refusal) (φ := Fault) (s.answered l tag (.refused r) [])
    (s.unused k.val = true → exec (.leave l tag) s = refused .notInLine) ∧
    (s.unused k.val = false → (s.pos k.val).joined = none → exec (.leave l tag) s = refused .notJoined) ∧
    (s.Member k.val → (s.pos k.val).phase = .ordered ∨ (s.pos k.val).phase = .working → exec (.leave l tag) s = refused .wrongState) ∧
    (s.Member k.val → (s.pos k.val).phase = .idle ∨ (s.pos k.val).phase = .done ∨ (s.pos k.val).phase = .fault →
      exec (.leave l tag) s = .next ((s.onPos k.val fun p => { p with joined := none, hold := false }).answered l tag .ok [])) ∧
    (s.unused k.val = true → exec (.hold l tag) s = refused .notInLine ∧ exec (.unhold l tag) s = refused .notInLine) ∧
    (s.unused k.val = false → (s.pos k.val).joined = none →
      exec (.hold l tag) s = refused .notJoined ∧ exec (.unhold l tag) s = refused .notJoined) ∧
    (s.Member k.val → (s.pos k.val).mode = .active →
      exec (.hold l tag) s = .next ((s.onPos k.val fun p => { p with hold := true }).answered l tag .ok [])) ∧
    (s.Member k.val → (s.pos k.val).mode = .bypass → exec (.hold l tag) s = .next (s.answered l tag .ok [])) ∧
    (s.Member k.val → let u := s.onPos k.val fun p => { p with hold := false }
      ¬u.Released → exec (.unhold l tag) s = .next (u.answered l tag .ok []))

/-- R46 to R48, R9, R127, R132, R139, R175: where the last of the six conditions is met by UNHOLD, RELEASE LINE, INDEX, the end of
LINE STOP, a CLEAR, RECOVERED, an ARRIVED without pallet, the JOIN of a station, SET MODE, the rising edge of HOME or the end of a
BACK motion, that command enters PERMIT with the motion of R48, clears INDEX pending and the learn-armed flag, counts the gating
source of its class and starts the index timer. A counter that is saturated, or in overtravel already, aborts the motion in the
same event (R122, R129). That the rising edge of HOME re-references the counter before these tests is the model's reading
(assumption 25). (RUN and the drive's reports have statements of their own; the advance leaves position 0 ORDERED and completes no
collection.) -/
def Obligations.CollectionEntersPermit : Prop :=
  ∀ s : State, s.Shaped → s.liu.links.length = 18 →
    let kind : MotionKind := if s.ixc.learnArmed then .learn else .index
    let begins (u t : State) (g : Gate) := u.BeginsMotion t kind s.palletMask ∧ t.ixc.indexPending = false ∧ t.ixc.learnArmed = false ∧
      t.ixc.haltRequested = s.ixc.haltRequested ∧ t.ctm.indexTimer = some 0 ∧ t.ctm.lastGate = some (g, s.ctm.clock) ∧ s.SameLists t
    let starts (t : State) (g : Gate) (saturated : Bool) (count : Int) := t.ixc.indexPending = false ∧
      (saturated = false ∧ s.WithinLimit kind count → t.ixc.state = .permit ∧ t.liftPermit = true) ∧
      (¬(saturated = false ∧ s.WithinLimit kind count) → t.ixc.state = .fault ∧ t.liftPermit = false ∧
        ∃ x, (x = .encoderRange ∧ saturated = true ∨ x = .overtravel ∧ ¬s.WithinLimit kind count) ∧
          t.liu.attentions.fault = some x ∧
          t.ixc.currentFault = some { cause := x, check := none, kind := some kind, stamp := s.ctm.clock }) ∧
      t.ixc.motion = some { kind := kind, origin := s.palletMask, target := s.sentTo kind, sample := none } ∧
      t.ixc.learnArmed = false ∧ t.rst.transfer = s.rst.transfer.map (fun x => { x with working := x.pending }) ∧
      t.ctm.indexTimer = some 0 ∧ t.ctm.lastGate = some (g, s.ctm.clock)
    let started (t : State) (g : Gate) := starts t g s.btk.saturated s.btk.counter
    let counted (t : State) (k : Nat) := started t (.position k) ∧ (t.stats k).gating = countUp 65535 (s.stats k).gating
    (∀ (k : Fin 16) (tag : Byte), s.Ready (.sl k) → s.Member k.val → (s.onPos k.val fun p => { p with hold := false }).Released →
      ∃ t, exec (.unhold (.sl k) tag) s = .next t ∧ s.Answered t (.sl k) tag .ok [] ∧
        begins (s.onPos k.val fun p => { p with hold := false }) t (.position k.val) ∧
        (t.stats k.val).gating = countUp 65535 (s.stats k.val).gating) ∧
    (∀ tag, s.Ready .supl → (s.onIxc fun i => { i with lineHold := false }).Released →
      ∃ t, exec (.releaseLine .supl tag) s = .next t ∧ s.Answered t .supl tag .ok [] ∧ begins s t .supervisor ∧ t.ixc.lineHold = false ∧
        t.ctm.gateSupervisor = countUp 65535 s.ctm.gateSupervisor) ∧
    (∀ tag, s.Ready .supl → s.ixc.runMode = .step → (s.onIxc fun i => { i with indexPending := true }).Released →
      ∃ t data, exec (.index .supl tag) s = .next t ∧ s.Answered t .supl tag .accepted data ∧ begins s t .supervisor ∧
        t.ctm.gateSupervisor = countUp 65535 s.ctm.gateSupervisor) ∧
    (s.Live → s.pins.lineStop = true → (s.onPins fun p => { p with lineStop := false }).Released →
      ∃ t, exec .lineStopInactive s = .next t ∧ s.LinksKept t ∧ begins s t .stop ∧ t.ctm.gateStop = countUp 65535 s.ctm.gateStop) ∧
    (∀ (k : Fin 16) (c : Instr) (tag : Byte) (o : Nat) (t : State), s.Ready (.sl k) → c.report = some (k, tag, o) → s.Reports k.val o →
      (s.pos k.val).phase = .working → exec c s = .next t → (t.pos k.val).phase = .done →
      (s.onPos k.val fun p => { p with phase := .done }).Released → counted t k.val) ∧
    (∀ (k : Fin 16) (tag : Byte), s.Ready (.sl k) → s.Member k.val → (s.pos k.val).phase = .fault →
      (s.pos k.val).faultCode ≠ some .selfTest → (s.onPos k.val fun p => { p with phase := .done, faultCode := none }).Released →
      ∃ t, exec (.recovered (.sl k) tag) s = .next t ∧ s.Answered t (.sl k) tag .ok [] ∧ counted t k.val) ∧
    (∀ (k : Fin 16) (tag : Byte) (o : Nat), s.Ready (.sl k) → s.Reports k.val o → (s.pos k.val).orderKind = .feed →
      (s.pos k.val).phase = .ordered → (s.onPos k.val fun p => { p with phase := .done }).Released →
      ∃ t, exec (.arrivedNoPallet (.sl k) tag o) s = .next t ∧ s.Answered t (.sl k) tag .ok [] ∧ counted t k.val) ∧
    (∀ (k : Fin 16) (tag : Byte) (programs : Mask), s.Ready (.sl k) → s.rst.geometry.isSome = true → s.unused k.val = false →
      member programs 0 = false → (s.pos k.val).mode = .active →
      (s.onPos k.val fun p => { p with joined := some { programs := programs, selfTest := .pass }, phase := .done }).Released →
      ∃ t data, exec (.join (.sl k) tag programs (some .pass)) s = .next t ∧ s.Answered t (.sl k) tag .ok data ∧ counted t k.val) ∧
    (∀ (k : Nat) (m : Mode) (tag : Byte), s.Ready .supl → k ≤ 15 → s.rst.geometry.isSome = true →
      (s.pos k).kind = .process ∨ (s.pos k).kind = .check → (s.pos k).mode ≠ m →
      (s.onPos k fun p => { p with mode := m, phase := .idle, hold := if m = .bypass then false else p.hold }).Released →
      ∃ t, exec (.setMode .supl tag k (some m)) s = .next t ∧ s.Answered t .supl tag .ok [] ∧ started t .supervisor ∧
        t.ctm.gateSupervisor = countUp 65535 s.ctm.gateSupervisor) ∧
    (s.Live → s.pins.home = false → (s.onPins fun p => { p with home := true }).Released →
      ∃ t, exec .homeRising s = .next t ∧ starts t .home false 0 ∧ t.btk.counter = 0 ∧ t.ctm.gateHome = countUp 65535 s.ctm.gateHome) ∧
    (∀ m, s.Live → s.ixc.state = .settle → s.ixc.settleTimer.isSome = true → s.ixc.motion = some m → m.kind = .back →
      ((m.sample.getD 0).natAbs : Int) ≤ s.working.stopBand →
      (∀ k, k < 16 → k < s.count → (member m.origin k = true ↔ member s.pins.ip k = true)) → s.ixc.haltRequested = false →
      s.ixc.configDue = false → (s.onIxc fun i => { i with state := .collect }).Released →
      ∃ t, exec .settleEnd s = .next t ∧ started t .drive ∧ t.ctm.gateDrive = countUp 65535 s.ctm.gateDrive)

/-! ### Reports of a station -/

/-- R79 and R103: the checks of a START, CLEAR, ARRIVED, STATION FAULT and RECOVERED in their order; the first that holds decides
the refusal, and a refused report changes nothing but its answer. -/
def Obligations.ReportsAreCheckedInOrder : Prop :=
  ∀ (k : Fin 16) (tag : Byte) (s : State), s.Ready (.sl k) →
    let refused (r : Reason) := Host.Outcome.next (ρ := Refusal) (φ := Fault) (s.answered (.sl k) tag (.refused r) [])
    (∀ c o, c.report = some (k, tag, o) →
      (s.unused k.val = true → exec c s = refused .notInLine) ∧
      (s.unused k.val = false → (s.pos k.val).joined = none → exec c s = refused .notJoined) ∧
      (s.Member k.val → 255 < o → exec c s = refused .range) ∧
      (s.Member k.val → o ≤ 255 → o ≠ (s.pos k.val).orderNumber → exec c s = refused .staleOrder)) ∧
    (∀ o, (s.unused k.val = true → exec (.clear (.sl k) tag o none) s = refused .notInLine) ∧
      (s.unused k.val = false → (s.pos k.val).joined = none → exec (.clear (.sl k) tag o none) s = refused .notJoined) ∧
      (s.Member k.val → exec (.clear (.sl k) tag o none) s = refused .range)) ∧
    (∀ o n, 255 < n → (s.unused k.val = true → exec (.arrived (.sl k) tag o n) s = refused .notInLine) ∧
      (s.unused k.val = false → (s.pos k.val).joined = none → exec (.arrived (.sl k) tag o n) s = refused .notJoined) ∧
      (s.Member k.val → exec (.arrived (.sl k) tag o n) s = refused .range)) ∧
    (∀ code, (s.unused k.val = true → exec (.stationFault (.sl k) tag code) s = refused .notInLine) ∧
      (s.unused k.val = false → (s.pos k.val).joined = none → exec (.stationFault (.sl k) tag code) s = refused .notJoined) ∧
      (s.Member k.val → code = 0 ∨ 255 < code → exec (.stationFault (.sl k) tag code) s = refused .range)) ∧
    (s.unused k.val = true → exec (.recovered (.sl k) tag) s = refused .notInLine) ∧
    (s.unused k.val = false → (s.pos k.val).joined = none → exec (.recovered (.sl k) tag) s = refused .notJoined)

/-- R80: START takes an ORDERED order that is not FEED to WORKING, stops the start timer, starts the work timer with its limit
(R171), and counts a clamp of the occupant for PROCESS and CHECK; otherwise it is refused with WRONG_STATE. -/
def Obligations.StartTakesUpTheOrder : Prop :=
  ∀ (k : Fin 16) (tag : Byte) (o : Nat) (s : State), s.Ready (.sl k) → s.Reports k.val o →
    let l := Link.sl k
    let p := s.pos k.val
    let timed := p.orderKind = .process ∨ p.orderKind = .check ∨ p.orderKind = .load ∨ p.orderKind = .unload
    let worked := p.orderKind = .process ∨ p.orderKind = .check
    (¬(p.phase = .ordered ∧ timed) → exec (.start l tag o) s = .next (s.answered l tag (.refused .wrongState) [])) ∧
    (p.phase = .ordered → timed → s.Shaped → ∃ t, exec (.start l tag o) s = .next t ∧ s.Answered t l tag .ok [] ∧
      t.pos k.val = { p with phase := .working } ∧ t.detail k.val = s.detail k.val ∧ t.startTimer k.val = none ∧
      t.work k.val = WorkTimer.mk (some 0) (match p.program with
        | some g => if worked then budgetLimit s.tolerance (s.budget k.val g) else none
        | none => none) false ∧
      (∀ n, t.pallet n = if worked ∧ s.palletAt k.val = some n then (s.pallet n).map fun q => { q with clamps := countUp 65535 q.clamps }
        else s.pallet n) ∧
      s.SameElsewhere t k.val ∧ s.SameTables t ∧ s.SameLists t ∧ s.SameMotion t ∧ t.liu.attentions = s.liu.attentions)

/-- R81: a CLEAR of a PROCESS or CHECK order with a fitting result records the result and its work time for the occupant's workpiece
(R29, R32) and ends the order; a result that does not fit is refused with RANGE. -/
def Obligations.ClearRecordsTheResult : Prop :=
  ∀ (k : Fin 16) (tag : Byte) (o : Nat) (r : PlainResult) (s : State), s.Ready (.sl k) → s.Reports k.val o →
    (s.pos k.val).phase = .working →
    let l := Link.sl k
    let fit : Option HistoryResult := match (s.pos k.val).orderKind, r with
      | .process, .done => some .done | .process, .incomplete => some .incomplete | .process, .scrapped => some .scrapped
      | .check, .passed => some .passed | .check, .failed => some .failed | _, _ => none
    (fit = none → exec (.clear l tag o (some r)) s = .next (s.answered l tag (.refused .range) [])) ∧
    (∀ h, fit = some h → s.Shaped → ∃ t, exec (.clear l tag o (some r)) s = .next t ∧ s.Answered t l tag .ok [] ∧
      s.OrderEnded t k.val (plainResult r) ∧ s.SameLists t ∧
      (∀ n, t.pallet n = if s.palletAt k.val = some n then
        (s.pallet n).map fun p => { p with
          workpiece := p.workpiece.map fun w =>
            w.record k.val ((s.pos k.val).program.getD 0) h (some ((s.work k.val).running.getD 0)) } else s.pallet n))

/-- R82, R81 and R104: in DONE a CLEAR with the result taken is answered OK and changes nothing, any other, and every CLEAR that
names NO_PALLET, is refused with WRONG_STATE; in IDLE, ORDERED and FAULT every CLEAR is refused with WRONG_STATE. The data of a
repeated LOADED are laid out by assumption 14. -/
def Obligations.RepeatedClearChangesNothing : Prop :=
  ∀ (k : Fin 16) (tag : Byte) (o : Nat) (s : State), s.Ready (.sl k) → s.Reports k.val o →
    let l := Link.sl k
    let settled (c : Instr) (r : Result) (data : List Byte) :=
      ((s.pos k.val).phase = .done → exec c s = .next (if (s.detail k.val).resultTaken = some r then s.answered l tag .ok data
        else s.answered l tag (.refused .wrongState) [])) ∧
      ((s.pos k.val).phase = .idle ∨ (s.pos k.val).phase = .ordered ∨ (s.pos k.val).phase = .fault →
        exec c s = .next (s.answered l tag (.refused .wrongState) []))
    (∀ r, r ≠ .noPallet → settled (.clear l tag o (some r)) (plainResult r) []) ∧
    ((s.pos k.val).phase ≠ .working → exec (.clear l tag o (some .noPallet)) s = .next (s.answered l tag (.refused .wrongState) [])) ∧
    (∀ cs, settled (.clearLoaded l tag o cs) (.loaded cs) s.headBytes) ∧ settled (.clearReady l tag o) .ready [] ∧
    settled (.clearEmpty l tag o) .empty [] ∧ settled (.clearRemoved l tag o) .removed [] ∧
    settled (.clearUnloaded l tag o) .unloaded [] ∧ settled (.clearKept l tag o) .kept [] ∧ settled (.clearStuck l tag o) .stuck []

/-- R29 and R32: what recording a result does to a workpiece: one entry at the tail, unless one names the position and pass or the
history holds 28; and the disposition raised in every case. -/
def Obligations.ResultsAreRecordedOncePerPass : Prop :=
  ∀ (w : Workpiece) (k g : Nat) (r : HistoryResult) (v : Option Nat),
    let named := ∃ g' r' v', HistoryEntry.outcome k g' w.pass r' v' ∈ w.history
    ((w.record k g r v).history = w.history ∨ (w.record k g r v).history = w.history ++ [.outcome k g w.pass r v]) ∧
    ((w.record k g r v).history = w.history ↔ named ∨ 28 ≤ w.history.length) ∧
    (w.history.length ≤ 28 → (w.record k g r v).history.length ≤ 28) ∧
    w.disposition.severity ≤ (w.record k g r v).disposition.severity ∧
    (w.record k g r v).serial = w.serial ∧ (w.record k g r v).variant = w.variant ∧ (w.record k g r v).pass = w.pass ∧
    (w.record k g r v).disposition.severity = max w.disposition.severity
      (match r with
        | .done | .passed => 0
        | .incomplete | .missed => if w.pass = 1 then 1 else 3
        | .scrapped | .failed => 3
        | .abandoned => 2)

/-- R107 to R109: LOADED under LOAD(v) is refused for a serial that is not valid, for a variant outside the pallet's mask and for a
pallet that carries a workpiece; taken, it puts the new block on the pallet, SUSPECT with DUPLICATE_SERIAL if another live workpiece
carries its serial, lowers a head entry of variant v, and ends the order. That RANGE, for the serial or the mask, comes before
WRONG_STATE is the model's order (assumption 29); the data of the response are laid out by assumption 14. -/
def Obligations.LoadedCreatesTheWorkpiece : Prop :=
  ∀ (k : Fin 16) (tag : Byte) (o v n : Nat) (cs : List Byte) (p : Pallet) (s : State), s.Ready (.sl k) → s.Reports k.val o →
    (s.pos k.val).phase = .working → (s.pos k.val).orderKind = .load → (s.pos k.val).instruction = some (.load v) →
    s.palletAt k.val = some n → s.pallet n = some p →
    let l := Link.sl k
    (validSerial cs = false ∨ member p.variants v = false →
      exec (.clearLoaded l tag o cs) s = .next (s.answered l tag (.refused .range) [])) ∧
    (validSerial cs = true → member p.variants v = true → p.workpiece.isSome = true →
      exec (.clearLoaded l tag o cs) s = .next (s.answered l tag (.refused .wrongState) [])) ∧
    (validSerial cs = true → member p.variants v = true → p.workpiece = none → s.Shaped →
      ∃ t, exec (.clearLoaded l tag o cs) s = .next t ∧ s.Answered t l tag .ok t.headBytes ∧ s.OrderEnded t k.val (.loaded cs) ∧
      (let w : Workpiece := { serial := .text cs, variant := v, pass := 1, history := []
                              disposition := if s.serialTaken n cs then .suspect else .good }
       ∀ m, t.pallet m = if m = n then some { p with workpiece := some w } else s.pallet m) ∧
      t.liu.attentions.duplicateSerial = (if s.serialTaken n cs then some n else s.liu.attentions.duplicateSerial) ∧
      t.rst.schedule = (match s.rst.schedule with
        | [] => []
        | e :: es => if e.variant = v then (if e.quantity ≤ 1 then es else { e with quantity := e.quantity - 1 } :: es) else e :: es) ∧
      t.liu.attentions.scheduleEmpty = (s.liu.attentions.scheduleEmpty || (t.rst.schedule.isEmpty && !s.rst.schedule.isEmpty)) ∧
      t.rst.returnQueue = s.rst.returnQueue ∧ t.rst.log = s.rst.log)

/-- R110, R111, R115 with R107 and R114: READY under PASS_TWO, EMPTY under LOAD and EMPTY, KEPT in the lanes KEEP and NONE, and
STUCK in every lane end the order; READY opens the second pass, EMPTY and KEPT change no record, STUCK sets the divert flag and
raises the workpiece to SUSPECT. A result that does not fit is refused with RANGE, and so are LOADED outside LOAD(v), REMOVED
outside REMOVE, and UNLOADED outside the lanes SHIP and REJECT. -/
def Obligations.LoadAndUnloadResultsEndTheOrder : Prop :=
  ∀ (k : Fin 16) (tag : Byte) (o : Nat) (s : State), s.Ready (.sl k) → s.Reports k.val o → s.Shaped → (s.pos k.val).phase = .working →
    let l := Link.sl k
    let p := s.pos k.val
    let ends (c : Instr) (r : Result) (f : Pallet → Pallet) := ∃ t, exec c s = .next t ∧ s.Answered t l tag .ok [] ∧
      s.OrderEnded t k.val r ∧ s.SameLists t ∧ (∀ n, t.pallet n = if s.palletAt k.val = some n then (s.pallet n).map f else s.pallet n)
    let unfit (c : Instr) := exec c s = .next (s.answered l tag (.refused .range) [])
    let loading := p.orderKind = .load
    let kept := p.orderKind = .unload ∧ ∃ r, p.instruction = some (.unload .keep r) ∨ p.instruction = some (.unload .noLane r)
    let unloading := p.orderKind = .unload ∧ ∃ x r, p.instruction = some (.unload x r)
    let empties := loading ∧ ((∃ v, p.instruction = some (.load v)) ∨ ∃ e, p.instruction = some (.empty e))
    (loading → p.instruction = some .passTwo → ends (.clearReady l tag o) .ready fun q => { q with workpiece := q.workpiece.map fun w =>
      { w with pass := 2, disposition := if w.disposition = .rework then .good else w.disposition } }) ∧
    (¬(loading ∧ p.instruction = some .passTwo) → unfit (.clearReady l tag o)) ∧
    (empties → ends (.clearEmpty l tag o) .empty id) ∧ (¬empties → unfit (.clearEmpty l tag o)) ∧
    (kept → ends (.clearKept l tag o) .kept id) ∧ (¬kept → unfit (.clearKept l tag o)) ∧
    (unloading → ends (.clearStuck l tag o) .stuck fun q => { q with
      divert := true, workpiece := q.workpiece.map fun w => { w with disposition := w.disposition.raise .suspect } }) ∧
    (¬unloading → unfit (.clearStuck l tag o)) ∧
    (¬(loading ∧ ∃ v, p.instruction = some (.load v)) → ∀ cs, unfit (.clearLoaded l tag o cs)) ∧
    (¬(loading ∧ p.instruction = some .remove) → unfit (.clearRemoved l tag o)) ∧
    (¬(p.orderKind = .unload ∧ ∃ r, p.instruction = some (.unload .ship r) ∨ p.instruction = some (.unload .reject r)) →
      unfit (.clearUnloaded l tag o))

/-- R112, R114, R118: REMOVED under REMOVE and UNLOADED in the lanes SHIP and REJECT add a completion record of the workpiece as it
stands at the tail of the log, detach the workpiece and end the order; while the log holds 32 records they are refused with
LOG_FULL, which only raises the attention. -/
def Obligations.CompletionRecordIsAddedOrRefused : Prop :=
  ∀ (k : Fin 16) (tag : Byte) (o n : Nat) (lane : LogLane) (c : Instr) (r : Result) (p : Pallet) (w : Workpiece) (s : State),
    s.Ready (.sl k) → s.Reports k.val o → (s.pos k.val).phase = .working → s.palletAt k.val = some n → s.pallet n = some p →
    p.workpiece = some w →
    (c = .clearRemoved (.sl k) tag o ∧ r = .removed ∧ lane = .removedAtLoad ∧ (s.pos k.val).orderKind = .load ∧
      (s.pos k.val).instruction = some .remove) ∨
    (c = .clearUnloaded (.sl k) tag o ∧ r = .unloaded ∧ (s.pos k.val).orderKind = .unload ∧ ∃ route,
      (lane = .ship ∧ (s.pos k.val).instruction = some (.unload .ship route)) ∨
      (lane = .reject ∧ (s.pos k.val).instruction = some (.unload .reject route))) →
    let l := Link.sl k
    (32 ≤ s.rst.log.length → exec c s = .next (s.replied
      { s with liu := { s.liu with attentions := { s.liu.attentions with logFull := some k.val } } } l tag (.refused .logFull) [])) ∧
    (s.rst.log.length < 32 → s.Shaped → ∃ t, exec c s = .next t ∧ s.Answered t l tag .ok [] ∧ s.OrderEnded t k.val r ∧
      t.rst.log = s.rst.log ++ [{ number := countUp 4294967295 s.rst.recordCounter
                                  detail := some { lane := lane, pallet := n, variant := w.variant, disposition := w.disposition,
                                                   passes := w.pass, stamp := s.ctm.clock }
                                  serial := w.serial, history := w.history }] ∧
      t.rst.recordCounter = countUp 4294967295 s.rst.recordCounter ∧ t.rst.returnQueue = s.rst.returnQueue ∧
      t.rst.schedule = s.rst.schedule ∧ t.logPending = true ∧
      (∀ m, t.pallet m = if m = n then some { p with workpiece := none } else s.pallet m))

/-- R83: STATION FAULT keeps the report and counts it; an ACTIVE position goes to FAULT with the station's code unless it is in
FAULT already, an outstanding order is cancelled and its timer stopped, and a motion or a pending advance is aborted. R84: RECOVERED
takes a position from FAULT to DONE or IDLE by its order kind; with fault code SELF_TEST, and in any other phase, it is refused with
WRONG_STATE. -/
def Obligations.StationFaultIsEnteredAndLeft : Prop :=
  ∀ (k : Fin 16) (tag : Byte) (code : Nat) (s : State), s.Ready (.sl k) → s.Member k.val → s.Shaped →
    let l := Link.sl k
    let p := s.pos k.val
    let faults := p.mode = .active ∧ p.phase ≠ .fault
    (1 ≤ code → code ≤ 255 → ∃ t, exec (.stationFault l tag code) s = .next t ∧ s.Answered t l tag .ok [] ∧
      t.pos k.val = (if p.mode = .active ∧ p.phase ≠ .fault then { p with phase := .fault, faultCode := some (.station code) } else p) ∧
      t.detail k.val = { (if p.mode = .active then (s.detail k.val).afterCancel p.phase else s.detail k.val) with
        faultReport := some (code, s.ctm.clock), faultCount := countUp 65535 (s.detail k.val).faultCount } ∧
      (∀ n, t.pallet n = if p.mode = .active then s.afterCancel k.val n else s.pallet n) ∧
      (p.mode = .active → p.phase = .ordered → t.startTimer k.val = none) ∧
      (p.mode = .active → p.phase = .working → (t.work k.val).running = none) ∧
      s.SameElsewhere t k.val ∧ s.SameTables t ∧ s.SameLists t ∧
      (faults → s.ixc.state.abortable = true → s.EntersFault t (.stationFault k.val) none) ∧
      (¬faults ∨ s.ixc.state.abortable = false → s.SameMotion t)) ∧
    (p.phase ≠ .fault ∨ p.faultCode = some .selfTest →
      exec (.recovered l tag) s = .next (s.answered l tag (.refused .wrongState) [])) ∧
    (p.phase = .fault → p.faultCode ≠ some .selfTest → ∃ t, exec (.recovered l tag) s = .next t ∧ s.Answered t l tag .ok [] ∧
      t.pos k.val = { p with phase := if p.orderKind = .noOrder then .idle else .done, faultCode := none } ∧
      t.detail k.val = s.detail k.val ∧ s.SameElsewhere t k.val ∧ t.rst.slots = s.rst.slots ∧ s.SameTables t ∧ s.SameLists t ∧
      (¬(s.onPos k.val fun _ => t.pos k.val).Released → s.SameMotion t))

/-- R103 to R106: an ARRIVED for a FEED order is accepted with a registered pallet that stands at no position: the pallet leaves its
place in the return queue (behind the head with ORDER_SLIP), becomes the occupant, and a LOAD order with the next number is issued
and posted, with SCHEDULE_EMPTY or FIXTURE_MISMATCH raised where R106 says so. An unregistered pallet raises UNKNOWN_PALLET; one at
a position is a DUPLICATE_PALLET. -/
def Obligations.ArrivalIssuesTheLoadOrder : Prop :=
  ∀ (k : Fin 16) (tag : Byte) (o n : Nat) (s : State), s.Ready (.sl k) → s.Reports k.val o → 1 ≤ n → n ≤ 255 →
    let l := Link.sl k
    let p := s.pos k.val
    let refused (r : Reason) := Host.Outcome.next (ρ := Refusal) (φ := Fault) (s.answered l tag (.refused r) [])
    (¬(p.orderKind = .feed ∧ p.phase = .ordered) → exec (.arrived l tag o n) s = refused .wrongState) ∧
    (p.orderKind = .feed → p.phase = .ordered → s.pallet n = none → exec (.arrived l tag o n) s = .next (s.replied
      { s with liu := { s.liu with attentions := { s.liu.attentions with unknownPallet := some n } } } l tag (.refused .unknownPallet) [])) ∧
    (∀ q, p.orderKind = .feed → p.phase = .ordered → s.pallet n = some q → (∃ j, j < 16 ∧ (s.pos j).occupant = .pallet n) →
      exec (.arrived l tag o n) s = refused .duplicatePallet) ∧
    (∀ q, p.orderKind = .feed → p.phase = .ordered → s.pallet n = some q → (∀ j, j < 16 → (s.pos j).occupant ≠ .pallet n) → s.Shaped →
      ∃ t data, exec (.arrived l tag o n) s = .next t ∧ s.Answered t l tag .ok data ∧
      t.pos k.val = { p with occupant := .pallet n, orderNumber := (p.orderNumber + 1) % 256, orderKind := .load, phase := .ordered,
                             faultCode := none, program := none, instruction := some (s.loadDecision q) } ∧
      (t.detail k.val).closing = .opened ∧ (t.detail k.val).resultTaken = none ∧ (t.detail k.val).copyKind = .load ∧
      t.startTimer k.val = some 0 ∧
      (s.queuePlace n = none → t.rst.returnQueue = s.rst.returnQueue ∧ t.liu.attentions.orderSlip = s.liu.attentions.orderSlip) ∧
      (∀ i, s.queuePlace n = some i → t.rst.returnQueue = s.rst.returnQueue.eraseIdx i ∧
        t.liu.attentions.orderSlip = if i = 0 then s.liu.attentions.orderSlip else some (i, n)) ∧
      t.liu.attentions.scheduleEmpty = (s.liu.attentions.scheduleEmpty || s.loadDecision q == .empty .noSchedule) ∧
      (∀ e es, s.loadDecision q = .empty .fixture → s.rst.schedule = e :: es →
        t.liu.attentions.fixtureMismatch = some (n, e.variant)) ∧
      (s.loadDecision q ≠ .empty .fixture → t.liu.attentions.fixtureMismatch = s.liu.attentions.fixtureMismatch) ∧
      (t.link l).unsolicited = some (.order (t.orderFrame k.val)) ∧ t.rst.slots = s.rst.slots ∧ t.rst.schedule = s.rst.schedule ∧
      t.rst.log = s.rst.log ∧ (∀ j, j ≠ k.val → t.pos j = s.pos j ∧ t.detail j = s.detail j) ∧ s.SameTables t ∧ s.SameMotion t)

/-- R104: an ARRIVED that names no pallet ends the FEED order as DONE with NO_PALLET; its repeat is answered OK and changes nothing,
and any other ARRIVED in DONE is refused with WRONG_STATE. -/
def Obligations.ArrivalWithoutPalletEndsTheFeed : Prop :=
  ∀ (k : Fin 16) (tag : Byte) (o : Nat) (s : State), s.Ready (.sl k) → s.Reports k.val o →
    let l := Link.sl k
    let p := s.pos k.val
    (p.orderKind ≠ .feed ∨ (p.phase ≠ .ordered ∧ p.phase ≠ .done) →
      exec (.arrivedNoPallet l tag o) s = .next (s.answered l tag (.refused .wrongState) [])) ∧
    (p.orderKind = .feed → p.phase = .done → exec (.arrivedNoPallet l tag o) s = .next
      (if (s.detail k.val).resultTaken = some .noPallet then s.answered l tag .ok [] else s.answered l tag (.refused .wrongState) [])) ∧
    (p.orderKind = .feed → p.phase = .ordered → s.Shaped → ∃ t, exec (.arrivedNoPallet l tag o) s = .next t ∧ s.Answered t l tag .ok [] ∧
      t.pos k.val = { p with phase := .done } ∧
      t.detail k.val = { s.detail k.val with closing := .cleared, resultTaken := some .noPallet } ∧ s.SameElsewhere t k.val ∧
      t.rst.slots = s.rst.slots ∧ s.SameTables t ∧ s.SameLists t ∧
      (¬(s.onPos k.val fun _ => t.pos k.val).Released → s.SameMotion t))

/-- R106: the load instruction for a pallet, row by row. -/
def Obligations.LoadInstructionFollowsThePallet : Prop :=
  ∀ (p : Pallet) (s : State),
    (∀ w, p.workpiece = some w → s.loadDecision p = if w.disposition = .rework then .passTwo else .remove) ∧
    (p.workpiece = none → s.maintenanceDue p = true → s.loadDecision p = .empty .maintenance) ∧
    (p.workpiece = none → s.maintenanceDue p = false → s.rst.schedule = [] → s.loadDecision p = .empty .noSchedule) ∧
    (∀ e es, p.workpiece = none → s.maintenanceDue p = false → s.rst.schedule = e :: es →
      s.loadDecision p = if member p.variants e.variant then .load e.variant else .empty .fixture) ∧
    (s.maintenanceDue p = true ↔ ∃ g, s.rst.geometry = some g ∧ (g.service ≤ p.clamps ∨ p.damaged = true))

/-! ### Drive reports -/

/-- R50, R51, R130, R134 and the tests on entry of R122 and R129: LIFTED in PERMIT enters CARRY, or SWEEP for a LEARN; LOWERED in
CARRY or RESEAT samples the counter and enters SETTLE, where a settle time of 0 makes the checks at once; in every other state
they are refused with WRONG_STATE, and from a drive that is not joined with NOT_JOINED. The order of the tests on entry, before each
other and before the checks, is the model's (assumption 28). -/
def Obligations.LiftedAndLoweredMoveTheBar : Prop :=
  ∀ (tag : Byte) (s : State), s.Ready .drvl →
    let c := s.btk.counter
    let refused (r : Reason) := Host.Outcome.next (ρ := Refusal) (φ := Fault) (s.answered .drvl tag (.refused r) [])
    let inState (x : IxcState) := { s with ixc := { s.ixc with state := x } }
    let faulted (i : Instr) (x : Cause) := ∃ t, exec i s = .next t ∧ s.Answered t .drvl tag .ok [] ∧ t.ixc.state = .fault ∧
      t.liu.attentions.fault = some x ∧ t.ixc.motion.isSome = true ∧ t.rst = s.rst
    (s.ixc.driveJoined = false → exec (.lifted .drvl tag) s = refused .notJoined ∧ exec (.lowered .drvl tag) s = refused .notJoined) ∧
    (s.ixc.driveJoined = true →
      (s.ixc.state ≠ .permit → exec (.lifted .drvl tag) s = refused .wrongState) ∧
      (s.ixc.state ≠ .carry → s.ixc.state ≠ .reseat → exec (.lowered .drvl tag) s = refused .wrongState)) ∧
    (∀ m, s.ixc.driveJoined = true → s.ixc.motion = some m →
      (s.ixc.state = .permit →
        let next : IxcState := if m.kind = .learn then .sweep else .carry
        let i := { s.ixc with state := next, liftTimer := none }
        (s.btk.saturated = true → faulted (.lifted .drvl tag) .encoderRange) ∧
        (s.btk.saturated = false → (inState next).InOvertravel m c → faulted (.lifted .drvl tag) .overtravel) ∧
        (s.btk.saturated = false → ¬(inState next).InOvertravel m c → m.kind ≠ .learn →
          exec (.lifted .drvl tag) s = .next (s.replied { s with
            ixc := { i with carryTimer := some { elapsed := 0, limit := s.working.carryTimeout } } } .drvl tag .ok [])) ∧
        (s.btk.saturated = false → ¬(inState next).InOvertravel m c → m.kind = .learn → c < s.sweepLimit →
          exec (.lifted .drvl tag) s = .next (s.replied { s with
            ixc := { i with sweepTimer := some { elapsed := 0, limit := s.working.sweepTimeout } } } .drvl tag .ok [])) ∧
        (s.btk.saturated = false → ¬(inState next).InOvertravel m c → m.kind = .learn → s.sweepLimit ≤ c → s.wlu.outcome = none →
          s.wlu.record.settings.isSome = true → s.rst.geometry.isSome = true →
          ∃ t, exec (.lifted .drvl tag) s = .next t ∧ s.Answered t .drvl tag .ok [] ∧ t.ixc = { i with sweepTimer := none } ∧
            t.wlu.outcome.isSome = true ∧ t.aar.workList = s.aar.workList ++ [.learnWrite] ∧ t.rst = s.rst ∧ t.btk = s.btk)) ∧
      (s.ixc.state = .carry ∨ s.ixc.state = .reseat →
        let u := { s with
          ixc := { s.ixc with state := .settle, carryTimer := none, motion := some { m with sample := some c }
                              settleTimer := some { elapsed := 0, limit := s.working.settleTime } }
          btk := if m.kind = .index then { s.btk with captures := s.btk.captures.map fun x => { x with
            state := match x.state with
              | .awaitDeparture | .armed => .noEntry | .idle => .idle | .captured => .captured | .noEntry => .noEntry } } else s.btk }
        (s.btk.saturated = true → faulted (.lowered .drvl tag) .encoderRange) ∧
        (s.btk.saturated = false → (inState .settle).InOvertravel m c → faulted (.lowered .drvl tag) .overtravel) ∧
        (s.btk.saturated = false → ¬(inState .settle).InOvertravel m c → 0 < s.working.settleTime →
          exec (.lowered .drvl tag) s = .next (s.replied u .drvl tag .ok [])) ∧
        (s.btk.saturated = false → ¬(inState .settle).InOvertravel m c → s.working.settleTime = 0 →
          ∃ t v, exec (.lowered .drvl tag) s = .next t ∧ exec .settleEnd u = .next v ∧ s.Answered t .drvl tag .ok [] ∧ t.rst = v.rst ∧
            t.ixc = v.ixc ∧ t.btk = v.btk ∧ t.wlu = v.wlu ∧ t.ctm = v.ctm ∧ t.aar.workList = v.aar.workList ∧
            t.liu.attentions = v.liu.attentions)))

/-- R45 and R196: a JOIN on DRVL is refused in the states of LIFT PERMIT, and otherwise joins the drive with its faulted flag
clear; DRIVE FAULT of a joined drive sets the flag and aborts a motion; DRIVE RECOVERED clears it. A JOIN or a DRIVE RECOVERED that
leaves every condition of R46 met completes collection with gating source DRIVE; a counter that is saturated, or in overtravel
already, aborts the motion in the same grant (R122, R129). -/
def Obligations.DriveReportsKeepTheFlags : Prop :=
  ∀ (tag : Byte) (s : State), s.Ready .drvl →
    let refused (r : Reason) := Host.Outcome.next (ρ := Refusal) (φ := Fault) (s.answered .drvl tag (.refused r) [])
    let lifting := s.ixc.state = .permit ∨ s.ixc.state = .carry ∨ s.ixc.state = .sweep ∨ s.ixc.state = .reseat
    let kind : MotionKind := if s.ixc.learnArmed then .learn else .index
    let completes (i : Instr) := ∃ t, exec i s = .next t ∧ s.Answered t .drvl tag .ok [] ∧ s.BeginsMotion t kind s.palletMask ∧
      t.ctm.lastGate = some (.drive, s.ctm.clock) ∧ t.ctm.gateDrive = countUp 65535 s.ctm.gateDrive ∧
      t.ixc.driveJoined = true ∧ t.ixc.driveFaulted = false
    let joined := { s with ixc := { s.ixc with driveJoined := true, driveFaulted := false } }
    let cleared := { s with ixc := { s.ixc with driveFaulted := false } }
    (lifting → exec (.driveJoin .drvl tag) s = refused .wrongState) ∧
    (¬lifting → ¬joined.Released → exec (.driveJoin .drvl tag) s = .next (joined.answered .drvl tag .ok [])) ∧
    (joined.Released → s.Shaped → completes (.driveJoin .drvl tag)) ∧
    (s.ixc.driveJoined = false →
      exec (.driveFault .drvl tag) s = refused .notJoined ∧ exec (.driveRecovered .drvl tag) s = refused .notJoined) ∧
    (s.ixc.driveJoined = true → s.ixc.state.moving = false → exec (.driveFault .drvl tag) s =
      .next ({ s with ixc := { s.ixc with driveFaulted := true } }.answered .drvl tag .ok [])) ∧
    (s.ixc.driveJoined = true → s.ixc.state.moving = true → ∃ t, exec (.driveFault .drvl tag) s = .next t ∧
      s.Answered t .drvl tag .ok [] ∧ s.EntersFault t .driveFault none ∧ t.ixc.driveFaulted = true ∧ t.rst = s.rst) ∧
    (s.ixc.driveJoined = true → ¬cleared.Released →
      exec (.driveRecovered .drvl tag) s = .next (cleared.answered .drvl tag .ok [])) ∧
    (s.ixc.driveJoined = true → cleared.Released → s.Shaped → completes (.driveRecovered .drvl tag))

/-! ### Requests of the supervisor: the line and its occupants -/

/-- R4 to R6, R91, R131: SET GEOMETRY is refused outside HALT and for a field out of range; taken, it replaces the geometry,
cancels the outstanding orders, rebuilds the position table, places the target, gives the settings their defaults or clamps OT
and SM, empties the windows, drops a HELD result and puts every entry-capture record at its first values. -/
def Obligations.GeometryRebuildsTheLine : Prop :=
  ∀ (tag : Byte) (n p q : Nat) (ks : List (Option WorkKind)) (v : Option Nat) (s : State), s.Ready .supl →
    let c := Instr.setGeometry .supl tag n ks p q v
    let refused (r : Reason) := Host.Outcome.next (ρ := Refusal) (φ := Fault) (s.answered .supl tag (.refused r) [])
    let fits := 3 ≤ n ∧ n ≤ 16 ∧ ks.length = n - 2 ∧ (∀ k, k ∈ ks → k.isSome = true) ∧ 1000 ≤ p ∧ p ≤ 200000 ∧ 1 ≤ q ∧ q ≤ 64 ∧
      (∀ x, v = some x → 1 ≤ x ∧ x ≤ 65535)
    (s.ixc.state ≠ .halt → exec c s = refused .lineRunning) ∧ (s.ixc.state = .halt → ¬fits → exec c s = refused .range) ∧
    (s.ixc.state = .halt → fits → s.Shaped → ∃ t g data, exec c s = .next t ∧ s.Answered t .supl tag .ok data ∧
      t.rst.geometry = some g ∧ g.count = n ∧ g.kinds.map some = ks ∧ g.pitch = p ∧ g.resolution = q ∧ g.service = v.getD 20000 ∧
      t.rst.unconfirmed = false ∧
      (∀ k, k < 16 → t.pos k =
        { kind := if n ≤ k then .unused else if k = 0 then .load else if k + 1 = n then .unload
            else if ks.getD (k - 1) none = some .check then .check else .process
          mode := .active, joined := if k < n then (s.pos k).joined else none, occupant := if k < n then .unknown else .empty
          phase := .idle, faultCode := none, orderNumber := (s.pos k).orderNumber, orderKind := .noOrder, program := none
          instruction := none, hold := false }) ∧
      (∀ k, k < 16 → t.detail k = { s.detail k with
        copyNumber := (s.pos k).orderNumber, copyKind := .noOrder, closing := .noOrder, resultTaken := none }) ∧
      (∀ k, k < 16 → t.startTimer k = none ∧ (t.work k).running = none) ∧
      (∀ m, (∀ k, k < 16 → s.palletAt k ≠ some m) → t.pallet m = s.pallet m) ∧
      (∀ m j, j < 16 → s.palletAt j = some m → (∀ k, k < 16 → k ≠ j → s.palletAt k ≠ some m) → t.pallet m = s.afterCancel j m) ∧
      (s.rst.transfer = none →
        let d : Staged := { target := g.place p, stopBand := 40, overtravel := (p : Int) / 20, sweepMargin := (p : Int) / 8, bias := 0
                            minWidth := 100, driftLimit := 200, entryTolerance := 150, homeTolerance := 50, extend := false
                            settleTime := 100, liftTimeout := 3000, carryTimeout := 8000, sweepTimeout := 60000, homeTimeout := 8000 }
        t.rst.transfer = some { pending := d, working := d, startTimeout := 2000, budgetTolerance := 10 }) ∧
      (∀ x, s.rst.transfer = some x →
        let refit (y : Staged) : Staged := { y with
          target := g.place p, overtravel := min (max y.overtravel 10) ((p : Int) / 4)
          sweepMargin := min (max y.sweepMargin ((p : Int) / 20)) ((p : Int) / 4) }
        t.rst.transfer = some { x with pending := refit x.pending, working := refit x.working }) ∧
      (∀ k, k ≤ 15 → t.window k = none) ∧ s.SameLists t ∧ t.rst.routing = s.rst.routing ∧ t.rst.budgets = s.rst.budgets ∧
      t.wlu = { s.wlu with record := { s.wlu.record with
        state := if s.wlu.record.state = .held then .discarded else s.wlu.record.state } } ∧
      t.btk = { s.btk with captures := s.btk.captures.map fun _ => { state := .idle, entry := none, drift := none, largest := 0 } } ∧
      t.ixc = s.ixc ∧ t.liu.attentions = s.liu.attentions)

/-- R8, R9, R125, R171, R172: SET TRANSFER writes every named setting, clamped, or none; a staged setting goes into the pending
copy only, a direct one acts from the grant on, also where it is named beside others. SET TARGET places its argument and writes
the pending copy. The bytes of the responses, with a direct setting sent as both copies, are the model's (assumption 14). Its
q(x) wraps in its four bytes where it does not fit (assumption 33). -/
def Obligations.SettingsAreClampedOrRefused : Prop :=
  ∀ (tag : Byte) (s : State), s.Ready .supl →
    let set (xs : List (Nat × Int)) := exec (.setTransfer .supl tag xs) s
    let refused (r : Reason) := Host.Outcome.next (ρ := Refusal) (φ := Fault) (s.answered .supl tag (.refused r) [])
    (s.rst.geometry = none → (∀ xs, set xs = refused .geometryAbsent) ∧ ∀ x, exec (.setTarget .supl tag x) s = refused .geometryAbsent) ∧
    (∀ g x, s.rst.geometry = some g → s.rst.transfer = some x →
      let with' (y : Transfer) := { s with rst := { s.rst with transfer := some y } }
      let stages (i : Nat) (v : Int) (y : Staged) := let u := with' { x with pending := y }
        set [(i, v)] = .next (u.answered .supl tag .ok u.settingsBytes)
      let clamp (lo hi v : Int) := min (max v lo) hi
      let y := x.pending
      let q : Int := g.pitch
      set [] = .next (s.answered .supl tag .ok s.settingsBytes) ∧
      (∀ xs z, z ∈ xs → z.1 < 2 ∨ 17 < z.1 ∨ (z.1 = 10 ∧ z.2 ≠ 1 ∧ z.2 ≠ 2) → set xs = refused .range) ∧
      (∀ xs, (∀ z, z ∈ xs → 2 ≤ z.1 ∧ z.1 ≤ 15 ∧ (z.1 = 10 → z.2 = 1 ∨ z.2 = 2)) → ∃ z, Transfer.writeAll g x xs = some z ∧
        z.working = x.working ∧ z.startTimeout = x.startTimeout ∧ z.budgetTolerance = x.budgetTolerance ∧
        set xs = .next ((with' z).answered .supl tag .ok (with' z).settingsBytes)) ∧
      (∀ v, stages 2 v { y with stopBand := clamp 1 1000 v } ∧ stages 3 v { y with overtravel := clamp 10 (q / 4) v } ∧
        stages 4 v { y with sweepMargin := clamp (q / 20) (q / 4) v } ∧ stages 5 v { y with bias := clamp (-500) 500 v } ∧
        stages 6 v { y with minWidth := clamp 10 10000 v } ∧ stages 7 v { y with driftLimit := clamp 1 20000 v } ∧
        stages 8 v { y with entryTolerance := clamp 1 20000 v } ∧ stages 9 v { y with homeTolerance := clamp 1 5000 v } ∧
        stages 10 1 { y with extend := true } ∧ stages 10 2 { y with extend := false } ∧
        stages 11 v { y with settleTime := (clamp 0 2000 v).toNat } ∧ stages 12 v { y with liftTimeout := (clamp 100 30000 v).toNat } ∧
        stages 13 v { y with carryTimeout := (clamp 500 60000 v).toNat } ∧
        stages 14 v { y with sweepTimeout := (clamp 1000 600000 v).toNat } ∧
        stages 15 v { y with homeTimeout := (clamp 500 60000 v).toNat }) ∧
      (s.Shaped → ∀ v, let z := { x with startTimeout := (clamp 100 60000 v).toNat }
        ∃ t data, set [(16, v)] = .next t ∧ s.Answered t .supl tag .ok data ∧ t.rst = (with' z).rst ∧
        (∀ k, k < 16 → t.startTimer k = if ∃ a, s.startTimer k = some a ∧ z.startTimeout < a then none else s.startTimer k) ∧
        (∀ w, w ∈ t.aar.workList ↔ w ∈ s.aar.workList ∨
          ∃ k a, k < 16 ∧ s.startTimer k = some a ∧ z.startTimeout < a ∧ w = .startExpiry k) ∧ t.ixc = s.ixc ∧ t.btk = s.btk ∧ t.wlu = s.wlu) ∧
      (s.Shaped → ∀ v, let z := { x with budgetTolerance := (clamp 0 100 v).toNat }
        ∃ t data, set [(17, v)] = .next t ∧ s.Answered t .supl tag .ok data ∧ t.rst = (with' z).rst ∧ t.ixc = s.ixc ∧ t.btk = s.btk ∧
        (∀ k, k < 16 → (t.work k).running = (s.work k).running ∧
          (t.work k).limit = (if (s.work k).running.isSome = true then
              (match (s.pos k).program with
                | some g => if (s.pos k).orderKind = .process ∨ (s.pos k).orderKind = .check
                    then budgetLimit (some z.budgetTolerance) (s.budget k g) else none
                | none => none)
            else (s.work k).limit) ∧
          ((t.work k).overrunTaken = true ↔ (s.work k).overrunTaken = true ∨
            ∃ a b, (s.work k).running = some a ∧ (t.work k).limit = some b ∧ b < a))) ∧
      (∀ xs, s.Shaped → (∀ z, z ∈ xs → 2 ≤ z.1 ∧ z.1 ≤ 17 ∧ (z.1 = 10 → z.2 = 1 ∨ z.2 = 2)) → (∃ z, z ∈ xs ∧ 16 ≤ z.1) →
        ∃ z t, Transfer.writeAll g x xs = some z ∧ z.working = x.working ∧
        Transfer.writeAll g x (xs.filter fun e => e.1 < 16) = some { x with pending := z.pending } ∧
        (∀ ys v zs, xs = ys ++ (16, v) :: zs → (∀ e, e ∈ zs → e.1 ≠ 16) → z.startTimeout = (clamp 100 60000 v).toNat) ∧
        (∀ ys v zs, xs = ys ++ (17, v) :: zs → (∀ e, e ∈ zs → e.1 ≠ 17) → z.budgetTolerance = (clamp 0 100 v).toNat) ∧
        ((∀ e, e ∈ xs → e.1 ≠ 16) → z.startTimeout = x.startTimeout) ∧ ((∀ e, e ∈ xs → e.1 ≠ 17) → z.budgetTolerance = x.budgetTolerance) ∧
        set xs = .next t ∧ s.Answered t .supl tag .ok (with' z).settingsBytes ∧ t.rst = (with' z).rst ∧
        (∀ k, k < 16 → t.startTimer k = (if ∃ a, s.startTimer k = some a ∧ z.startTimeout < a then none else s.startTimer k) ∧
          (t.work k).running = (s.work k).running ∧
          (t.work k).limit = (if (s.work k).running.isSome = true then
              (match (s.pos k).program with
                | some n => if (s.pos k).orderKind = .process ∨ (s.pos k).orderKind = .check
                    then budgetLimit (some z.budgetTolerance) (s.budget k n) else none
                | none => none)
            else (s.work k).limit)) ∧
        (∀ w, w ∈ t.aar.workList ↔ w ∈ s.aar.workList ∨
          ∃ k a, k < 16 ∧ s.startTimer k = some a ∧ z.startTimeout < a ∧ w = .startExpiry k) ∧ t.ixc = s.ixc ∧ t.btk = s.btk ∧ t.wlu = s.wlu) ∧
      (∀ v, exec (.setTarget .supl tag v) s = .next ((with' { x with pending := { y with target := g.place v } }).answered .supl tag .ok
        (i32 v ++ i32 (g.quantize v) ++ i32 (g.place v) ++ i32 x.working.target ++ i32 g.tlo ++ i32 g.thi)) ∧
        (1000 ≤ g.pitch → 1 ≤ g.resolution → g.resolution ≤ 64 → g.Placed (g.place v))))

/-- R14 to R17 and R90: SET MODE, SET OCCUPANT and SURVEY with their refusals in order; the change of mode ends the position's
order, SET OCCUPANT writes the occupant and nothing else, SURVEY empties and marks by the inputs. The data of the responses are laid
out by assumption 14. -/
def Obligations.ModesAndOccupantsAreSet : Prop :=
  ∀ (tag : Byte) (k : Nat) (s : State), s.Ready .supl →
    let refused (r : Reason) := Host.Outcome.next (ρ := Refusal) (φ := Fault) (s.answered .supl tag (.refused r) [])
    let p := s.pos k
    let mode (m : Mode) := exec (.setMode .supl tag k (some m)) s
    let place (o : Occupant) := exec (.setOccupant .supl tag k o) s
    let named (n : Nat) := n ≠ 0 ∧ n ≤ 255
    let placing := s.ixc.state = .halt ∨ s.ixc.state = .fault ∧ (s.ixc.motion.isSome = true → ∃ f, s.ixc.currentFault = some f ∧ f.cause = .tracking)
    exec (.setMode .supl tag k none) s = refused .range ∧
    (∀ m, (15 < k → mode m = refused .range) ∧
      (k ≤ 15 → s.rst.geometry = none → mode m = refused .geometryAbsent) ∧
      (k ≤ 15 → s.rst.geometry.isSome = true → p.kind = .unused → mode m = refused .notInLine) ∧
      (k ≤ 15 → s.rst.geometry.isSome = true → p.kind ≠ .unused →
        (m = .bypass → p.kind = .load ∨ p.kind = .unload → mode m = refused .range) ∧
        (m = .active ∨ (p.kind ≠ .load ∧ p.kind ≠ .unload) →
          (s.ixc.state.moving = true ∨ s.ixc.state = .advance → mode m = refused .wrongState) ∧
          (s.ixc.state = .halt ∨ s.ixc.state = .collect ∨ s.ixc.state = .fault →
            (p.mode = m → mode m = .next (s.answered .supl tag .ok [])) ∧
            (p.mode ≠ m → s.Shaped → ∃ t, mode m = .next t ∧ s.Answered t .supl tag .ok [] ∧
              t.pos k = { p with mode := m, phase := .idle, faultCode := none, orderKind := .noOrder, program := none, instruction := none
                                 hold := if m = .bypass then false else p.hold } ∧
              t.detail k = { s.detail k with copyNumber := p.orderNumber, copyKind := .noOrder
                                             closing := match m, p.phase with
                                               | .active, _ => .noOrder
                                               | .bypass, .ordered => .withdrawn
                                               | .bypass, .working => .abandoned
                                               | .bypass, .idle | .bypass, .done | .bypass, .fault => (s.detail k).closing } ∧
              (∀ n, t.pallet n = if m = .bypass ∧ p.phase = .working then s.afterCancel k n else s.pallet n) ∧
              (m = .bypass → p.phase = .ordered ∨ p.phase = .working → t.startTimer k = none ∧ (t.work k).running = none) ∧
              s.SameElsewhere t k ∧ s.SameTables t ∧ s.SameLists t ∧
              (¬(s.onPos k fun _ => t.pos k).Released → s.SameMotion t)))))) ∧
    (∀ o, (15 < k ∨ (∃ n, o = .pallet n ∧ ¬named n) → place o = refused .range) ∧
      (k ≤ 15 → (∀ n, o = .pallet n → named n) →
        (s.rst.geometry = none → place o = refused .geometryAbsent) ∧
        (s.rst.geometry.isSome = true → p.kind = .unused → place o = refused .notInLine) ∧
        (s.rst.geometry.isSome = true → p.kind ≠ .unused →
          (¬placing ∨ p.phase = .ordered ∨ p.phase = .working → place o = refused .wrongState) ∧
          (placing → p.phase ≠ .ordered → p.phase ≠ .working →
            (∀ n, o = .pallet n → s.pallet n = none → place o = refused .unknownPallet) ∧
            (∀ n, o = .pallet n → (s.pallet n).isSome = true → s.location n ≠ .out → p.occupant ≠ o → place o = refused .wrongState) ∧
            ((∀ n, o = .pallet n → (s.pallet n).isSome = true ∧ (s.location n = .out ∨ p.occupant = o)) →
              let u := s.onPos k fun p => { p with occupant := o }
              place o = .next (u.answered .supl tag .ok (u.positionEntry k))))))) ∧
    (s.rst.geometry = none → exec (.survey .supl tag) s = refused .geometryAbsent) ∧
    (s.rst.geometry.isSome = true → s.ixc.state ≠ .halt → exec (.survey .supl tag) s = refused .wrongState) ∧
    (s.rst.geometry.isSome = true → s.ixc.state = .halt → s.Shaped → ∃ ps e m x z : _,
      let u := { s with rst := { s.rst with positions := ps } }
      exec (.survey .supl tag) s = .next (u.answered .supl tag .ok (maskBytes e ++ maskBytes m ++ maskBytes x ++ maskBytes z)) ∧
      (∀ j, j < 16 → let held := (s.pos j).phase = .ordered ∨ (s.pos j).phase = .working
        u.pos j = { s.pos j with occupant := if j < s.count ∧ ¬held then (match (s.pos j).occupant, member s.pins.ip j with
          | .empty, true => .unknown | o, true => o | _, false => .empty) else (s.pos j).occupant } ∧
        (member e j = true ↔ j < s.count ∧ ¬held ∧ (s.pos j).occupant ≠ .empty ∧ member s.pins.ip j = false) ∧
        (member m j = true ↔ j < s.count ∧ ¬held ∧ (s.pos j).occupant = .empty ∧ member s.pins.ip j = true) ∧
        (member x j = true ↔ j < s.count ∧ held) ∧ (member z j = true ↔ j < s.count ∧ (u.pos j).occupant = .unknown)))

/-! ### Requests of the supervisor: pallets -/

/-- R34 to R38: REGISTER, RETIRE, MARK OUT, RESET CLAMPS and SET DISPOSITION with their refusals in order; each changes the one
record it names and no other state. That RESET CLAMPS refuses an unregistered number before a bad mask is the model's order
(assumption 30). -/
def Obligations.PalletRequestsWriteTheRecord : Prop :=
  ∀ (tag : Byte) (n : Nat) (s : State), s.Ready .supl →
    let refused (r : Reason) := Host.Outcome.next (ρ := Refusal) (φ := Fault) (s.answered .supl tag (.refused r) [])
    let unfit (m : Mask) := m = 0#16 ∨ ∃ v, v < 16 ∧ (v = 0 ∨ 8 < v) ∧ member m v = true
    let becomes (c : Instr) (o : Option Pallet) := ∃ slots data, exec c s = .next ({ s with rst := { s.rst with slots := slots } }.answered .supl tag .ok data) ∧
      ∀ x, State.pallet { s with rst := { s.rst with slots := slots } } x = if x = n then o else s.pallet x
    let register (m : Mask) := exec (.registerPallet .supl tag n m) s
    let dispose (d : Option Disposition) := exec (.setDisposition .supl tag n d) s
    (∀ m, (n = 0 ∨ 255 < n ∨ unfit m → register m = refused .range) ∧
      (1 ≤ n → n ≤ 255 → ¬unfit m →
        ((s.pallet n).isSome = true → register m = refused .duplicate) ∧
        (s.pallet n = none → (∀ o, o ∈ s.rst.slots → o.isSome = true) → register m = refused .tableFull) ∧
        (s.pallet n = none → (∃ o, o ∈ s.rst.slots ∧ o = none) → becomes (.registerPallet .supl tag n m)
          (some { number := n, variants := m, clamps := 0, divert := false, damaged := false, workpiece := none })))) ∧
    (n = 0 ∨ 255 < n → exec (.retirePallet .supl tag n) s = refused .range ∧ exec (.markOut .supl tag n) s = refused .range ∧
      (∀ m, exec (.resetClamps .supl tag n m) s = refused .range) ∧ (∀ d, dispose d = refused .range)) ∧
    (1 ≤ n → n ≤ 255 → s.pallet n = none →
      exec (.retirePallet .supl tag n) s = refused .unknownPallet ∧ exec (.markOut .supl tag n) s = refused .unknownPallet ∧
      (∀ m, exec (.resetClamps .supl tag n m) s = refused .unknownPallet) ∧ (∀ d, dispose (some d) = refused .unknownPallet)) ∧
    dispose none = refused .range ∧
    (∀ p, 1 ≤ n → n ≤ 255 → s.pallet n = some p →
      (s.location n ≠ .out ∨ p.workpiece.isSome = true → exec (.retirePallet .supl tag n) s = refused .wrongState) ∧
      (s.location n = .out → p.workpiece = none → becomes (.retirePallet .supl tag n) none) ∧
      becomes (.markOut .supl tag n) (some { p with divert := true }) ∧
      (∀ m, (∃ x, m = some x ∧ unfit x) ∨ (m = none ∧ p.damaged = true) → exec (.resetClamps .supl tag n m) s = refused .range) ∧
      (p.damaged = false → becomes (.resetClamps .supl tag n none) (some { p with clamps := 0 })) ∧
      (∀ x, ¬unfit x → becomes (.resetClamps .supl tag n (some x)) (some { p with clamps := 0, damaged := false, variants := x })) ∧
      (p.workpiece = none → ∀ d, dispose (some d) = refused .wrongState) ∧
      (∀ w, p.workpiece = some w →
        (w.pass = 2 → dispose (some .rework) = refused .range) ∧
        (∀ d, d ≠ .rework ∨ w.pass ≠ 2 → becomes (.setDisposition .supl tag n (some d))
          (some { p with workpiece := some { w with disposition := d } }))))

/-! ### Requests of the supervisor: running the line -/

/-- R197, R67 to R69: RUN in HALT names its first offender or enters COLLECT with the run mode named, in COLLECT it changes the run
mode; HALT, INDEX, HOLD LINE and RELEASE LINE in every state; a command that leaves the conditions of R46 unmet completes no
collection. A RUN that completes it finds the counter clear and begins the motion, or saturated or in overtravel, which aborts it in
the same grant (R122, R129). The data of the responses of RUN and INDEX are the model's (assumptions 14 and 15), and so is the
RUN accepted in COLLECT while the geometry is unconfirmed (assumption 36). -/
def Obligations.RunAndHaltRuleTheCollection : Prop :=
  ∀ (tag : Byte) (s : State), s.Ready .supl →
    let refused (r : Reason) (d : List Byte) := Host.Outcome.next (ρ := Refusal) (φ := Fault) (s.answered .supl tag (.refused r) d)
    let run (m : RunMode) := exec (.run .supl tag (some m)) s
    let mode (m : RunMode) : Byte := match m with | .auto => 1 | .step => 2
    let kind : MotionKind := if s.ixc.learnArmed then .learn else .index
    let begins (m : RunMode) := ∃ t x, run m = .next t ∧ s.Answered t .supl tag .accepted [mode m, x] ∧
      (s.ClearToMove kind → x = 3#8) ∧ (¬s.ClearToMove kind → x = 9#8) ∧
      s.BeginsMotion t kind s.palletMask ∧ t.ixc.runMode = m ∧ t.ctm.lastGate = some (.supervisor, s.ctm.clock)
    let confirmed := s.rst.geometry.isSome = true ∧ s.rst.unconfirmed = false
    let absent (k : Nat) := (s.pos k).mode = .active ∧ (s.pos k).joined = none
    let allJoined := ∀ k, k < s.count → ¬absent k
    let named := ∀ k, k < s.count → (s.pos k).occupant ≠ .unknown
    let wrong (k v : Nat) := 1 ≤ v ∧ v ≤ 8 ∧ (s.pos k).mode = .active ∧ ((s.pos k).kind = .process ∨ (s.pos k).kind = .check) ∧
      s.routing v k ≠ 0 ∧ ∃ j, (s.pos k).joined = some j ∧ member j.programs (s.routing v k) = false
    let halted := { s with
      ixc := { s.ixc with state := .halt, indexPending := false, haltRequested := false, configDue := false }
      ctm := { s.ctm with cycleTimer := none }, btk := { s.btk with homeTimer := none } }
    exec (.run .supl tag none) s = refused .range [] ∧
    (∀ m, s.ixc.state ≠ .halt → s.ixc.state ≠ .collect → run m = refused .wrongState []) ∧
    (∀ m, s.ixc.state = .halt →
      (¬confirmed → run m = refused .geometryAbsent []) ∧
      (∀ k, confirmed → k < s.count → absent k → (∀ j, j < k → ¬absent j) → run m = refused .notJoined [1#8, BitVec.ofNat 8 k]) ∧
      (confirmed → allJoined → s.ixc.driveJoined = false → run m = refused .notJoined [0#8]) ∧
      (∀ k, confirmed → allJoined → s.ixc.driveJoined = true → k < s.count → (s.pos k).occupant = .unknown →
        (∀ j, j < k → (s.pos j).occupant ≠ .unknown) → run m = refused .trackingIncomplete [BitVec.ofNat 8 k]) ∧
      (∀ k v, confirmed → allJoined → s.ixc.driveJoined = true → named → k < s.count → wrong k v → (∀ x, x < v → ¬wrong k x) →
        (∀ j x, j < k → ¬wrong j x) → run m = refused .routingMismatch [BitVec.ofNat 8 k, BitVec.ofNat 8 v]) ∧
      (confirmed → allJoined → s.ixc.driveJoined = true → named → (∀ k v, k < s.count → ¬wrong k v) → s.ixc.configDue = false →
        let timer : Option Timer := if s.pins.home then s.btk.homeTimer else some { elapsed := 0, limit := s.working.homeTimeout }
        let u := { s with ixc := { s.ixc with state := .collect, runMode := m }, btk := { s.btk with homeTimer := timer } }
        (¬u.Released → run m = .next (s.replied u .supl tag .accepted [mode m, 2#8])) ∧
        (u.Released → s.Shaped → begins m))) ∧
    (∀ m, s.ixc.state = .collect →
      let u := { s with ixc := { s.ixc with runMode := m } }
      (¬u.Released → run m = .next (u.answered .supl tag .accepted [mode m, 2#8])) ∧
      (u.Released → s.Shaped → begins m)) ∧
    (s.ixc.state = .collect → exec (.halt .supl tag) s = .next (s.replied halted .supl tag .ok [])) ∧
    (s.ixc.state = .halt → exec (.halt .supl tag) s = .next (s.answered .supl tag .ok [])) ∧
    (s.ixc.state.moving = true ∨ s.ixc.state = .advance → exec (.halt .supl tag) s =
      .next ({ s with ixc := { s.ixc with haltRequested := true } }.answered .supl tag .ok [])) ∧
    (s.ixc.state = .fault → exec (.halt .supl tag) s = refused .wrongState []) ∧
    (s.ixc.state ≠ .collect ∨ s.ixc.runMode = .auto → exec (.index .supl tag) s = refused .wrongState []) ∧
    (s.ixc.state = .collect → s.ixc.runMode = .step →
      let u := { s with ixc := { s.ixc with indexPending := true } }
      ¬u.Released → exec (.index .supl tag) s = .next (u.answered .supl tag .accepted [1#8])) ∧
    exec (.holdLine .supl tag) s = .next ({ s with ixc := { s.ixc with lineHold := true } }.answered .supl tag .ok []) ∧
    (let u := { s with ixc := { s.ixc with lineHold := false } }
     ¬u.Released → exec (.releaseLine .supl tag) s = .next (u.answered .supl tag .ok []))

/-- R59, R61 to R64, R9, R173: ABORT is answered OK in every state and aborts a motion and a pending advance; CLEAR FAULT takes
a FAULT without motion pending to HALT; RECOVER is refused in the order of its checks, and enters PERMIT with the kind
recovered, where a counter that is saturated, or beyond the limit of that kind, aborts the motion in the same grant (R122,
R129). A RECOVER(FORWARD) marks a running index timer recovered. That the motion record holds no sample after RECOVER is the
model's choice (assumption 32). -/
def Obligations.FaultsAreClearedOrRecovered : Prop :=
  ∀ (tag : Byte) (s : State), s.Ready .supl →
    let refused (r : Reason) := Host.Outcome.next (ρ := Refusal) (φ := Fault) (s.answered .supl tag (.refused r) [])
    let moving := s.ixc.state.moving = true ∨ s.ixc.state = .advance
    let hindered := s.pins.lineStop = true ∨ (∃ k, k < s.count ∧ (s.pos k).mode = .active ∧ (s.pos k).phase = .fault) ∨
      s.ixc.driveFaulted = true
    let unknown := ∃ k, k < s.count ∧ (s.pos k).occupant = .unknown
    let recovers (c : Instr) (kind : MotionKind) (origin : Mask) (mark : Bool) := ∃ t data, exec c s = .next t ∧ s.Answered t .supl tag .accepted data ∧
      s.BeginsMotion t kind origin ∧
      (s.ClearToMove kind → t.ixc.currentFault = none ∧ t.ixc.lastFault = s.ixc.lastFault ∧ t.liu.attentions = s.liu.attentions) ∧
      t.ixc.haltRequested = s.ixc.haltRequested ∧ t.ixc.learnArmed = s.ixc.learnArmed ∧ t.ctm.indexTimer = s.ctm.indexTimer ∧
      t.ctm.indexRecovered = mark ∧ t.ctm.lastGate = s.ctm.lastGate ∧ s.SameLists t
    (moving → ∃ t, exec (.abort .supl tag) s = .next t ∧ s.Answered t .supl tag .ok [] ∧ s.EntersFault t .aborted none ∧ t.rst = s.rst ∧
      t.ctm = s.ctm) ∧
    (¬moving → exec (.abort .supl tag) s = .next (s.answered .supl tag .ok [])) ∧
    (s.ixc.state = .fault → s.ixc.motion = none → exec (.clearFault .supl tag) s = .next (s.replied { s with
      ixc := { s.ixc with state := .halt, currentFault := none, indexPending := false, haltRequested := false, configDue := false }
      ctm := { s.ctm with cycleTimer := none }, btk := { s.btk with homeTimer := none } } .supl tag .ok [])) ∧
    (s.ixc.state ≠ .fault ∨ s.ixc.motion.isSome = true → exec (.clearFault .supl tag) s = refused .wrongState) ∧
    (s.ixc.state ≠ .fault ∨ s.ixc.motion = none ∨ hindered →
      exec (.recoverForward .supl tag) s = refused .wrongState ∧ exec (.recoverBack .supl tag) s = refused .wrongState) ∧
    (s.ixc.state = .fault → s.ixc.motion.isSome = true → ¬hindered → unknown →
      exec (.recoverForward .supl tag) s = refused .trackingIncomplete) ∧
    (s.ixc.state = .fault → s.ixc.motion.isSome = true → ¬hindered → ¬unknown → s.Shaped →
      recovers (.recoverForward .supl tag) .forward s.palletMask s.ctm.indexTimer.isSome) ∧
    (∀ m, s.ixc.state = .fault → s.ixc.motion = some m → ¬hindered → s.Shaped →
      recovers (.recoverBack .supl tag) .back m.origin s.ctm.indexRecovered)

/-- R198, R13, R91, R42, R153, R188: LINE RESET in every state empties the line, its orders, the motion and the attentions, and
keeps the tables, the lists and the statistics, and one STATUS frame is posted; its response is laid out by assumptions 6 and
14, and that the frame is posted whatever has changed is assumption 20. -/
def Obligations.LineResetEmptiesTheLine : Prop :=
  ∀ (tag : Byte) (s : State), s.Ready .supl → s.Shaped →
    let lost (k : Nat) := s.ixc.motion.isSome = true ∧ k < s.count ∧ (s.palletAt k).isSome = true
    ∃ t x, exec (.lineReset .supl tag) s = .next t ∧
      s.Answered t .supl tag .ok ((if s.ixc.motion.isSome then [1#8] else [2#8]) ++ maskBytes x) ∧
      (∀ k, k < 16 → (member x k = true ↔ lost k) ∧ (lost k → (t.pos k).occupant = .unknown) ∧
        (¬lost k → (t.pos k).occupant = (s.pos k).occupant) ∧
        t.pos k = { s.pos k with occupant := (t.pos k).occupant, phase := .idle, faultCode := none, orderKind := .noOrder, program := none
                                 instruction := none, hold := false } ∧
        t.detail k = { s.detail k with
          copyNumber := (s.pos k).orderNumber, copyKind := .noOrder, closing := .noOrder, resultTaken := none } ∧
        t.startTimer k = none ∧ (t.work k).running = none) ∧
      (∀ m, (∀ k, k < 16 → s.palletAt k ≠ some m) → t.pallet m = s.pallet m) ∧
      (∀ m j, j < 16 → s.palletAt j = some m → (∀ k, k < 16 → k ≠ j → s.palletAt k ≠ some m) →
        (¬lost j → t.pallet m = s.afterCancel j m) ∧
        (lost j → t.pallet m = (s.afterCancel j m).map fun p => { p with
          workpiece := p.workpiece.map fun w => { w with disposition := w.disposition.raise .suspect } })) ∧
      t.ixc = { s.ixc with
        state := .halt, motion := none, haltRequested := false, indexPending := false, learnArmed := false, lineHold := false
        currentFault := none, liftTimer := none, carryTimer := none, sweepTimer := none, settleTimer := none, configDue := false } ∧
      t.liftPermit = false ∧ t.returnPermit = false ∧ t.aar.workList = [] ∧ t.btk.homeTimer = none ∧
      t.btk.counter = s.btk.counter ∧ t.btk.saturated = s.btk.saturated ∧
      t.btk.captures = s.btk.captures.map (fun c => { c with state := .idle }) ∧
      t.ctm.clock = s.ctm.clock ∧ t.ctm.stats = s.ctm.stats ∧ t.ctm.advances = s.ctm.advances ∧ t.ctm.indexTimer = none ∧
      t.ctm.cycleTimer = none ∧ t.ctm.indexTimes = s.ctm.indexTimes ∧ t.ctm.cycleTimes = s.ctm.cycleTimes ∧
      t.wlu.outcome = none ∧ t.wlu.record.entries = s.wlu.record.entries ∧
      t.wlu.record.state = (match s.wlu.record.state with
        | .inProgress => .aborted | .held => .discarded | x => x) ∧
      (s.wlu.record.state = .inProgress → t.wlu.record.abortCause = some .lineReset ∧ t.wlu.record.endTime = some s.ctm.clock) ∧
      t.liu.attentions = Attentions.reset ∧ s.SameLists t ∧ s.SameTables t ∧ t.rst.transfer = s.rst.transfer ∧
      t.liu.sequence = (if s.liu.sequence < 65535 then s.liu.sequence + 1 else 1) ∧
      (t.link .supl).unsolicited = some (.status t.liu.sequence t.statusContent)

/-! ### Requests of the supervisor: lists, tables and the learn -/

/-- R95, R96, R99, R100, R119 with R98 and R117: the requests on the return queue, the load schedule and the completion log, in
every Index Controller state, with their refusals in order. The data of FETCH COMPLETION sends a lost field as 0 (assumption 7) in
the layout of assumption 14. -/
def Obligations.ListsTakeAndGive : Prop :=
  ∀ (tag : Byte) (n : Nat) (s : State), s.Ready .supl →
    let refused (r : Reason) := Host.Outcome.next (ρ := Refusal) (φ := Fault) (s.answered .supl tag (.refused r) [])
    let insert := exec (.insertReturn .supl tag n) s
    let withdraw := exec (.withdrawReturn .supl tag n) s
    let append (v q : Nat) := exec (.appendSchedule .supl tag v q) s
    let queue (xs : List Nat) := { s with rst := { s.rst with returnQueue := xs } }
    let size := s.rst.returnQueue.length
    let filled := s.rst.schedule.length
    (n = 0 ∨ 255 < n → insert = refused .range ∧ withdraw = refused .range) ∧
    (1 ≤ n → n ≤ 255 → s.pallet n = none → insert = refused .unknownPallet ∧ withdraw = refused .unknownPallet) ∧
    (1 ≤ n → n ≤ 255 → (s.pallet n).isSome = true →
      (s.location n ≠ .out → insert = refused .wrongState) ∧
      (s.location n = .out → insert =
        .next ((queue (s.rst.returnQueue ++ [n])).answered .supl tag .ok [BitVec.ofNat 8 size, BitVec.ofNat 8 (size + 1)])) ∧
      ((∀ i, s.location n ≠ .queue i) → withdraw = refused .wrongState) ∧
      (∀ i, s.location n = .queue i → withdraw =
        .next ((queue (s.rst.returnQueue.eraseIdx i)).answered .supl tag .ok [BitVec.ofNat 8 i]))) ∧
    (∀ v q, (v = 0 ∨ 8 < v → append v q = refused .range) ∧
      (1 ≤ v → v ≤ 8 → 32 ≤ filled → append v q = refused .queueFull) ∧
      (1 ≤ v → v ≤ 8 → filled < 32 → let taken := min (max q 1) 9999
        append v q = .next ({ s with rst := { s.rst with schedule := s.rst.schedule ++ [ScheduleEntry.mk v taken] } }.answered
          .supl tag .ok (u16 taken ++ [BitVec.ofNat 8 filled, BitVec.ofNat 8 (filled + 1)])))) ∧
    exec (.clearSchedule .supl tag) s = .next (s.replied { s with
      rst := { s.rst with schedule := [] }
      liu := { s.liu with attentions := { s.liu.attentions with
        scheduleEmpty := s.liu.attentions.scheduleEmpty || !s.rst.schedule.isEmpty } } } .supl tag .ok [BitVec.ofNat 8 filled]) ∧
    (s.rst.log = [] → exec (.fetchCompletion .supl tag) s = .next (s.answered .supl tag .ok [0#8, 0#8])) ∧
    (∀ c cs, s.rst.log = c :: cs → exec (.fetchCompletion .supl tag) s = .next (s.replied { s with
      rst := { s.rst with log := cs, logHead := (s.rst.logHead + 1) % 32, lastFetched := some c } } .supl tag .ok
        (1#8 :: CompletionRecord.bytes c ++ [BitVec.ofNat 8 cs.length])))

/-- R73, R170 to R172, R177, R189: SET ROUTING, SET BUDGET, CLEAR TIMING and ACKNOWLEDGE with their refusals in order. The data of
the responses are laid out by assumption 14. -/
def Obligations.TablesAndTimingAreWritten : Prop :=
  ∀ (tag : Byte) (v k g : Nat) (s : State), s.Ready .supl →
    let refused (r : Reason) := Host.Outcome.next (ρ := Refusal) (φ := Fault) (s.answered .supl tag (.refused r) [])
    let route := exec (.setRouting .supl tag v k g) s
    let fits := 1 ≤ v ∧ v ≤ 8 ∧ k ≤ 15 ∧ g ≤ 15
    let inner := (s.pos k).kind = .process ∨ (s.pos k).kind = .check
    let foreign := g ≠ 0 ∧ ∃ j, (s.pos k).joined = some j ∧ member j.programs g = false
    (¬fits → route = refused .range) ∧ (fits → s.rst.geometry = none → route = refused .geometryAbsent) ∧
    (fits → s.rst.geometry.isSome = true → (s.pos k).kind = .unused → route = refused .notInLine) ∧
    (fits → s.rst.geometry.isSome = true → (s.pos k).kind = .load ∨ (s.pos k).kind = .unload → route = refused .range) ∧
    (fits → s.rst.geometry.isSome = true → inner → foreign → route = refused .programUnknown) ∧
    (fits → s.rst.geometry.isSome = true → inner → ¬foreign → s.rst.routing.length = 128 → ∃ table,
      let u := { s with rst := { s.rst with routing := table } }
      route = .next (u.answered .supl tag .ok [BitVec.ofNat 8 v, BitVec.ofNat 8 k, BitVec.ofNat 8 g]) ∧
      (∀ x j, 1 ≤ x → x ≤ 8 → j ≤ 15 → u.routing x j = if x = v ∧ j = k then g else s.routing x j)) ∧
    (∀ b, (15 < k ∨ g = 0 ∨ 15 < g → exec (.setBudget .supl tag k g b) s = refused .range) ∧
      (k ≤ 15 → 1 ≤ g → g ≤ 15 → s.rst.budgets.length = 240 → s.Shaped → let taken := min b 600000
        let limit := if (s.pos k).orderKind = .process ∨ (s.pos k).orderKind = .check then budgetLimit s.tolerance taken else none
        let formed := (s.pos k).program = some g ∧ (s.work k).running.isSome = true
        ∃ t, exec (.setBudget .supl tag k g b) s = .next t ∧
        s.Answered t .supl tag .ok (u32 taken ++ optBytes u32 (budgetLimit s.tolerance taken)) ∧
        (∀ j x, j ≤ 15 → 1 ≤ x → x ≤ 15 → t.budget j x = if j = k ∧ x = g then taken else s.budget j x) ∧
        t.rst = { s.rst with budgets := t.rst.budgets } ∧ (∀ j, j ≠ k → t.work j = s.work j ∧ t.stats j = s.stats j) ∧
        (¬formed → t.work k = s.work k) ∧
        (formed → (t.work k).limit = limit ∧ (t.work k).running = (s.work k).running ∧
          ((t.work k).overrunTaken = true ↔ (s.work k).overrunTaken = true ∨
            ∃ a c, (s.work k).running = some a ∧ limit = some c ∧ c < a)) ∧
        t.ixc = s.ixc ∧ t.btk = s.btk ∧ t.wlu = s.wlu)) ∧
    (let none3 : Span := { last := none, shortest := none, longest := none }
     exec (.clearTiming .supl tag) s = .next ({ s with ctm := { s.ctm with
       stats := s.ctm.stats.map fun _ => { last := none, longest := none, overruns := 0, gating := 0 }
       indexTimes := none3, cycleTimes := none3, lastIndexRecovered := none, advances := 0, gateHome := 0, gateSupervisor := 0
       gateDrive := 0, gateStop := 0, lastGate := none } }.answered .supl tag .ok [])) ∧
    (∀ m : Mask, let reflecting := m.getLsbD 14 = true ∨ m.getLsbD 9 = true
      let c := Instr.acknowledge .supl tag m
      (reflecting → exec c s = refused .range) ∧
      (¬reflecting → ∃ t data, exec c s = .next t ∧ s.Answered t .supl tag .ok data ∧ t.rst = s.rst ∧ t.ixc = s.ixc ∧ t.btk = s.btk ∧
        t.wlu = s.wlu ∧ t.ctm = s.ctm ∧ t.aar.workList = s.aar.workList ∧
        t.liu.attentions = (let a := s.liu.attentions
          { fault := if m.getLsbD 15 then none else a.fault, overrun := if m.getLsbD 13 then 0#16 else a.overrun
            locatorDrift := if m.getLsbD 12 then 0#16 else a.locatorDrift, homeDrift := if m.getLsbD 11 then none else a.homeDrift
            learnDone := if m.getLsbD 10 then none else a.learnDone, logFull := if m.getLsbD 8 then none else a.logFull
            scheduleEmpty := if m.getLsbD 7 then false else a.scheduleEmpty, orderSlip := if m.getLsbD 6 then none else a.orderSlip
            unknownPallet := if m.getLsbD 5 then none else a.unknownPallet
            fixtureMismatch := if m.getLsbD 4 then none else a.fixtureMismatch
            duplicateSerial := if m.getLsbD 3 then none else a.duplicateSerial
            maintenanceOut := if m.getLsbD 2 then none else a.maintenanceOut
            storeCorrected := if m.getLsbD 1 then none else a.storeCorrected
            storeDamaged := if m.getLsbD 0 then none else a.storeDamaged })))

/-- R138, R149, R150: LEARN arms the next learn, ACCEPT LEARN writes the windows and the pending target of a HELD result, DISCARD
LEARN drops it; with their refusals in order. The data of LEARN are the flag byte of assumption 6, sent as assumption 14 says. -/
def Obligations.LearnRequestsRuleTheHeldResult : Prop :=
  ∀ (tag : Byte) (s : State), s.Ready .supl →
    let refused (r : Reason) := Host.Outcome.next (ρ := Refusal) (φ := Fault) (s.answered .supl tag (.refused r) [])
    let r := s.wlu.record
    let narrow := ∃ e, e ∈ r.entries ∧ e.outcome = some .window ∧ e.high.getD 0 - e.low.getD 0 < s.working.minWidth
    (s.rst.geometry = none → exec (.learn .supl tag) s = refused .geometryAbsent) ∧
    (s.rst.geometry.isSome = true → exec (.learn .supl tag) s =
      .next ({ s with ixc := { s.ixc with learnArmed := true } }.answered .supl tag .accepted [1#8])) ∧
    (r.state ≠ .held → exec (.acceptLearn .supl tag) s = refused .wrongState ∧ exec (.discardLearn .supl tag) s = refused .wrongState) ∧
    (r.state = .held → exec (.discardLearn .supl tag) s =
      .next ({ s with wlu := { s.wlu with record := { r with state := .discarded } } }.answered .supl tag .ok [])) ∧
    (r.state = .held → narrow → exec (.acceptLearn .supl tag) s = refused .wrongState) ∧
    (r.state = .held → ¬narrow → s.rst.windows.length = 15 → s.btk.captures.length = 15 → ∃ t data,
      exec (.acceptLearn .supl tag) s = .next t ∧ s.Answered t .supl tag .ok data ∧
      t.wlu = { s.wlu with record := { r with state := .accepted } } ∧ t.working = s.working ∧
      (∀ x, s.rst.transfer = some x →
        t.rst.transfer = some { x with pending := { x.pending with target := r.placed.getD 0 } }) ∧
      (∀ k, 1 ≤ k → k ≤ 15 → let e := s.sweepEntry k
        t.window k = (if e.outcome = some .window then some { low := e.low.getD 0, high := e.high.getD 0 } else s.window k) ∧
        (t.btk.captures.getD (k - 1) EntryCapture.reset).largest =
          (if e.outcome = some .window then 0 else (s.btk.captures.getD (k - 1) EntryCapture.reset).largest)) ∧
      t.rst.positions = s.rst.positions ∧ t.rst.slots = s.rst.slots ∧ s.SameLists t ∧ t.ixc = s.ixc ∧ t.ctm = s.ctm ∧
      t.btk.counter = s.btk.counter ∧ t.liu.attentions = s.liu.attentions)
end

