-- ==== Sys2Proof/Laws/State.lean ====
section
/-! SUPPORT. One lemma per field for each update of the state, true by rfl: later proofs unfold no record update. -/

namespace Sys2Proof.Machine

@[simp] theorem State.onRst_rst (s : State) (f : Rst → Rst) : (s.onRst f).rst = f s.rst := rfl
@[simp] theorem State.onRst_ixc (s : State) (f : Rst → Rst) : (s.onRst f).ixc = s.ixc := rfl
@[simp] theorem State.onRst_btk (s : State) (f : Rst → Rst) : (s.onRst f).btk = s.btk := rfl
@[simp] theorem State.onRst_wlu (s : State) (f : Rst → Rst) : (s.onRst f).wlu = s.wlu := rfl
@[simp] theorem State.onRst_ctm (s : State) (f : Rst → Rst) : (s.onRst f).ctm = s.ctm := rfl
@[simp] theorem State.onRst_aar (s : State) (f : Rst → Rst) : (s.onRst f).aar = s.aar := rfl
@[simp] theorem State.onRst_liu (s : State) (f : Rst → Rst) : (s.onRst f).liu = s.liu := rfl
@[simp] theorem State.onRst_pins (s : State) (f : Rst → Rst) : (s.onRst f).pins = s.pins := rfl
@[simp] theorem State.onRst_pending (s : State) (f : Rst → Rst) : (s.onRst f).pending = s.pending := rfl
@[simp] theorem State.onIxc_rst (s : State) (f : Ixc → Ixc) : (s.onIxc f).rst = s.rst := rfl
@[simp] theorem State.onIxc_ixc (s : State) (f : Ixc → Ixc) : (s.onIxc f).ixc = f s.ixc := rfl
@[simp] theorem State.onIxc_btk (s : State) (f : Ixc → Ixc) : (s.onIxc f).btk = s.btk := rfl
@[simp] theorem State.onIxc_wlu (s : State) (f : Ixc → Ixc) : (s.onIxc f).wlu = s.wlu := rfl
@[simp] theorem State.onIxc_ctm (s : State) (f : Ixc → Ixc) : (s.onIxc f).ctm = s.ctm := rfl
@[simp] theorem State.onIxc_aar (s : State) (f : Ixc → Ixc) : (s.onIxc f).aar = s.aar := rfl
@[simp] theorem State.onIxc_liu (s : State) (f : Ixc → Ixc) : (s.onIxc f).liu = s.liu := rfl
@[simp] theorem State.onIxc_pins (s : State) (f : Ixc → Ixc) : (s.onIxc f).pins = s.pins := rfl
@[simp] theorem State.onIxc_pending (s : State) (f : Ixc → Ixc) : (s.onIxc f).pending = s.pending := rfl
@[simp] theorem State.onBtk_rst (s : State) (f : Btk → Btk) : (s.onBtk f).rst = s.rst := rfl
@[simp] theorem State.onBtk_ixc (s : State) (f : Btk → Btk) : (s.onBtk f).ixc = s.ixc := rfl
@[simp] theorem State.onBtk_btk (s : State) (f : Btk → Btk) : (s.onBtk f).btk = f s.btk := rfl
@[simp] theorem State.onBtk_wlu (s : State) (f : Btk → Btk) : (s.onBtk f).wlu = s.wlu := rfl
@[simp] theorem State.onBtk_ctm (s : State) (f : Btk → Btk) : (s.onBtk f).ctm = s.ctm := rfl
@[simp] theorem State.onBtk_aar (s : State) (f : Btk → Btk) : (s.onBtk f).aar = s.aar := rfl
@[simp] theorem State.onBtk_liu (s : State) (f : Btk → Btk) : (s.onBtk f).liu = s.liu := rfl
@[simp] theorem State.onBtk_pins (s : State) (f : Btk → Btk) : (s.onBtk f).pins = s.pins := rfl
@[simp] theorem State.onBtk_pending (s : State) (f : Btk → Btk) : (s.onBtk f).pending = s.pending := rfl
@[simp] theorem State.onWlu_rst (s : State) (f : Wlu → Wlu) : (s.onWlu f).rst = s.rst := rfl
@[simp] theorem State.onWlu_ixc (s : State) (f : Wlu → Wlu) : (s.onWlu f).ixc = s.ixc := rfl
@[simp] theorem State.onWlu_btk (s : State) (f : Wlu → Wlu) : (s.onWlu f).btk = s.btk := rfl
@[simp] theorem State.onWlu_wlu (s : State) (f : Wlu → Wlu) : (s.onWlu f).wlu = f s.wlu := rfl
@[simp] theorem State.onWlu_ctm (s : State) (f : Wlu → Wlu) : (s.onWlu f).ctm = s.ctm := rfl
@[simp] theorem State.onWlu_aar (s : State) (f : Wlu → Wlu) : (s.onWlu f).aar = s.aar := rfl
@[simp] theorem State.onWlu_liu (s : State) (f : Wlu → Wlu) : (s.onWlu f).liu = s.liu := rfl
@[simp] theorem State.onWlu_pins (s : State) (f : Wlu → Wlu) : (s.onWlu f).pins = s.pins := rfl
@[simp] theorem State.onWlu_pending (s : State) (f : Wlu → Wlu) : (s.onWlu f).pending = s.pending := rfl
@[simp] theorem State.onCtm_rst (s : State) (f : Ctm → Ctm) : (s.onCtm f).rst = s.rst := rfl
@[simp] theorem State.onCtm_ixc (s : State) (f : Ctm → Ctm) : (s.onCtm f).ixc = s.ixc := rfl
@[simp] theorem State.onCtm_btk (s : State) (f : Ctm → Ctm) : (s.onCtm f).btk = s.btk := rfl
@[simp] theorem State.onCtm_wlu (s : State) (f : Ctm → Ctm) : (s.onCtm f).wlu = s.wlu := rfl
@[simp] theorem State.onCtm_ctm (s : State) (f : Ctm → Ctm) : (s.onCtm f).ctm = f s.ctm := rfl
@[simp] theorem State.onCtm_aar (s : State) (f : Ctm → Ctm) : (s.onCtm f).aar = s.aar := rfl
@[simp] theorem State.onCtm_liu (s : State) (f : Ctm → Ctm) : (s.onCtm f).liu = s.liu := rfl
@[simp] theorem State.onCtm_pins (s : State) (f : Ctm → Ctm) : (s.onCtm f).pins = s.pins := rfl
@[simp] theorem State.onCtm_pending (s : State) (f : Ctm → Ctm) : (s.onCtm f).pending = s.pending := rfl
@[simp] theorem State.onAar_rst (s : State) (f : Aar → Aar) : (s.onAar f).rst = s.rst := rfl
@[simp] theorem State.onAar_ixc (s : State) (f : Aar → Aar) : (s.onAar f).ixc = s.ixc := rfl
@[simp] theorem State.onAar_btk (s : State) (f : Aar → Aar) : (s.onAar f).btk = s.btk := rfl
@[simp] theorem State.onAar_wlu (s : State) (f : Aar → Aar) : (s.onAar f).wlu = s.wlu := rfl
@[simp] theorem State.onAar_ctm (s : State) (f : Aar → Aar) : (s.onAar f).ctm = s.ctm := rfl
@[simp] theorem State.onAar_aar (s : State) (f : Aar → Aar) : (s.onAar f).aar = f s.aar := rfl
@[simp] theorem State.onAar_liu (s : State) (f : Aar → Aar) : (s.onAar f).liu = s.liu := rfl
@[simp] theorem State.onAar_pins (s : State) (f : Aar → Aar) : (s.onAar f).pins = s.pins := rfl
@[simp] theorem State.onAar_pending (s : State) (f : Aar → Aar) : (s.onAar f).pending = s.pending := rfl
@[simp] theorem State.onLiu_rst (s : State) (f : Liu → Liu) : (s.onLiu f).rst = s.rst := rfl
@[simp] theorem State.onLiu_ixc (s : State) (f : Liu → Liu) : (s.onLiu f).ixc = s.ixc := rfl
@[simp] theorem State.onLiu_btk (s : State) (f : Liu → Liu) : (s.onLiu f).btk = s.btk := rfl
@[simp] theorem State.onLiu_wlu (s : State) (f : Liu → Liu) : (s.onLiu f).wlu = s.wlu := rfl
@[simp] theorem State.onLiu_ctm (s : State) (f : Liu → Liu) : (s.onLiu f).ctm = s.ctm := rfl
@[simp] theorem State.onLiu_aar (s : State) (f : Liu → Liu) : (s.onLiu f).aar = s.aar := rfl
@[simp] theorem State.onLiu_liu (s : State) (f : Liu → Liu) : (s.onLiu f).liu = f s.liu := rfl
@[simp] theorem State.onLiu_pins (s : State) (f : Liu → Liu) : (s.onLiu f).pins = s.pins := rfl
@[simp] theorem State.onLiu_pending (s : State) (f : Liu → Liu) : (s.onLiu f).pending = s.pending := rfl
@[simp] theorem State.onPins_rst (s : State) (f : Pins → Pins) : (s.onPins f).rst = s.rst := rfl
@[simp] theorem State.onPins_ixc (s : State) (f : Pins → Pins) : (s.onPins f).ixc = s.ixc := rfl
@[simp] theorem State.onPins_btk (s : State) (f : Pins → Pins) : (s.onPins f).btk = s.btk := rfl
@[simp] theorem State.onPins_wlu (s : State) (f : Pins → Pins) : (s.onPins f).wlu = s.wlu := rfl
@[simp] theorem State.onPins_ctm (s : State) (f : Pins → Pins) : (s.onPins f).ctm = s.ctm := rfl
@[simp] theorem State.onPins_aar (s : State) (f : Pins → Pins) : (s.onPins f).aar = s.aar := rfl
@[simp] theorem State.onPins_liu (s : State) (f : Pins → Pins) : (s.onPins f).liu = s.liu := rfl
@[simp] theorem State.onPins_pins (s : State) (f : Pins → Pins) : (s.onPins f).pins = f s.pins := rfl
@[simp] theorem State.onPins_pending (s : State) (f : Pins → Pins) : (s.onPins f).pending = s.pending := rfl
@[simp] theorem State.onPos_ixc (s : State) (k : Nat) (f : Position → Position) : (s.onPos k f).ixc = s.ixc := rfl
@[simp] theorem State.onPos_btk (s : State) (k : Nat) (f : Position → Position) : (s.onPos k f).btk = s.btk := rfl
@[simp] theorem State.onPos_wlu (s : State) (k : Nat) (f : Position → Position) : (s.onPos k f).wlu = s.wlu := rfl
@[simp] theorem State.onPos_ctm (s : State) (k : Nat) (f : Position → Position) : (s.onPos k f).ctm = s.ctm := rfl
@[simp] theorem State.onPos_aar (s : State) (k : Nat) (f : Position → Position) : (s.onPos k f).aar = s.aar := rfl
@[simp] theorem State.onPos_liu (s : State) (k : Nat) (f : Position → Position) : (s.onPos k f).liu = s.liu := rfl
@[simp] theorem State.onPos_pins (s : State) (k : Nat) (f : Position → Position) : (s.onPos k f).pins = s.pins := rfl
@[simp] theorem State.onPos_pending (s : State) (k : Nat) (f : Position → Position) : (s.onPos k f).pending = s.pending := rfl
@[simp] theorem State.onDetail_ixc (s : State) (k : Nat) (f : OrderDetail → OrderDetail) : (s.onDetail k f).ixc = s.ixc := rfl
@[simp] theorem State.onDetail_btk (s : State) (k : Nat) (f : OrderDetail → OrderDetail) : (s.onDetail k f).btk = s.btk := rfl
@[simp] theorem State.onDetail_wlu (s : State) (k : Nat) (f : OrderDetail → OrderDetail) : (s.onDetail k f).wlu = s.wlu := rfl
@[simp] theorem State.onDetail_ctm (s : State) (k : Nat) (f : OrderDetail → OrderDetail) : (s.onDetail k f).ctm = s.ctm := rfl
@[simp] theorem State.onDetail_aar (s : State) (k : Nat) (f : OrderDetail → OrderDetail) : (s.onDetail k f).aar = s.aar := rfl
@[simp] theorem State.onDetail_liu (s : State) (k : Nat) (f : OrderDetail → OrderDetail) : (s.onDetail k f).liu = s.liu := rfl
@[simp] theorem State.onDetail_pins (s : State) (k : Nat) (f : OrderDetail → OrderDetail) : (s.onDetail k f).pins = s.pins := rfl
@[simp] theorem State.onDetail_pending (s : State) (k : Nat) (f : OrderDetail → OrderDetail) : (s.onDetail k f).pending = s.pending := rfl
@[simp] theorem State.onPallet_ixc (s : State) (n : Nat) (f : Pallet → Pallet) : (s.onPallet n f).ixc = s.ixc := rfl
@[simp] theorem State.onPallet_btk (s : State) (n : Nat) (f : Pallet → Pallet) : (s.onPallet n f).btk = s.btk := rfl
@[simp] theorem State.onPallet_wlu (s : State) (n : Nat) (f : Pallet → Pallet) : (s.onPallet n f).wlu = s.wlu := rfl
@[simp] theorem State.onPallet_ctm (s : State) (n : Nat) (f : Pallet → Pallet) : (s.onPallet n f).ctm = s.ctm := rfl
@[simp] theorem State.onPallet_aar (s : State) (n : Nat) (f : Pallet → Pallet) : (s.onPallet n f).aar = s.aar := rfl
@[simp] theorem State.onPallet_liu (s : State) (n : Nat) (f : Pallet → Pallet) : (s.onPallet n f).liu = s.liu := rfl
@[simp] theorem State.onPallet_pins (s : State) (n : Nat) (f : Pallet → Pallet) : (s.onPallet n f).pins = s.pins := rfl
@[simp] theorem State.onPallet_pending (s : State) (n : Nat) (f : Pallet → Pallet) : (s.onPallet n f).pending = s.pending := rfl
@[simp] theorem State.onWorkpiece_ixc (s : State) (n : Nat) (f : Workpiece → Workpiece) : (s.onWorkpiece n f).ixc = s.ixc := rfl
@[simp] theorem State.onWorkpiece_btk (s : State) (n : Nat) (f : Workpiece → Workpiece) : (s.onWorkpiece n f).btk = s.btk := rfl
@[simp] theorem State.onWorkpiece_wlu (s : State) (n : Nat) (f : Workpiece → Workpiece) : (s.onWorkpiece n f).wlu = s.wlu := rfl
@[simp] theorem State.onWorkpiece_ctm (s : State) (n : Nat) (f : Workpiece → Workpiece) : (s.onWorkpiece n f).ctm = s.ctm := rfl
@[simp] theorem State.onWorkpiece_aar (s : State) (n : Nat) (f : Workpiece → Workpiece) : (s.onWorkpiece n f).aar = s.aar := rfl
@[simp] theorem State.onWorkpiece_liu (s : State) (n : Nat) (f : Workpiece → Workpiece) : (s.onWorkpiece n f).liu = s.liu := rfl
@[simp] theorem State.onWorkpiece_pins (s : State) (n : Nat) (f : Workpiece → Workpiece) : (s.onWorkpiece n f).pins = s.pins := rfl
@[simp] theorem State.onWorkpiece_pending (s : State) (n : Nat) (f : Workpiece → Workpiece) : (s.onWorkpiece n f).pending = s.pending := rfl
@[simp] theorem State.setOccupant_ixc (s : State) (k : Nat) (o : Occupant) : (s.setOccupant k o).ixc = s.ixc := rfl
@[simp] theorem State.setOccupant_btk (s : State) (k : Nat) (o : Occupant) : (s.setOccupant k o).btk = s.btk := rfl
@[simp] theorem State.setOccupant_wlu (s : State) (k : Nat) (o : Occupant) : (s.setOccupant k o).wlu = s.wlu := rfl
@[simp] theorem State.setOccupant_ctm (s : State) (k : Nat) (o : Occupant) : (s.setOccupant k o).ctm = s.ctm := rfl
@[simp] theorem State.setOccupant_aar (s : State) (k : Nat) (o : Occupant) : (s.setOccupant k o).aar = s.aar := rfl
@[simp] theorem State.setOccupant_liu (s : State) (k : Nat) (o : Occupant) : (s.setOccupant k o).liu = s.liu := rfl
@[simp] theorem State.setOccupant_pins (s : State) (k : Nat) (o : Occupant) : (s.setOccupant k o).pins = s.pins := rfl
@[simp] theorem State.setOccupant_pending (s : State) (k : Nat) (o : Occupant) : (s.setOccupant k o).pending = s.pending := rfl
@[simp] theorem State.rewriteCells_ixc (s : State) (cs : List Cell) : (s.rewriteCells cs).ixc = s.ixc := rfl
@[simp] theorem State.rewriteCells_btk (s : State) (cs : List Cell) : (s.rewriteCells cs).btk = s.btk := rfl
@[simp] theorem State.rewriteCells_wlu (s : State) (cs : List Cell) : (s.rewriteCells cs).wlu = s.wlu := rfl
@[simp] theorem State.rewriteCells_ctm (s : State) (cs : List Cell) : (s.rewriteCells cs).ctm = s.ctm := rfl
@[simp] theorem State.rewriteCells_aar (s : State) (cs : List Cell) : (s.rewriteCells cs).aar = s.aar := rfl
@[simp] theorem State.rewriteCells_liu (s : State) (cs : List Cell) : (s.rewriteCells cs).liu = s.liu := rfl
@[simp] theorem State.rewriteCells_pins (s : State) (cs : List Cell) : (s.rewriteCells cs).pins = s.pins := rfl
@[simp] theorem State.rewriteCells_pending (s : State) (cs : List Cell) : (s.rewriteCells cs).pending = s.pending := rfl
@[simp] theorem State.onWork_rst (s : State) (k : Nat) (f : WorkTimer → WorkTimer) : (s.onWork k f).rst = s.rst := rfl
@[simp] theorem State.onWork_ixc (s : State) (k : Nat) (f : WorkTimer → WorkTimer) : (s.onWork k f).ixc = s.ixc := rfl
@[simp] theorem State.onWork_btk (s : State) (k : Nat) (f : WorkTimer → WorkTimer) : (s.onWork k f).btk = s.btk := rfl
@[simp] theorem State.onWork_wlu (s : State) (k : Nat) (f : WorkTimer → WorkTimer) : (s.onWork k f).wlu = s.wlu := rfl
@[simp] theorem State.onWork_aar (s : State) (k : Nat) (f : WorkTimer → WorkTimer) : (s.onWork k f).aar = s.aar := rfl
@[simp] theorem State.onWork_liu (s : State) (k : Nat) (f : WorkTimer → WorkTimer) : (s.onWork k f).liu = s.liu := rfl
@[simp] theorem State.onWork_pins (s : State) (k : Nat) (f : WorkTimer → WorkTimer) : (s.onWork k f).pins = s.pins := rfl
@[simp] theorem State.onWork_pending (s : State) (k : Nat) (f : WorkTimer → WorkTimer) : (s.onWork k f).pending = s.pending := rfl
@[simp] theorem State.onStats_rst (s : State) (k : Nat) (f : WorkStats → WorkStats) : (s.onStats k f).rst = s.rst := rfl
@[simp] theorem State.onStats_ixc (s : State) (k : Nat) (f : WorkStats → WorkStats) : (s.onStats k f).ixc = s.ixc := rfl
@[simp] theorem State.onStats_btk (s : State) (k : Nat) (f : WorkStats → WorkStats) : (s.onStats k f).btk = s.btk := rfl
@[simp] theorem State.onStats_wlu (s : State) (k : Nat) (f : WorkStats → WorkStats) : (s.onStats k f).wlu = s.wlu := rfl
@[simp] theorem State.onStats_aar (s : State) (k : Nat) (f : WorkStats → WorkStats) : (s.onStats k f).aar = s.aar := rfl
@[simp] theorem State.onStats_liu (s : State) (k : Nat) (f : WorkStats → WorkStats) : (s.onStats k f).liu = s.liu := rfl
@[simp] theorem State.onStats_pins (s : State) (k : Nat) (f : WorkStats → WorkStats) : (s.onStats k f).pins = s.pins := rfl
@[simp] theorem State.onStats_pending (s : State) (k : Nat) (f : WorkStats → WorkStats) : (s.onStats k f).pending = s.pending := rfl
@[simp] theorem State.setStartTimer_rst (s : State) (k : Nat) (t : Option Nat) : (s.setStartTimer k t).rst = s.rst := rfl
@[simp] theorem State.setStartTimer_ixc (s : State) (k : Nat) (t : Option Nat) : (s.setStartTimer k t).ixc = s.ixc := rfl
@[simp] theorem State.setStartTimer_btk (s : State) (k : Nat) (t : Option Nat) : (s.setStartTimer k t).btk = s.btk := rfl
@[simp] theorem State.setStartTimer_wlu (s : State) (k : Nat) (t : Option Nat) : (s.setStartTimer k t).wlu = s.wlu := rfl
@[simp] theorem State.setStartTimer_aar (s : State) (k : Nat) (t : Option Nat) : (s.setStartTimer k t).aar = s.aar := rfl
@[simp] theorem State.setStartTimer_liu (s : State) (k : Nat) (t : Option Nat) : (s.setStartTimer k t).liu = s.liu := rfl
@[simp] theorem State.setStartTimer_pins (s : State) (k : Nat) (t : Option Nat) : (s.setStartTimer k t).pins = s.pins := rfl
@[simp] theorem State.setStartTimer_pending (s : State) (k : Nat) (t : Option Nat) : (s.setStartTimer k t).pending = s.pending := rfl
@[simp] theorem State.stopTimers_rst (s : State) (k : Nat) : (s.stopTimers k).rst = s.rst := rfl
@[simp] theorem State.stopTimers_ixc (s : State) (k : Nat) : (s.stopTimers k).ixc = s.ixc := rfl
@[simp] theorem State.stopTimers_btk (s : State) (k : Nat) : (s.stopTimers k).btk = s.btk := rfl
@[simp] theorem State.stopTimers_wlu (s : State) (k : Nat) : (s.stopTimers k).wlu = s.wlu := rfl
@[simp] theorem State.stopTimers_aar (s : State) (k : Nat) : (s.stopTimers k).aar = s.aar := rfl
@[simp] theorem State.stopTimers_liu (s : State) (k : Nat) : (s.stopTimers k).liu = s.liu := rfl
@[simp] theorem State.stopTimers_pins (s : State) (k : Nat) : (s.stopTimers k).pins = s.pins := rfl
@[simp] theorem State.stopTimers_pending (s : State) (k : Nat) : (s.stopTimers k).pending = s.pending := rfl
@[simp] theorem State.onLink_rst (s : State) (l : Link) (f : LinkRecord → LinkRecord) : (s.onLink l f).rst = s.rst := rfl
@[simp] theorem State.onLink_ixc (s : State) (l : Link) (f : LinkRecord → LinkRecord) : (s.onLink l f).ixc = s.ixc := rfl
@[simp] theorem State.onLink_btk (s : State) (l : Link) (f : LinkRecord → LinkRecord) : (s.onLink l f).btk = s.btk := rfl
@[simp] theorem State.onLink_wlu (s : State) (l : Link) (f : LinkRecord → LinkRecord) : (s.onLink l f).wlu = s.wlu := rfl
@[simp] theorem State.onLink_ctm (s : State) (l : Link) (f : LinkRecord → LinkRecord) : (s.onLink l f).ctm = s.ctm := rfl
@[simp] theorem State.onLink_aar (s : State) (l : Link) (f : LinkRecord → LinkRecord) : (s.onLink l f).aar = s.aar := rfl
@[simp] theorem State.onLink_pins (s : State) (l : Link) (f : LinkRecord → LinkRecord) : (s.onLink l f).pins = s.pins := rfl
@[simp] theorem State.onLink_pending (s : State) (l : Link) (f : LinkRecord → LinkRecord) : (s.onLink l f).pending = s.pending := rfl
@[simp] theorem State.post_rst (s : State) (l : Link) (f : Unsolicited) : (s.post l f).rst = s.rst := rfl
@[simp] theorem State.post_ixc (s : State) (l : Link) (f : Unsolicited) : (s.post l f).ixc = s.ixc := rfl
@[simp] theorem State.post_btk (s : State) (l : Link) (f : Unsolicited) : (s.post l f).btk = s.btk := rfl
@[simp] theorem State.post_wlu (s : State) (l : Link) (f : Unsolicited) : (s.post l f).wlu = s.wlu := rfl
@[simp] theorem State.post_ctm (s : State) (l : Link) (f : Unsolicited) : (s.post l f).ctm = s.ctm := rfl
@[simp] theorem State.post_aar (s : State) (l : Link) (f : Unsolicited) : (s.post l f).aar = s.aar := rfl
@[simp] theorem State.post_pins (s : State) (l : Link) (f : Unsolicited) : (s.post l f).pins = s.pins := rfl
@[simp] theorem State.post_pending (s : State) (l : Link) (f : Unsolicited) : (s.post l f).pending = s.pending := rfl
@[simp] theorem State.attend_rst (s : State) (f : Attentions → Attentions) : (s.attend f).rst = s.rst := rfl
@[simp] theorem State.attend_ixc (s : State) (f : Attentions → Attentions) : (s.attend f).ixc = s.ixc := rfl
@[simp] theorem State.attend_btk (s : State) (f : Attentions → Attentions) : (s.attend f).btk = s.btk := rfl
@[simp] theorem State.attend_wlu (s : State) (f : Attentions → Attentions) : (s.attend f).wlu = s.wlu := rfl
@[simp] theorem State.attend_ctm (s : State) (f : Attentions → Attentions) : (s.attend f).ctm = s.ctm := rfl
@[simp] theorem State.attend_aar (s : State) (f : Attentions → Attentions) : (s.attend f).aar = s.aar := rfl
@[simp] theorem State.attend_pins (s : State) (f : Attentions → Attentions) : (s.attend f).pins = s.pins := rfl
@[simp] theorem State.attend_pending (s : State) (f : Attentions → Attentions) : (s.attend f).pending = s.pending := rfl
@[simp] theorem State.queueWork_rst (s : State) (w : WorkItem) : (s.queueWork w).rst = s.rst := rfl
@[simp] theorem State.queueWork_ixc (s : State) (w : WorkItem) : (s.queueWork w).ixc = s.ixc := rfl
@[simp] theorem State.queueWork_btk (s : State) (w : WorkItem) : (s.queueWork w).btk = s.btk := rfl
@[simp] theorem State.queueWork_wlu (s : State) (w : WorkItem) : (s.queueWork w).wlu = s.wlu := rfl
@[simp] theorem State.queueWork_ctm (s : State) (w : WorkItem) : (s.queueWork w).ctm = s.ctm := rfl
@[simp] theorem State.queueWork_liu (s : State) (w : WorkItem) : (s.queueWork w).liu = s.liu := rfl
@[simp] theorem State.queueWork_pins (s : State) (w : WorkItem) : (s.queueWork w).pins = s.pins := rfl
@[simp] theorem State.queueWork_pending (s : State) (w : WorkItem) : (s.queueWork w).pending = s.pending := rfl
@[simp] theorem State.popWork_rst (s : State)  : (s.popWork).rst = s.rst := rfl
@[simp] theorem State.popWork_ixc (s : State)  : (s.popWork).ixc = s.ixc := rfl
@[simp] theorem State.popWork_btk (s : State)  : (s.popWork).btk = s.btk := rfl
@[simp] theorem State.popWork_wlu (s : State)  : (s.popWork).wlu = s.wlu := rfl
@[simp] theorem State.popWork_ctm (s : State)  : (s.popWork).ctm = s.ctm := rfl
@[simp] theorem State.popWork_liu (s : State)  : (s.popWork).liu = s.liu := rfl
@[simp] theorem State.popWork_pins (s : State)  : (s.popWork).pins = s.pins := rfl
@[simp] theorem State.popWork_pending (s : State)  : (s.popWork).pending = s.pending := rfl
@[simp] theorem State.withdrawWork_rst (s : State)  : (s.withdrawWork).rst = s.rst := rfl
@[simp] theorem State.withdrawWork_ixc (s : State)  : (s.withdrawWork).ixc = s.ixc := rfl
@[simp] theorem State.withdrawWork_btk (s : State)  : (s.withdrawWork).btk = s.btk := rfl
@[simp] theorem State.withdrawWork_wlu (s : State)  : (s.withdrawWork).wlu = s.wlu := rfl
@[simp] theorem State.withdrawWork_ctm (s : State)  : (s.withdrawWork).ctm = s.ctm := rfl
@[simp] theorem State.withdrawWork_liu (s : State)  : (s.withdrawWork).liu = s.liu := rfl
@[simp] theorem State.withdrawWork_pins (s : State)  : (s.withdrawWork).pins = s.pins := rfl
@[simp] theorem State.withdrawWork_pending (s : State)  : (s.withdrawWork).pending = s.pending := rfl

end Sys2Proof.Machine
end

