-- ==== Sys2Proof/Laws/Tables.lean ====
section
/-! SUPPORT. Reading after writing: a table's entry after an update of it or of another, the members of a set formed from a
property, and the places of the links. -/

namespace Sys2Proof.Machine

/-! ### Lists -/

theorem getD_modify_self {α : Type} (xs : List α) (k : Nat) (f : α → α) (d : α) (h : k < xs.length) :
    (xs.modify k f).getD k d = f (xs.getD k d) := by
  simp [List.getD_eq_getElem?_getD, List.getElem?_eq_getElem h]

theorem getD_modify_ne {α : Type} (xs : List α) {j k : Nat} (f : α → α) (d : α) (h : j ≠ k) :
    (xs.modify k f).getD j d = xs.getD j d := by
  simp [List.getD_eq_getElem?_getD, Ne.symm h]

theorem getD_set_self {α : Type} (xs : List α) (k : Nat) (x d : α) (h : k < xs.length) : (xs.set k x).getD k d = x := by
  simp [List.getD_eq_getElem?_getD, h]

theorem getD_set_ne {α : Type} (xs : List α) {j k : Nat} (x d : α) (h : j ≠ k) : (xs.set k x).getD j d = xs.getD j d := by
  simp [List.getD_eq_getElem?_getD, Ne.symm h]

theorem getD_mapIdx {α β : Type} (xs : List α) (k : Nat) (f : Nat → α → β) (d : β) (e : α) (h : k < xs.length) :
    (xs.mapIdx f).getD k d = f k (xs.getD k e) := by
  simp [List.getD_eq_getElem?_getD, List.getElem?_eq_getElem h]

/-! ### Positions and their records -/

theorem State.pos_onPos_self (s : State) {k : Nat} (f : Position → Position) (h : k < s.rst.positions.length) :
    (s.onPos k f).pos k = f (s.pos k) := getD_modify_self _ _ _ _ h

theorem State.pos_onPos_ne (s : State) {j k : Nat} (f : Position → Position) (h : j ≠ k) :
    (s.onPos k f).pos j = s.pos j := getD_modify_ne _ _ _ h

@[simp] theorem State.onPos_length (s : State) (k : Nat) (f : Position → Position) :
    (s.onPos k f).rst.positions.length = s.rst.positions.length := by simp [State.onPos]

@[simp] theorem State.onPos_detail (s : State) (j k : Nat) (f : Position → Position) : (s.onPos k f).detail j = s.detail j := rfl

@[simp] theorem State.onPos_count (s : State) (k : Nat) (f : Position → Position) : (s.onPos k f).count = s.count := rfl

theorem State.detail_onDetail_self (s : State) {k : Nat} (f : OrderDetail → OrderDetail) (h : k < s.rst.details.length) :
    (s.onDetail k f).detail k = f (s.detail k) := getD_modify_self _ _ _ _ h

theorem State.detail_onDetail_ne (s : State) {j k : Nat} (f : OrderDetail → OrderDetail) (h : j ≠ k) :
    (s.onDetail k f).detail j = s.detail j := getD_modify_ne _ _ _ h

@[simp] theorem State.onDetail_length (s : State) (k : Nat) (f : OrderDetail → OrderDetail) :
    (s.onDetail k f).rst.details.length = s.rst.details.length := by simp [State.onDetail]

@[simp] theorem State.onDetail_pos (s : State) (j k : Nat) (f : OrderDetail → OrderDetail) : (s.onDetail k f).pos j = s.pos j := rfl

@[simp] theorem State.onDetail_positions (s : State) (k : Nat) (f : OrderDetail → OrderDetail) :
    (s.onDetail k f).rst.positions = s.rst.positions := rfl

@[simp] theorem State.onPos_details (s : State) (k : Nat) (f : Position → Position) :
    (s.onPos k f).rst.details = s.rst.details := rfl

theorem State.work_onWork_self (s : State) {k : Nat} (f : WorkTimer → WorkTimer) (h : k < s.ctm.work.length) :
    (s.onWork k f).work k = f (s.work k) := getD_modify_self _ _ _ _ h

theorem State.work_onWork_ne (s : State) {j k : Nat} (f : WorkTimer → WorkTimer) (h : j ≠ k) :
    (s.onWork k f).work j = s.work j := getD_modify_ne _ _ _ h

theorem State.stats_onStats_self (s : State) {k : Nat} (f : WorkStats → WorkStats) (h : k < s.ctm.stats.length) :
    (s.onStats k f).stats k = f (s.stats k) := getD_modify_self _ _ _ _ h

theorem State.stats_onStats_ne (s : State) {j k : Nat} (f : WorkStats → WorkStats) (h : j ≠ k) :
    (s.onStats k f).stats j = s.stats j := getD_modify_ne _ _ _ h

theorem State.startTimer_set_self (s : State) {k : Nat} (t : Option Nat) (h : k < s.ctm.startTimers.length) :
    (s.setStartTimer k t).startTimer k = t := getD_set_self _ _ _ _ h

theorem State.startTimer_set_ne (s : State) {j k : Nat} (t : Option Nat) (h : j ≠ k) :
    (s.setStartTimer k t).startTimer j = s.startTimer j := getD_set_ne _ _ _ h

/-! ### Links -/

theorem link_place_lt (l : Link) : l.place < 18 := by
  cases l with
  | sl k => exact Nat.lt_trans k.isLt (by decide)
  | supl => decide
  | drvl => decide

/-- The link at a link's place is that link. -/
@[simp] theorem link_at_place (l : Link) : Link.at l.place = l := by
  cases l with
  | sl k => simp [Link.at, Link.place]
  | supl => simp [Link.at, Link.place]
  | drvl => simp [Link.at, Link.place]

theorem link_place_injective {a b : Link} (h : a.place = b.place) : a = b := by
  rw [← link_at_place a, ← link_at_place b, h]

theorem State.link_onLink_self (s : State) (l : Link) (f : LinkRecord → LinkRecord) (h : s.liu.links.length = 18) :
    (s.onLink l f).link l = f (s.link l) := getD_modify_self _ _ _ _ (h ▸ link_place_lt l)

theorem State.link_onLink_ne (s : State) {a b : Link} (f : LinkRecord → LinkRecord) (h : a ≠ b) :
    (s.onLink b f).link a = s.link a := getD_modify_ne _ _ _ fun e => h (link_place_injective e)

@[simp] theorem State.onLink_length (s : State) (l : Link) (f : LinkRecord → LinkRecord) :
    (s.onLink l f).liu.links.length = s.liu.links.length := by simp [State.onLink, State.onLiu]

@[simp] theorem State.onLink_attentions (s : State) (l : Link) (f : LinkRecord → LinkRecord) :
    (s.onLink l f).liu.attentions = s.liu.attentions := rfl

@[simp] theorem State.onLink_sequence (s : State) (l : Link) (f : LinkRecord → LinkRecord) :
    (s.onLink l f).liu.sequence = s.liu.sequence := rfl

@[simp] theorem State.attend_links (s : State) (f : Attentions → Attentions) : (s.attend f).liu.links = s.liu.links := rfl

@[simp] theorem State.attend_attentions (s : State) (f : Attentions → Attentions) :
    (s.attend f).liu.attentions = f s.liu.attentions := rfl

@[simp] theorem State.attend_link (s : State) (f : Attentions → Attentions) (l : Link) : (s.attend f).link l = s.link l := rfl

/-! ### Sets -/

theorem getLsbD_one_shiftLeft (k j : Nat) (hj : j < 16) : (1#16 <<< k).getLsbD j = decide (j = k) := by
  rw [BitVec.getLsbD_shiftLeft]
  by_cases h : j < k
  · have : j ≠ k := by omega
    simp [h, this]
  · by_cases e : j = k
    · subst e; simp [hj]
    · have : ¬ (j - k = 0) := by omega
      simp [h, e, hj, BitVec.getLsbD_one, this]

theorem member_withMember (m : Mask) (k j : Nat) (hj : j < 16) : member (withMember m k) j = (member m j || decide (j = k)) := by
  simp [member, withMember, BitVec.getLsbD_or, getLsbD_one_shiftLeft k j hj]

theorem member_foldl (p : Nat → Bool) (xs : List Nat) (m : Mask) (j : Nat) (hj : j < 16) :
    member (xs.foldl (fun m k => if p k then m ||| (1#16 <<< k) else m) m) j = (member m j || (xs.contains j && p j)) := by
  induction xs generalizing m with
  | nil => simp
  | cons x xs ih =>
    rw [List.foldl_cons, ih]
    by_cases hx : p x = true
    · rw [if_pos hx]
      have := member_withMember m x j hj
      simp only [withMember] at this
      rw [this]
      by_cases e : j = x
      · subst e; simp [hx]
      · simp [e]
    · rw [if_neg hx]
      by_cases e : j = x
      · subst e; simp [hx]
      · simp [e]

/-- A set formed from a property has exactly the members 0 to 15 for which it holds. -/
theorem member_maskOf (p : Nat → Bool) (k : Nat) (hk : k < 16) : member (maskOf p) k = p k := by
  rw [maskOf, member_foldl p _ _ k hk]
  have h0 : member 0#16 k = false := by simp [member]
  rw [h0]
  simp [hk]

end Sys2Proof.Machine
end

