-- ==== Sys2Proof/Laws/Grant.lean ====
section
/-! SUPPORT. What an event and a grant can do, said once: the reading of sound cells, the closing of an event, and the
grant of a request that its link takes. -/

namespace Sys2Proof.Machine

/-! ### Reading of cells -/

/-- Sound cells are read without any effect. -/
theorem State.readCells_sound (s : State) (cells : List Cell) (b : Bool) (h : s.rst.errors = []) : s.readCells cells b = s := by
  simp [State.readCells, h]

/-- Sound cells are read without any effect, in however many stages. -/
theorem State.readStages_sound (s : State) (stages : List (State → List Cell)) (b : Bool) (h : s.rst.errors = []) :
    s.readStages stages b = s := s.readCells_sound _ b h

/-- On a store without errors every stage chooses its cells by the state as it stands. -/
theorem State.gather_sound (s : State) (stages : List (State → List Cell)) (h : s.rst.errors = []) :
    s.gather stages = stages.flatMap fun f => f s := by
  induction stages with
  | nil => rfl
  | cons f fs ih => simp [State.gather, State.readCells_sound s _ _ h, ih]

/-- A grant of one stage reads the cells of that stage. -/
theorem State.readStages_one (s : State) (f : State → List Cell) (b : Bool) : s.readStages [f] b = s.readCells (f s) b := by
  simp [State.readStages, State.gather]

/-- A store without errors has no cell with an error to find. -/
theorem State.found_sound (s : State) (x : CellError) (cells : List Cell) (h : s.rst.errors = []) : s.found x cells = [] := by
  simp [State.found, h, sortCells]

/-- Nothing waits for the store exactly where the scrubber's grant says so. -/
theorem State.quiet_iff (s : State) : s.quiet = true ↔ s.Quiet := by
  simp only [State.quiet, Bool.and_eq_true, List.isEmpty_iff, List.all_eq_true, List.mem_range, Option.isNone_iff_eq_none]
  refine and_congr_right fun _ => ⟨fun h l => ?_, fun h i _ => h _⟩
  simpa using h l.place (link_place_lt l)

/-- On sound cells the collection test of a grant is that of an event. -/
theorem State.collect_sound (s : State) (g : Gate) (h : s.rst.errors = []) : s.collect g = s.testCollection g := by
  simp only [State.collect, State.readStages_sound s _ _ h, State.readCells_sound s _ _ h]
  by_cases c : s.collected = true
  · have : s.ixc.state = .collect := by simp_all [State.collected]
    simp [c, this]
  · simp [State.testCollection, c]

/-- A list that loses no place is itself. -/
theorem dropPlaces_none {α : Type} (xs : List α) (gone : Nat → α → Bool) (h : ∀ i x, gone i x = false) : dropPlaces xs gone = xs := by
  simp only [dropPlaces, h, Bool.not_false, List.filter_true, List.zipIdx_map_fst]

/-! ### The status content -/

@[simp] theorem State.onLink_content (s : State) (l : Link) (f : LinkRecord → LinkRecord) :
    (s.onLink l f).statusContent = s.statusContent := rfl
@[simp] theorem State.onAar_content (s : State) (f : Aar → Aar) : (s.onAar f).statusContent = s.statusContent := rfl
@[simp] theorem State.onBtk_content (s : State) (f : Btk → Btk) : (s.onBtk f).statusContent = s.statusContent := rfl
@[simp] theorem State.onCtm_content (s : State) (f : Ctm → Ctm) : (s.onCtm f).statusContent = s.statusContent := rfl
@[simp] theorem State.onWlu_content (s : State) (f : Wlu → Wlu) : (s.onWlu f).statusContent = s.statusContent := rfl
@[simp] theorem State.onPins_content (s : State) (f : Pins → Pins) : (s.onPins f).statusContent = s.statusContent := rfl
@[simp] theorem State.answered_content (s : State) (l : Link) (tag : Byte) (r : ResponseResult) (d : List Byte) :
    (s.answered l tag r d).statusContent = s.statusContent := rfl

/-- An event that leaves the status content as it was posts no STATUS frame. -/
theorem State.closeEvent_same (s t : State) (h : t.statusContent = s.statusContent) : State.closeEvent s t = t := by
  simp [State.closeEvent, h]

/-- An event that changes the status content posts one STATUS frame. -/
theorem State.closeEvent_changed (s t : State) (h : t.statusContent ≠ s.statusContent) : State.closeEvent s t = t.postStatus := by
  simp [State.closeEvent, h]

/-- The blocks other than the Link Interface Unit are as the event left them. -/
theorem State.closeEvent_blocks (s t : State) :
    (State.closeEvent s t).rst = t.rst ∧ (State.closeEvent s t).ixc = t.ixc ∧ (State.closeEvent s t).btk = t.btk ∧
    (State.closeEvent s t).wlu = t.wlu ∧ (State.closeEvent s t).ctm = t.ctm ∧ (State.closeEvent s t).aar = t.aar ∧
    (State.closeEvent s t).pins = t.pins ∧ (State.closeEvent s t).pending = t.pending ∧
    (State.closeEvent s t).attentions = t.attentions := by
  unfold State.closeEvent; split <;> and_intros <;> rfl

/-! ### Events -/

/-- An event outside reset. -/
theorem State.event_live (s : State) (f : State → State) (h : s.pins.resetInput = false) :
    s.event f = .next (State.closeEvent s (f s)) := by simp [State.event, h]

/-- In reset an event has no effect. -/
theorem State.event_reset (s : State) (f : State → State) (h : s.pins.resetInput = true) : s.event f = .next s := by
  simp [State.event, h]

/-! ### Grants -/

/-- The state in which a request that its link has just taken comes to its grant. -/
def State.granted (s : State) (i : Instr) (l : Link) : State :=
  (s.onLink l fun x => { x with slot := some i }).onAar fun a => { a with pointer := l.next }

/-- A request that its link takes is granted at once: its operation is made on the sound store and the grant is closed. -/
theorem State.grant_ready (s : State) (i : Instr) (p : Permit) (l : Link) (tag : Byte) (cells : List (State → List Cell))
    (op : State → State × Reply) (hr : s.Ready l) (hp : p.refusal l = none) :
    s.grant i p l tag cells op = .next (State.closeGrant s l tag (op (s.granted i l))) := by
  obtain ⟨⟨h1, h2⟩, -, h4, h5⟩ := hr
  have hf : (s.link l).full = false := by
    simp [LinkRecord.full, LinkRecord.outstanding, h4, Nat.not_le.mpr h5]
  have ho : (s.link l).outstanding = false := by simp [LinkRecord.outstanding, h4]
  have hx : s.offer i p l tag = (s.onLink l fun x => { x with slot := some i }, true) := by
    simp [State.offer, h4, State.place, hf, ho, hp]
  simp only [State.grant, h1, hx, State.serve]
  rw [State.readStages_sound _ _ _ (by simpa using h2)]
  rfl

/-- In reset a request has no effect. -/
theorem State.grant_reset (s : State) (i : Instr) (p : Permit) (l : Link) (tag : Byte) (cells : List (State → List Cell))
    (op : State → State × Reply) (h : s.pins.resetInput = true) : s.grant i p l tag cells op = .next s := by
  simp [State.grant, h]

/-- A grant answers a next state in every state. -/
theorem State.grant_next (s : State) (i : Instr) (p : Permit) (l : Link) (tag : Byte) (cells : List (State → List Cell))
    (op : State → State × Reply) : ∃ t, s.grant i p l tag cells op = .next t := by
  unfold State.grant; split
  · exact ⟨_, rfl⟩
  · simp only; split <;> exact ⟨_, rfl⟩

/-- An event answers a next state in every state. -/
theorem State.event_next (s : State) (f : State → State) : ∃ t, s.event f = .next t := by
  unfold State.event; split <;> exact ⟨_, rfl⟩

/-- The two updates of a link record that a grant makes are one. -/
theorem State.onLink_onLink (s : State) (l : Link) (f g : LinkRecord → LinkRecord) :
    (s.onLink l f).onLink l g = s.onLink l fun r => g (f r) := by
  simp only [State.onLink, State.onLiu]
  congr 1
  simp [List.modify_modify_eq, Function.comp_def]

/-- An update that leaves a link's record as it is leaves the state. -/
theorem State.onLink_self (s : State) (l : Link) (f : LinkRecord → LinkRecord) (h : f (s.link l) = s.link l) : s.onLink l f = s := by
  have e : s.liu.links.modify l.place f = s.liu.links := by
    refine List.ext_getElem (by simp) fun n h1 h2 => ?_
    rw [List.getElem_modify]
    split
    · next e =>
      subst e
      simpa [State.link, List.getD_eq_getElem?_getD, List.getElem?_eq_getElem h2] using h
    · rfl
  simp only [State.onLink, State.onLiu, e]

/-- A request that stands in its link's slot is granted as one that its link takes on the same state with the slot empty:
what a statement says of a free link holds of the request that FRAME_RECEIVED left there. -/
theorem State.grant_slot (s : State) (i : Instr) (p : Permit) (l : Link) (tag : Byte) (cells : List (State → List Cell))
    (op : State → State × Reply) (ha : s.Live) (hp : p.refusal l = none) (hl : s.liu.links.length = 18) (hr : (s.link l).responses.length < 4)
    (hs : (s.link l).slot = some i) :
    s.grant i p l tag cells op = (s.onLink l fun x => { x with slot := none }).grant i p l tag cells op := by
  have back : ((s.onLink l fun x => { x with slot := none }).onLink l fun x => { x with slot := some i }) = s := by
    rw [State.onLink_onLink]
    exact State.onLink_self s l _ (by simp [← hs])
  have e := State.link_onLink_self s l (fun x => { x with slot := none }) hl
  have y : (s.onLink l fun x => { x with slot := none }).offer i p l tag = (s, true) := by
    simp [State.offer, State.place, LinkRecord.full, LinkRecord.outstanding, e, hp, back, Nat.not_le.mpr hr]
  have x : s.offer i p l tag = (s, true) := by simp [State.offer, hs]
  simp [State.grant, x, y, show s.pins.resetInput = false from ha, State.serve, State.closeGrant]

/-- A grant puts its request in the slot and empties it again: the slot is as an answer leaves it. -/
theorem State.granted_answer (s : State) (i : Instr) (l : Link) (f : LinkRecord → LinkRecord) :
    (s.granted i l).onLink l f =
      (s.onAar fun a => { a with pointer := l.next }).onLink l fun r => f { r with slot := some i } :=
  State.onLink_onLink (s.onAar fun a => { a with pointer := l.next }) l (fun r => { r with slot := some i }) f

/-- A request that stands in its slot, as FRAME_RECEIVED has left it there, has the effect it has on the state with that slot
empty; so every statement about a request on a free link is one about its grant from the slot. -/
theorem State.exec_in_slot (c : Instr) (p : Permit) (l : Link) (tag : Byte) (s : State) (hc : c.request = some (p, l, tag))
    (ha : s.Live) (hp : p.refusal l = none) (hl : s.liu.links.length = 18) (hr : (s.link l).responses.length < 4)
    (hs : (s.link l).slot = some c) : exec c s = exec c (s.onLink l fun x => { x with slot := none }) := by
  cases c <;> simp only [Instr.request, Option.some.injEq, Prod.mk.injEq, reduceCtorEq] at hc <;> obtain ⟨rfl, rfl, rfl⟩ := hc <;>
    exact s.grant_slot _ _ _ _ _ _ ha hp hl hr hs

/-- The end of a grant that changes nothing but its answer. -/
theorem State.closeGrant_answer (s : State) (i : Instr) (l : Link) (tag : Byte) (r : ResponseResult) (d : List Byte) :
    State.closeGrant s l tag (s.granted i l, { result := r, data := d }) = s.answered l tag r d := by
  refine Eq.trans (if_pos ?_) (State.granted_answer s i l _)
  simp [State.granted]

end Sys2Proof.Machine
end

