-- ==== Sys2Proof/Laws/Motion.lean ====
section
/-! SUPPORT. The test of R46 as the model computes it, beside the six conditions as the manual lists them; and what the entries to
FAULT and to PERMIT do, said once. -/

namespace Sys2Proof.Machine

/-- `allBelow` is the bounded quantifier it computes. -/
theorem allBelow_iff (n : Nat) (p : Nat → Bool) : allBelow n p = true ↔ ∀ k, k < n → p k = true := by
  simp [allBelow, List.all_eq_true]

/-- `anyBelow` is the bounded quantifier it computes. -/
theorem anyBelow_iff (n : Nat) (p : Nat → Bool) : anyBelow n p = true ↔ ∃ k, k < n ∧ p k = true := by
  simp [anyBelow, List.any_eq_true]

/-- A position that R46 does not wait for: BYPASS, or joined, at rest and without hold. -/
theorem Position.released_iff (p : Position) : p.released = true ↔
    (p.mode = .active → p.joined.isSome = true ∧ (p.phase = .idle ∨ p.phase = .done) ∧ p.hold = false) := by
  obtain ⟨_, m, j, _, f, _, _, _, _, _, h⟩ := p
  cases m <;> cases j <;> cases f <;> cases h <;> simp [Position.released]

/-- The collection test answers yes exactly where the six conditions of R46 hold in COLLECT. -/
theorem State.released_iff (s : State) : s.Released ↔ s.collected = true := by
  constructor
  · rintro ⟨a, b, c, d, ⟨e, f, g⟩, h, i⟩
    have all : allBelow s.count (fun k => (s.pos k).released && (s.pos k).occupant != .unknown) = true := by
      rw [allBelow_iff]
      intro k hk
      simpa [Position.released_iff] using ⟨c k hk, d k hk⟩
    simp [State.collected, a, e, f, g, h, i, all]
    simpa using b
  · intro h
    simp only [State.collected, Bool.and_eq_true, allBelow_iff, Position.released_iff] at h
    obtain ⟨⟨⟨⟨⟨⟨⟨a, b⟩, c⟩, d⟩, e⟩, f⟩, g⟩, i⟩ := h
    exact ⟨by simpa using a, by simpa using b, fun k hk => (c k hk).1, fun k hk => by simpa using (c k hk).2,
      ⟨by simpa using d, e, by simpa using f⟩, g, by simpa using i⟩

/-- The entry to FAULT does what R59 and R60 say of it. -/
theorem State.enterFault_enters (s : State) (c : Cause) (x : Option SeatCheck) : s.EntersFault (s.enterFault c x) c x := by
  unfold State.enterFault
  by_cases early : (s.ixc.state == .permit || s.ixc.state == .carry || s.ixc.state == .sweep) = true <;>
  cases hk : s.motionKind with
  | none => constructor <;> simp_all [State.attend, State.onBtk, State.onIxc, State.withdrawWork, State.onAar, State.onLiu,
      Ixc.stopMotionTimers, List.mem_filter]
  | some k =>
    cases k <;> constructor <;> simp_all [State.attend, State.onBtk, State.onIxc, State.withdrawWork, State.onAar, State.onLiu,
      State.onWlu, Ixc.stopMotionTimers, List.mem_filter, State.closeCaptures, State.abortLearn]
    all_goals first
      | rintro - ⟨st, _, _, _⟩ - <;> cases st <;> rfl
      | rintro (h | h) <;> simp [h] at early
/-- The events of R55 that abort: in a motion state or a pending advance they enter FAULT with their cause. -/
theorem State.abortMotion_enters (s : State) (c : Cause) (h : s.ixc.state.abortable = true) : s.EntersFault (s.abortMotion c) c none := by
  simpa [State.abortMotion, h] using s.enterFault_enters c none

/-- The events of R59 outside a motion state and ADVANCE change nothing. -/
theorem State.abortMotion_rests (s : State) (c : Cause) (h : s.ixc.state.abortable = false) : s.abortMotion c = s := by
  simp [State.abortMotion, h]

/-- A collection test that fails leaves the state (R47). -/
theorem State.testCollection_waits (s : State) (g : Gate) (h : ¬s.Released) : s.testCollection g = s := by
  simp [State.testCollection, Bool.eq_false_iff.mpr fun c => h (s.released_iff.mpr c)]

end Sys2Proof.Machine
end

