-- ==== Sys2Proof/WellFormed.lean ====
section
/-! DEFINITION. Well-formed commands: every argument fits the field that R192 gives it, so that a frame can carry it. An
argument that fits its field and lies outside its range is well-formed: the command's own rule refuses it. -/

namespace Sys2Proof

/-- A number that one byte carries (R192). -/
def fits8 (n : Nat) : Bool := decide (n < 256)
/-- A number that two bytes carry (R192). -/
def fits16 (n : Nat) : Bool := decide (n < 65536)
/-- A number that four bytes carry (R192). -/
def fits32 (n : Nat) : Bool := decide (n < 4294967296)
/-- A signed count that four bytes carry (R192). -/
def fitsSigned (x : Int) : Bool := decide (-2147483648 ≤ x) && decide (x < 2147483648)
/-- A setting of SET TRANSFER: its place and its value, signed for bias, the fifth (R7, R192). -/
def fitsSetting (x : Nat × Int) : Bool :=
  fits8 x.1 && (if x.1 = 5 then fitsSigned x.2 else decide (0 ≤ x.2) && decide (x.2 < 4294967296))

/-- Whether a command's arguments fit their fields (R191, R192). -/
def Instr.wellFormed : Instr → Bool
  | .frameReceived _ _ _ body _ => decide (body.length ≤ Config.maxBody)
  | .readPosition _ _ k | .readOrder _ _ k | .readBudget _ _ k | .readTiming _ _ k => k.all fits8
  | .readPallet _ _ n => n.all fits8
  | .readRouting _ _ v k => v.all fits8 && k.all fits8
  | .start _ _ o | .clear _ _ o _ | .clearReady _ _ o | .clearEmpty _ _ o | .clearRemoved _ _ o | .clearUnloaded _ _ o
  | .clearKept _ _ o | .clearStuck _ _ o | .arrivedNoPallet _ _ o => fits8 o
  | .clearLoaded _ _ o cs => fits8 o && decide (cs.length ≤ 16)
  | .stationFault _ _ c => fits8 c
  | .arrived _ _ o n => fits8 o && fits8 n && decide (n ≠ 0)
  | .setGeometry _ _ n ks p q v => fits8 n && fits8 ks.length && fits32 p && fits8 q && v.all fits16
  | .setTransfer _ _ xs => fits8 xs.length && xs.all fitsSetting
  | .setMode _ _ k _ => fits8 k
  | .setOccupant _ _ k o => fits8 k && (match o with | .pallet n => fits8 n | .empty | .unknown => true)
  | .registerPallet _ _ n _ | .retirePallet _ _ n | .markOut _ _ n | .resetClamps _ _ n _ | .setDisposition _ _ n _
  | .insertReturn _ _ n | .withdrawReturn _ _ n => fits8 n
  | .setRouting _ _ v k g => fits8 v && fits8 k && fits8 g
  | .appendSchedule _ _ v q => fits8 v && fits16 q
  | .setTarget _ _ x => fitsSigned x
  | .setBudget _ _ k g b => fits8 k && fits8 g && fits32 b
  | .deviceReset | .deviceResetComplete | .homeRising | .homeFalling | .inPositionEdge _ _ | .lineStopActive
  | .lineStopInactive | .encoderEdge _ | .liftTimeout | .carryTimeout | .sweepTimeout | .settleEnd | .homeTimeout
  | .startTimeout _ | .startTimeoutWrite _ | .overrun _ | .advance | .learnWrite | .scrubberRead _ | .receiveGapTimeout _
  | .frameSent _ | .characterReceived _ _ | .readIndex _ _ | .readReturn _ _ | .readSchedule _ _ | .readCompletion _ _
  | .readTarget _ _ | .readLearn _ _ | .readStore _ _ | .readStatus _ _ | .readLinks _ _ | .join _ _ _ _ | .driveJoin _ _
  | .leave _ _ | .hold _ _ | .unhold _ _ | .recovered _ _ | .lifted _ _ | .lowered _ _ | .driveFault _ _
  | .driveRecovered _ _ | .survey _ _ | .run _ _ _ | .halt _ _ | .index _ _ | .abort _ _ | .clearFault _ _
  | .recoverForward _ _ | .recoverBack _ _ | .holdLine _ _ | .releaseLine _ _ | .lineReset _ _ | .clearSchedule _ _
  | .fetchCompletion _ _ | .learn _ _ | .acceptLearn _ _ | .discardLearn _ _ | .clearTiming _ _ | .acknowledge _ _ _ => true

end Sys2Proof
end

