-- ==== Sys2Proof/Tests/Slice0.lean ====
section
/-! SUPPORT. The model's own tests: ill-formed commands that WellFormed refuses; commands on small states, with results taken from
the manual's rules and worked sequences; and for each statement with hypotheses a state and operands that meet them. -/

open Sys2Proof Sys2Proof.Machine

namespace Sys2Proof.Tests

set_option Elab.async false

/-! ### Well-formed commands -/

theorem test_frame_body_too_long_is_ill_formed :
    (Instr.frameReceived .supl 1 7 (List.replicate 241 0#8) 0#16).wellFormed = false := by decide +kernel

theorem test_reads_beyond_a_byte_are_ill_formed :
    [Instr.readPosition .supl 1 (some 256), .readOrder .supl 1 (some 256), .readBudget .supl 1 (some 256), .readTiming .supl 1 (some 256),
      .readPallet .supl 1 (some 256), .readRouting .supl 1 (some 256) none, .readRouting .supl 1 none (some 256)].all
      (fun i => !i.wellFormed) = true := by decide +kernel

theorem test_reports_beyond_their_fields_are_ill_formed :
    [Instr.start (.sl 1) 1 256, .clear (.sl 1) 1 256 none, .clearReady (.sl 0) 1 256, .clearEmpty (.sl 0) 1 256, .clearRemoved (.sl 0) 1 256,
      .clearUnloaded (.sl 3) 1 256, .clearKept (.sl 3) 1 256, .clearStuck (.sl 3) 1 256, .arrivedNoPallet (.sl 0) 1 256,
      .clearLoaded (.sl 0) 1 256 [65#8], .clearLoaded (.sl 0) 1 1 (List.replicate 17 65#8), .stationFault (.sl 1) 1 256,
      .arrived (.sl 0) 1 256 1, .arrived (.sl 0) 1 1 256, .arrived (.sl 0) 1 1 0].all (fun i => !i.wellFormed) = true := by decide +kernel

theorem test_settings_beyond_their_fields_are_ill_formed :
    [Instr.setGeometry .supl 1 256 [] 20000 4 none, .setGeometry .supl 1 4 (List.replicate 256 none) 20000 4 none,
      .setGeometry .supl 1 4 [] 4294967296 4 none, .setGeometry .supl 1 4 [] 20000 256 none, .setGeometry .supl 1 4 [] 20000 4 (some 65536),
      .setTransfer .supl 1 (List.replicate 256 (2, 1)), .setTransfer .supl 1 [(256, 1)], .setTransfer .supl 1 [(2, -1)],
      .setTransfer .supl 1 [(2, 4294967296)], .setTransfer .supl 1 [(5, 2147483648)], .setTransfer .supl 1 [(5, -2147483649)],
      .setTarget .supl 1 2147483648, .setTarget .supl 1 (-2147483649)].all (fun i => !i.wellFormed) = true := by decide +kernel

theorem test_requests_beyond_their_fields_are_ill_formed :
    [Instr.setMode .supl 1 256 none, .setOccupant .supl 1 256 .empty, .setOccupant .supl 1 0 (.pallet 256), .registerPallet .supl 1 256 2,
      .retirePallet .supl 1 256, .markOut .supl 1 256, .resetClamps .supl 1 256 none, .setDisposition .supl 1 256 none,
      .insertReturn .supl 1 256, .withdrawReturn .supl 1 256, .setRouting .supl 1 256 1 1, .setRouting .supl 1 1 256 1,
      .setRouting .supl 1 1 1 256, .appendSchedule .supl 1 256 1, .appendSchedule .supl 1 1 65536, .setBudget .supl 1 256 1 1,
      .setBudget .supl 1 1 256 1, .setBudget .supl 1 1 1 4294967296].all (fun i => !i.wellFormed) = true := by decide +kernel

/-- Arguments that fit their fields are well-formed, also where they lie outside their ranges (R192). -/
theorem test_arguments_that_fit_are_well_formed :
    [Instr.frameReceived .supl 1 7 (List.replicate 240 0#8) 0#16, .readPallet .supl 1 (some 255), .clearLoaded (.sl 0) 1 255 (List.replicate 16 65#8),
      .arrived (.sl 0) 1 255 255, .setTransfer .supl 1 [(5, -2147483648), (2, 4294967295)], .setOccupant .supl 1 255 (.pallet 0),
      .appendSchedule .supl 1 255 65535, .setBudget .supl 1 255 255 4294967295].all Instr.wellFormed = true := by decide +kernel

/-! ### A line of four positions

LOAD, PROCESS, CHECK, UNLOAD with every station and the drive joined; pallets 1, 2 and 3 at positions 1 to 3, pallet 5 in the return
queue, pallet 6 out; P = 20,000, Q = 4, service interval 100. -/

def geo : Geometry := { count := 4, kinds := [.process, .check], pitch := 20000, resolution := 4, service := 100 }
def settings : Transfer := { pending := geo.defaults, working := geo.defaults, startTimeout := 2000, budgetTolerance := 10 }
def at' (kind : PositionKind) (o : Occupant) : Position :=
  { Position.reset with kind := kind, joined := some { programs := 0x28#16, selfTest := .pass }, occupant := o }
def block (d : Disposition) (pass : Nat) : Workpiece := { serial := .text [65#8], variant := 1, disposition := d, pass := pass, history := [] }
def carrier (n : Nat) (w : Option Workpiece) : Pallet :=
  { number := n, variants := 6#16, clamps := 0, divert := false, damaged := false, workpiece := w }

def line : State := { State.reset with
  rst := { Rst.reset with
    geometry := some geo
    transfer := some settings
    positions := [at' .load .empty, at' .process (.pallet 1), at' .check (.pallet 2), at' .unload (.pallet 3)] ++
      List.replicate 12 Position.reset
    slots := [some (carrier 1 (some (block .good 1))), some (carrier 2 none), some (carrier 3 (some (block .rework 1))),
      some (carrier 5 none), some (carrier 6 none)] ++ List.replicate 59 none
    returnQueue := [5] }
  ixc := { Ixc.reset with driveJoined := true } }

/-- The line in a state of the Index Controller. -/
def resting (x : IxcState) : State := line.onIxc fun i => { i with state := x }
/-- The line with a motion pending. -/
def moving (x : IxcState) (k : MotionKind) : State :=
  line.onIxc fun i => { i with
    state := x
    motion := some { kind := k, origin := 0b0110#16, target := 20000, sample := none }
    liftTimer := some { elapsed := 2, limit := 3000 }
    carryTimer := some { elapsed := 2, limit := 8000 }
    sweepTimer := some { elapsed := 2, limit := 60000 } }
/-- The line in COLLECT, in AUTO, at home: every condition of R46 holds. -/
def collecting : State := (resting .collect).onIxc (fun i => { i with runMode := .auto }) |>.onPins fun p => { p with home := true }
/-- Position `k` with an order 7 of a kind, in a phase. -/
def ordered (k : Nat) (kind : OrderKind) (ph : Phase) (s : State) : State :=
  ((s.onPos k fun p => { p with phase := ph, orderNumber := 7, orderKind := kind, program := some 3 }).setStartTimer k
    (if ph = .ordered then some 5 else none)).onWork k fun w => { w with running := if ph = .working then some 9 else none }
/-- Position `k` with an instruction. -/
def told (k : Nat) (i : Instruction) (s : State) : State := s.onPos k fun p => { p with instruction := some i }
/-- A learn under way in SWEEP, from T = 20,000 with SM = 2,500. -/
def sweeping : State := (moving .sweep .learn).onWlu fun w => { w with record := { LearnRecord.reset with
  state := .inProgress
  settings := some { start := 20000, sweepMargin := 2500, limit := 22500, bias := 6, minWidth := 100, driftLimit := 200, extend := false }
  entries := List.replicate 15 SweepEntry.blank } }
/-- The counter at `c`. -/
def saturated (s : State) : State := s.onBtk fun b => { b with saturated := true }
def counting (c : Int) (s : State) : State := s.onBtk fun b => { b with counter := c }
/-- Geometry and settings absent. -/
def bare (s : State) : State := s.onRst fun r => { r with geometry := none, transfer := none }
/-- The state after a command. -/
def after (i : Instr) (s : State) : State := match exec i s with | .next t => t | .fault _ | .refused _ => s
/-- The last response on a link. -/
def answer (l : Link) (s : State) : Option (ResponseResult × List Byte) := (s.link l).responses.getLast?.map fun r => (r.result, r.data)
/-- Whether an outcome is a next state. -/
def isNext (o : Host.Outcome State Fault Refusal) : Bool := match o with | .next _ => true | .fault _ | .refused _ => false
theorem next_of_isNext {o : Host.Outcome State Fault Refusal} (h : isNext o = true) : ∃ t, o = .next t := by
  cases o <;> simp_all [isNext]
/-- A property of every link, link by link. -/
theorem every_link {p : Link → Prop} (h : ∀ i, i < 18 → p (Link.at i)) (l : Link) : p l := by
  have : p (Link.at l.place) := h l.place (by cases l <;> simp [Link.place]; omega)
  cases l <;> simpa [Link.place, Link.at] using this

/-! ### States and operands that meet the hypotheses of the statements: the machine as a whole, the wired lines -/

theorem witness_StepCarriesOutTheFrontCommand :
    ({ line with pending := [.homeRising, .homeFalling] } : State).pending = .homeRising :: [.homeFalling] := rfl

/-- A line with a request in one slot. -/
def asked (l : Link) (i : Instr) (s : State) : State := s.onLink l fun r => { r with slot := some i }
def granting (ws : List WorkItem) (s : State) : State := s.onAar fun a => { a with workList := ws }

theorem witness_IdleStepGrantsOrTicks :
    ((granting [.advance] line).pending = [] ∧ (granting [.advance] line).Live ∧ (granting [.advance] line).aar.workList = [.advance]) ∧
    (let s := asked .supl (.halt .supl 1) line
     s.pending = [] ∧ s.Live ∧ s.aar.workList = [] ∧ (s.link (Link.at ((s.aar.pointer.place + 16) % 18))).slot = some (.halt .supl 1) ∧
     ∀ j, j < 16 → (s.link (Link.at ((s.aar.pointer.place + j) % 18))).slot = none) ∧
    (let s := (asked (.sl 2) (.hold (.sl 2) 1) line).onAar fun a => { a with pointer := .sl 3 }
     s.pending = [] ∧ s.Live ∧ s.aar.workList = [] ∧ (s.link (Link.at ((s.aar.pointer.place + 17) % 18))).slot = some (.hold (.sl 2) 1) ∧
     ∀ j, j < 17 → (s.link (Link.at ((s.aar.pointer.place + j) % 18))).slot = none) ∧
    (line.pending = [] ∧ line.Live ∧ line.aar.workList = [] ∧ ∀ i, i < 18 → (line.link (Link.at i)).slot = none) := by decide +kernel

/-- Every timer runs, and each is due on the next tick. -/
def ticking : State := ((moving .permit .index).onIxc fun i => { i with
  liftTimer := some { elapsed := 9, limit := 10 }, carryTimer := some { elapsed := 9, limit := 10 }
  sweepTimer := some { elapsed := 4294967295, limit := 10 }, settleTimer := some { elapsed := 9, limit := 10 } }).onBtk
    fun b => { b with homeTimer := some { elapsed := 9, limit := 10 } }
theorem witness_IdleStepGrantsOrTicks_timers :
    ticking.pending = [] ∧ ticking.Live ∧ ticking.aar.workList = [] ∧ (∀ i, i < 18 → (ticking.link (Link.at i)).slot = none) ∧
    ticking.ixc.sweepTimer.isSome = true ∧ ticking.btk.homeTimer.isSome = true := by decide +kernel

theorem witness_IdleStepGrantsOrTicks_slots : ∀ l, (line.link l).slot = none := every_link (by decide +kernel)

def inReset : State := line.onPins fun p => { p with resetInput := true }

theorem witness_DeviceResetHoldsThenCompletes :
    inReset.pins.resetInput = true ∧ line.pins.resetInput = false ∧ Instr.homeRising ≠ .deviceReset ∧
    Instr.homeRising ≠ .deviceResetComplete ∧ Instr.homeRising ≠ .lineStopActive ∧ Instr.homeRising ≠ .lineStopInactive := by decide +kernel

/-- The interlock, field by field, on a state whose geometry is the line's. -/
theorem interlocked (s : State) (h : s.rst.geometry = some geo) (entries : s.rst.positions.length = 16)
    (all : ∀ k, k < 16 → (s.pos k).kind = kindOf s.rst.geometry k ∧ ((s.pos k).mode = .bypass → (s.pos k).phase = .idle) ∧
      ((s.pos k).kind = .unused → (s.pos k).phase = .idle) ∧ (s.pos k).phase = .idle)
    (motion : s.ixc.state.moving = true ∧ s.ixc.motion.isSome = true ∨
      s.ixc.state = .halt ∧ s.ixc.motion = none ∨ s.ixc.state = .collect ∧ s.ixc.motion = none) : s.Interlocked where
  entries := entries
  range g hg := by simp_all [geo]
  kinds k hk := (all k hk).1
  bypassIdle k hk := (all k hk).2.1
  unusedIdle k hk := (all k hk).2.2.1
  pendingQuiet _ k hk := by simp [(all k hk).2.2.2, Phase.outstanding]
  movingClear h := by
    refine ⟨?_, fun k hk => by simp [(all k hk).2.2.2]⟩
    rcases motion with m | m | m <;> simp_all [IxcState.moving]
  advancePending h := by rcases motion with m | m | m <;> simp_all [IxcState.moving]
  restingClear h := by rcases motion with m | m | m <;> rcases h with h | h <;> simp_all [IxcState.moving]

def lifting : State := moving .permit .index

theorem witness_PermitsFollowTheirConditions :
    line.Live ∧ (collecting.Live ∧ lifting.Live) ∧ inReset.pins.resetInput = true ∧ lifting.liftPermit = true := by decide +kernel
theorem witness_PermitsFollowTheirConditions_interlock : lifting.Interlocked :=
  interlocked _ rfl rfl (by decide +kernel) (by decide +kernel)

/-- The line in a motion, with the next command waiting. -/
def waiting (i : Instr) (s : State) : State := { s with pending := [i] }

theorem witness_InterlockIsKeptByEveryStep :
    (waiting .lineStopActive lifting).Interlocked ∧ ∃ t, step (waiting .lineStopActive lifting) = .next t :=
  ⟨interlocked _ rfl rfl (by decide +kernel) (by decide +kernel), next_of_isNext (by decide +kernel)⟩

theorem witness_QueuesListsAndCounterStayBounded_queues :
    (waiting (.halt .supl 1) line).QueuesBounded ∧ ∃ t, step (waiting (.halt .supl 1) line) = .next t :=
  ⟨⟨by decide +kernel, every_link (by decide +kernel)⟩, next_of_isNext (by decide +kernel)⟩

theorem witness_QueuesListsAndCounterStayBounded :
    let s := waiting (.appendSchedule .supl 1 1 2) line
    s.ListsBounded ∧ s.CounterInRange ∧ ∃ t, step s = .next t :=
  ⟨by unfold State.ListsBounded; decide +kernel, by unfold State.CounterInRange; decide +kernel, next_of_isNext (by decide +kernel)⟩

/-- Positions and return queue answer for their pallets where the numbers on the line, in the queue and in the slots differ. -/
theorem stands_once (s : State) (e : s.rst.positions.length = 16)
    (p : ∀ i, i < 16 → ∀ j, j < 16 → (s.palletAt i).isSome = true → s.palletAt i = s.palletAt j → i = j)
    (q : s.rst.returnQueue.Nodup) (a : ∀ i, i < 16 → ∀ n, n ∈ s.rst.returnQueue → s.palletAt i ≠ some n)
    (c : s.rst.slots.length = 64)
    (t : ∀ i, i < 64 → ∀ j, j < 64 → (s.rst.slots.getD i none).isSome = true →
      (s.rst.slots.getD i none).map (·.number) = (s.rst.slots.getD j none).map (·.number) → i = j) : s.PalletsStandOnce := by
  have far : ∀ i, 16 ≤ i → s.palletAt i = none := fun i h => by simp [State.palletAt, State.pos, e, h, Position.reset]
  have near : ∀ i n, s.palletAt i = some n → i < 16 := fun i n h => by
    rcases Nat.lt_or_ge i 16 with l | l
    · exact l
    · simp [far i l] at h
  refine ⟨e, fun i j n hi hj => p i (near i n hi) j (near j n hj) (by simp [hi]) (hi.trans hj.symm), q,
    fun i n hi hn => a i (near i n hi) n hn hi, fun i j x y hi hj h => ?_⟩
  have li : i < 64 := c ▸ (List.getElem?_eq_some_iff.mp hi).1
  have lj : j < 64 := c ▸ (List.getElem?_eq_some_iff.mp hj).1
  exact t i li j lj (by simp [List.getD_eq_getElem?_getD, hi]) (by simp [List.getD_eq_getElem?_getD, hi, hj, h])

theorem witness_PalletsStandAtOnePlace :
    (waiting (.setOccupant .supl 1 0 (.pallet 6)) line).PalletsStandOnce ∧
      ∃ t, step (waiting (.setOccupant .supl 1 0 (.pallet 6)) line) = .next t :=
  ⟨stands_once _ (by decide +kernel) (by decide +kernel) (by decide +kernel) (by decide +kernel) (by decide +kernel) (by decide +kernel),
    next_of_isNext (by decide +kernel)⟩

theorem geo_placed : geo.Placed 20000 := by unfold Geometry.Placed; decide +kernel

/-- A learn sweep under way, with the arrival of a LINE STOP at the front of the queue. -/
def sweepStopped : State := waiting .lineStopActive sweeping

theorem witness_TargetsAndLearnRecordStayLawful_record :
    sweepStopped.LearnUnheld ∧ sweepStopped.ixc.state = .sweep ∧ sweepStopped.motionKind = some .learn ∧
      ∃ t, step sweepStopped = .next t :=
  ⟨by unfold State.LearnUnheld; decide +kernel, by decide +kernel, by decide +kernel, next_of_isNext (by decide +kernel)⟩

theorem witness_TargetsAndLearnRecordStayLawful :
    (waiting (.setTarget .supl 1 20021) line).TargetsPlaced ∧ ∃ t, step (waiting (.setTarget .supl 1 20021) line) = .next t := by
  refine ⟨⟨?_, ?_, ?_, by decide +kernel, by decide +kernel⟩, next_of_isNext (by decide +kernel)⟩
  · rintro g ⟨⟩; decide +kernel
  · rintro g ⟨⟩; exact ⟨_, rfl, geo_placed, geo_placed⟩
  · rintro g ⟨⟩ h
    rcases h with h | h | h <;> exact absurd h (by decide +kernel)

theorem witness_StatusFrameFollowsEveryChange :
    (line.Live ∧ line.liu.links.length = 18 ∧ (after (.run .supl 1 (some .auto)) line).statusContent ≠ line.statusContent) ∧
    (collecting.Live ∧ collecting.liu.links.length = 18 ∧ (after .homeFalling collecting).statusContent = collecting.statusContent) ∧
    line.Free .supl := by
  decide +kernel
theorem witness_StatusFrameFollowsEveryChange_next :
    (∃ t, exec (.run .supl 1 (some .auto)) line = .next t) ∧ (∃ t, exec .homeFalling collecting = .next t) ∧
    ∃ t, exec (.lineReset .supl 1) line = .next t := by
  and_intros <;> exact next_of_isNext (by decide +kernel)

theorem witness_HomeEdgesReferenceTheCounter :
    (collecting.Live ∧ collecting.pins.home = true) ∧
    (line.Live ∧ line.pins.home = false ∧ line.ixc.state.moving = false) ∧
    ((collecting.onPins fun p => { p with home := false }).Live ∧ (collecting.onPins fun p => { p with home := false }).pins.home = false) := by
  decide +kernel
theorem witness_HomeEdgesReferenceTheCounter_waits :
    ¬({ line with pins := { line.pins with home := true } } : State).Released ∧
    (let s := (collecting.onIxc fun i => { i with lineHold := true }).onPins fun p => { p with home := false }
     ¬({ s with pins := { s.pins with home := true } } : State).Released ∧ s.ixc.state = .collect ∧ s.ixc.state.moving = false) := by
  simp only [State.released_iff]; decide +kernel

/-- A motion whose target lies so far below home that the referenced counter is beyond its limit. -/
def belowHome (x : IxcState) : State := (moving x .index).onIxc fun i => { i with
  motion := some { kind := .index, origin := 0b0110#16, target := -30000, sample := none } }
/-- A sweep whose limit lies at home. -/
def sweepingAtHome : State := sweeping.onWlu fun w => { w with record := { w.record with
  settings := some { start := 20000, sweepMargin := 2500, limit := 0, bias := 6, minWidth := 100, driftLimit := 200, extend := false } } }

theorem witness_HomeEdgesReferenceTheCounter_motion :
    (∀ s : State, s = moving .carry .index ∨ s = moving .reseat .learn ∨ s = sweeping →
      s.Live ∧ s.pins.home = false ∧ ∃ m, s.ixc.motion = some m ∧ m.kind.runsIn s.ixc.state = true) ∧
    ((belowHome .carry).Live ∧ (belowHome .carry).pins.home = false ∧ ∃ m, (belowHome .carry).ixc.motion = some m ∧
      m.kind.runsIn (belowHome .carry).ixc.state = true ∧ (belowHome .carry).InOvertravel m 0) ∧
    (∃ m, (moving .carry .index).ixc.motion = some m ∧ ¬(moving .carry .index).InOvertravel m 0) ∧
    (sweepingAtHome.Live ∧ sweepingAtHome.pins.home = false ∧ ∃ m, sweepingAtHome.ixc.motion = some m ∧
      m.kind.runsIn sweepingAtHome.ixc.state = true ∧ ¬sweepingAtHome.InOvertravel m 0 ∧ sweepingAtHome.ixc.state = .sweep ∧
      sweepingAtHome.wlu.outcome = none ∧ sweepingAtHome.sweepLimit ≤ 0 ∧ sweepingAtHome.rst.geometry.isSome = true ∧
      sweepingAtHome.wlu.record.settings.isSome = true) := by
  refine ⟨?_, ⟨by decide +kernel, by decide +kernel, _, rfl, by decide +kernel, show (-30000 : Int) + 1000 < 0 by decide⟩,
    ⟨_, rfl, fun c => absurd (show (20000 : Int) + 1000 < 0 from c) (by decide)⟩,
    by decide +kernel, by decide +kernel, _, rfl, by decide +kernel,
    fun c => absurd (show (0 : Int) + 1000 < 0 from c) (by decide), by decide +kernel⟩
  rintro s (rfl | rfl | rfl) <;> exact ⟨by decide +kernel, by decide +kernel, _, rfl, by decide +kernel⟩

def indexed (x : IxcState) : State := moving x .index

theorem witness_InPositionEdgeMovesOneCapture :
    (line.Live ∧ member line.pins.ip 0 = false) ∧ member line.pins.ip 0 ≠ true ∧
    (∀ k, 1 ≤ k → k ≤ 3 → (indexed .permit).Live ∧ member (indexed .permit).pins.ip k ≠ true ∧ 0 < k ∧ k < (indexed .permit).count ∧
      (indexed .permit).ixc.state = .permit ∧ (indexed .permit).motionKind = some .index ∧ (indexed .permit).btk.captures.length = 15) ∧
    (∀ k, k = 1 ∨ k = 3 → sweeping.Live ∧ member sweeping.pins.ip k ≠ true ∧ 0 < k ∧ k < sweeping.count ∧ sweeping.ixc.state = .sweep ∧
      sweeping.motionKind = some .learn ∧ sweeping.wlu.outcome = none ∧ sweeping.wlu.record.entries.length = 15 ∧
      sweeping.wlu.record.settings.isSome = true) := by
  refine ⟨by decide +kernel, by decide +kernel, fun k _ _ => ?_, ?_⟩
  · have : k = 1 ∨ k = 2 ∨ k = 3 := by omega
    rcases this with rfl | rfl | rfl <;> decide +kernel
  · rintro k (rfl | rfl) <;> decide +kernel

def stopped (s : State) : State := s.onPins fun p => { p with lineStop := true }

theorem witness_LineStopAbortsTheMotion :
    ((stopped line).Live ∧ (stopped line).pins.lineStop = true) ∧
    (line.Live ∧ line.pins.lineStop = false ∧ line.ixc.state.moving = false ∧ line.ixc.state ≠ .advance) ∧
    (lifting.Live ∧ lifting.pins.lineStop = false ∧ lifting.ixc.state.moving = true) ∧
    ((indexed .advance).Live ∧ (indexed .advance).pins.lineStop = false ∧ (indexed .advance).ixc.state = .advance) := by decide +kernel
theorem witness_LineStopAbortsTheMotion_waits :
    (stopped line).pins.lineStop = true ∧ ¬({ stopped line with pins := { (stopped line).pins with lineStop := false } } : State).Released := by
  rw [State.released_iff]; decide +kernel

theorem witness_EncoderEdgesMoveTheCounter :
    (∃ s : State, s = (line.onBtk fun b => { b with saturated := true }) ∧ s.Live ∧ s.btk.saturated = true) ∧
    (let s := counting 8388606 lifting
     s.Live ∧ s.btk.saturated = false ∧ Config.counterMin ≤ s.btk.counter + 1 ∧ s.btk.counter + 1 ≤ Config.counterMax) ∧
    (line.btk.saturated = false ∧ Config.counterMin ≤ line.btk.counter - 1 ∧ line.btk.counter - 1 ≤ Config.counterMax ∧
      line.ixc.state.moving = false) ∧
    (let s := counting (-8388608) line
     s.Live ∧ s.btk.saturated = false ∧ ¬(Config.counterMin ≤ s.btk.counter - 1 ∧ s.btk.counter - 1 ≤ Config.counterMax) ∧
     s.ixc.state.moving = false) ∧
    (let s := counting 8388607 lifting
     s.Live ∧ s.btk.saturated = false ∧ ¬(Config.counterMin ≤ s.btk.counter + 1 ∧ s.btk.counter + 1 ≤ Config.counterMax) ∧
     s.ixc.state.moving = true) := by
  refine ⟨⟨_, rfl, ?_⟩, ?_⟩ <;> decide +kernel

def indexMotion : Motion := { kind := .index, origin := 0b0110#16, target := 20000, sample := none }
def learnMotion : Motion := { kind := .learn, origin := 0b0110#16, target := 20000, sample := none }

theorem witness_EncoderEdgesMoveTheCounter_overtravel :
    (∀ c, c = 20999 ∨ c = 21000 → (counting c lifting).Live ∧ (counting c lifting).btk.saturated = false ∧
      (counting c lifting).ixc.motion = some indexMotion ∧ indexMotion.kind.runsIn (counting c lifting).ixc.state = true ∧
      Config.counterMin ≤ c + 1 ∧ c + 1 ≤ Config.counterMax) ∧
    (∀ c, c = 22498 ∨ c = 22499 → (counting c sweeping).Live ∧ (counting c sweeping).btk.saturated = false ∧
      (counting c sweeping).ixc.motion = some learnMotion ∧ learnMotion.kind.runsIn (counting c sweeping).ixc.state = true ∧
      Config.counterMin ≤ c + 1 ∧ c + 1 ≤ Config.counterMax ∧ (counting c sweeping).ixc.state = .sweep ∧
      (counting c sweeping).wlu.outcome = none ∧ (counting c sweeping).rst.geometry.isSome = true ∧
      (counting c sweeping).wlu.record.settings.isSome = true) ∧
    (22498 + 1 < sweeping.sweepLimit ∧ sweeping.sweepLimit ≤ 22499 + 1) := by
  refine ⟨?_, ?_, by decide +kernel⟩ <;> rintro c (rfl | rfl) <;> decide +kernel
theorem witness_EncoderEdgesMoveTheCounter_limits :
    ¬(counting 20999 lifting).InOvertravel indexMotion 21000 ∧ (counting 21000 lifting).InOvertravel indexMotion 21001 ∧
    ¬(counting 22498 sweeping).InOvertravel learnMotion 22499 ∧ ¬(counting 22499 sweeping).InOvertravel learnMotion 22500 := by
  refine ⟨fun h => ?_, ?_, fun h => ?_, fun h => ?_⟩
  · exact absurd (show (21000 : Int) < 21000 from h) (by decide)
  · exact show (21000 : Int) < 21001 by decide
  · exact absurd (show (23500 : Int) < 22499 from h) (by decide)
  · exact absurd (show (23500 : Int) < 22500 from h) (by decide)

/-! ### States and operands that meet the hypotheses of the statements: timers and grants -/

def homing : State := collecting.onBtk fun b => { b with homeTimer := some { elapsed := 3, limit := 8000 } }

theorem witness_TimeoutsEnterFault :
    (lifting.Live ∧ lifting.ixc.state = .permit ∧ lifting.ixc.liftTimer.isSome = true) ∧
    ((indexed .carry).Live ∧ (indexed .carry).ixc.state = .carry ∧ (indexed .carry).ixc.carryTimer.isSome = true) ∧
    ((moving .reseat .learn).Live ∧ (moving .reseat .learn).ixc.state = .reseat ∧ (moving .reseat .learn).ixc.carryTimer.isSome = true) ∧
    (sweeping.Live ∧ sweeping.ixc.state = .sweep ∧ sweeping.ixc.sweepTimer.isSome = true) ∧
    (homing.Live ∧ homing.ixc.state = .collect ∧ homing.btk.homeTimer.isSome = true) ∧
    (line.Live ∧ line.ixc.liftTimer = none ∧ line.ixc.carryTimer = none ∧ line.ixc.sweepTimer = none ∧ line.btk.homeTimer = none) := by
  decide +kernel

/-- The line at the end of the settle time of a motion that started with pallets at positions 1 and 2, stopped at `c` under `ip`. -/
def settled (k : MotionKind) (c : Int) (ip : Mask) : State :=
  ((moving .settle k).onIxc fun i => { i with
    motion := some { kind := k, origin := 0b0110#16, target := 20000, sample := some c }
    settleTimer := some { elapsed := 100, limit := 100 } }).onPins fun p => { p with ip := ip }

/-- A CONFIG fault waits for the advance. -/
def configured (s : State) : State := s.onIxc fun i => { i with configDue := true }

theorem witness_SettleEndMakesTheChecks :
    (∀ s : State, s = settled .index 20041 0b1100#16 ∨ s = settled .index 20040 0b1100#16 ∨ s = settled .index 20040 0b1110#16 ∨
        s = settled .back 40 0b0110#16 →
      s.Live ∧ s.ixc.state = .settle ∧ s.ixc.settleTimer.isSome = true ∧ s.ixc.motion.isSome = true) ∧
    ¬(((20041 - (settled .index 20041 0).working.target).natAbs : Int) ≤ (settled .index 20041 0).working.stopBand) ∧
    ((20040 - (settled .index 20040 0).working.target).natAbs : Int) ≤ (settled .index 20040 0).working.stopBand ∧
    (((40 : Int) - 0).natAbs : Int) ≤ (settled .back 40 0).working.stopBand ∧
    (∀ k, k < 16 → k < (settled .index 20040 0b1100#16).count →
      ((0 < k ∧ member 0b0110#16 (k - 1) = true) ↔ member (settled .index 20040 0b1100#16).pins.ip k = true)) ∧
    ¬(∀ k, k < 16 → k < (settled .index 20040 0b1110#16).count →
      ((0 < k ∧ member 0b0110#16 (k - 1) = true) ↔ member (settled .index 20040 0b1110#16).pins.ip k = true)) ∧
    (∀ k, k < 16 → k < (settled .back 40 0b0110#16).count →
      (member 0b0110#16 k = true ↔ member (settled .back 40 0b0110#16).pins.ip k = true)) ∧
    (let s := (settled .back 40 0b0110#16).onIxc fun i => { i with haltRequested := true }
     s.ixc.haltRequested = true) ∧
    (let s := configured (settled .back 40 0b0110#16)
     s.Live ∧ s.ixc.state = .settle ∧ s.ixc.settleTimer.isSome = true ∧ s.ixc.haltRequested = false ∧ s.ixc.configDue = true) ∧
    ((settled .back 40 0b0110#16).ixc.haltRequested = false ∧ (settled .back 40 0b0110#16).ixc.configDue = false) := by
  refine ⟨?_, ?_⟩
  · rintro s (rfl | rfl | rfl | rfl) <;> decide +kernel
  · decide +kernel
theorem witness_SettleEndMakesTheChecks_waits : ∀ s : State, s = settled .back 40 0b0110#16 ∨
      s = (settled .back 40 0b0110#16).onPins (fun p => { p with home := true }) →
    s.Live ∧ s.ixc.state = .settle ∧ s.ixc.motion.isSome = true ∧ ¬({ s with ixc := { s.ixc with state := .collect } } : State).Released := by
  simp only [State.released_iff]; rintro s (rfl | rfl) <;> decide +kernel

def unstarted : State := ordered 1 .process .ordered line

theorem witness_StartTimeoutFaultsTheUnstartedPosition :
    (unstarted.Live ∧ (unstarted.startTimer 1).isSome = true ∧ (unstarted.pos 1).phase = .ordered) ∧
    (line.Live ∧ line.startTimer 15 = none) ∧
    (let s := granting [.startExpiry 1] line
     s.Live ∧ s.aar.workList = [.startExpiry 1] ∧ s.rst.errors = [] ∧ (s.pos 1).phase ≠ .ordered) ∧
    (let s := granting [.startExpiry 1, .advance] unstarted
     s.Live ∧ s.aar.workList = [.startExpiry 1, .advance] ∧ s.rst.errors = [] ∧ (s.pos 1).phase = .ordered ∧ s.Shaped ∧
     s.ixc.state.abortable = false) ∧
    (let s := granting [.startExpiry 1] (ordered 1 .process .ordered (indexed .advance))
     s.Live ∧ s.aar.workList = [.startExpiry 1] ∧ s.rst.errors = [] ∧ (s.pos 1).phase = .ordered ∧ s.Shaped ∧
     s.ixc.state.abortable = true) := by decide +kernel

def limited (taken : Bool) : State :=
  (ordered 1 .process .working line).onWork 1 fun w => { w with limit := some 8, overrunTaken := taken }

theorem witness_OverrunIsRaisedOncePerOrder :
    (∀ b, (limited b).Live ∧ (limited b).Shaped ∧ ((limited b).work 1).overrunTaken = b ∧
      ((limited b).work 1).running = some 9 ∧ ((limited b).work 1).limit = some 8) ∧
    (let s := (limited false).onWork 1 fun w => { w with running := some 8 }
     s.Live ∧ s.Shaped ∧ (s.work 1).running = some 8 ∧ (s.work 1).limit = some 8) ∧
    (line.Live ∧ line.Shaped ∧ (line.work 1).limit = none) := by decide +kernel

def advancing : State := granting [.advance] ((indexed .advance).onCtm fun c => { c with indexTimer := some 3520 })

/-- The advance after a RECOVER(FORWARD) from home, with no index timer and the cycle timer running. -/
def cycled : State := (advancing.onCtm fun c => { c with indexTimer := none, cycleTimer := some 61000 }).onPins fun p => { p with home := true }

theorem witness_AdvanceShiftsTheLine :
    (∀ s : State, s = advancing ∨ s = (advancing.onPos 1 fun p => { p with mode := .bypass }) ∨
        s = (advancing.onPallet 3 fun p => { p with divert := true }) ∨ s = (advancing.onPallet 3 fun p => { p with clamps := 100 }) ∨
        s = (advancing.onPos 3 fun p => { p with occupant := .empty }) ∨ s = configured advancing ∨ s = cycled ∨
        s = (configured advancing).onIxc (fun i => { i with haltRequested := true }) →
      s.Sound ∧ s.Shaped ∧ s.aar.workList = [.advance] ∧ s.ixc.state = .advance ∧ 3 ≤ s.count ∧ s.count ≤ 16 ∧ (s.pos 0).kind = .load ∧
      (s.pos 0).mode = .active ∧ (∀ k, k < s.count → s.unused k = false)) ∧
    ((configured advancing).ixc.configDue = true ∧ (configured advancing).ixc.haltRequested = false ∧ advancing.ixc.configDue = false) ∧
    (advancing.pos 1).mode = .active ∧ ((advancing.onPos 1 fun p => { p with mode := .bypass }).pos 1).mode = .bypass ∧
    (advancing.palletAt (advancing.count - 1) = some 3 ∧ (advancing.pallet 3).isSome = true) ∧
    ((advancing.onPallet 3 fun p => { p with divert := true }).pallet 3).map (·.divert) = some true ∧
    (advancing.onPallet 3 fun p => { p with clamps := 100 }).maintenanceDue { carrier 3 none with clamps := 100 } = true ∧
    (advancing.onPos 3 fun p => { p with occupant := .empty }).palletAt (advancing.count - 1) = none ∧
    (∀ j, j < 16 → j + 1 ≠ advancing.count → advancing.palletAt j ≠ some 3) ∧
    (advancing.ctm.indexTimer = some 3520 ∧ advancing.ctm.cycleTimer = none) ∧
    (cycled.ctm.indexTimer = none ∧ cycled.ctm.cycleTimer = some 61000 ∧ cycled.pins.home = true ∧ advancing.pins.home = false) ∧ 4 ≤ 15 := by
  refine ⟨?_, ?_⟩
  · rintro s (rfl | rfl | rfl | rfl | rfl | rfl | rfl | rfl) <;> decide +kernel
  · decide +kernel

def unjoined (k : Nat) (s : State) : State := s.onPos k fun p => { p with joined := none }

/-- The advance with a block on its way to positions 1 and 2, both routed. -/
def routed : State :=
  ((advancing.onRst fun r => { r with routing := (r.routing.set 1 3).set 2 3 }).setOccupant 0 (.pallet 6)).onPallet 6
    fun p => { p with workpiece := some (block .good 1) }
def bypassed (k : Nat) (s : State) : State := s.onPos k fun p => { p with mode := .bypass }
theorem distinct_of (s : State) (h : ∀ i, i < 16 → ∀ j, j < 16 → (s.palletAt i).isSome = true → s.palletAt i = s.palletAt j → i = j) :
    ∀ i j n, i < 16 → j < 16 → s.palletAt i = some n → s.palletAt j = some n → i = j :=
  fun i j _ hi hj a b => h i hi j hj (by simp [a]) (a.trans b.symm)

theorem witness_AdvanceIssuesTheNextOrders :
    (∀ s : State, s = routed ∨ s = bypassed 1 routed ∨ s = bypassed 2 routed ∨ s = advancing ∨ s = routed.setOccupant 2 .empty ∨
        s = (unjoined 1 routed) →
      s.Sound ∧ s.Shaped ∧ s.aar.workList = [.advance] ∧ s.ixc.state = .advance ∧ 3 ≤ s.count ∧ s.count ≤ 16 ∧ (s.pos 0).kind = .load ∧
      (s.pos 0).mode = .active ∧ (∀ k, k < s.count → s.unused k = false) ∧ s.liu.links.length = 18 ∧
      (∀ i, i < 16 → ∀ j, j < 16 → (s.palletAt i).isSome = true → s.palletAt i = s.palletAt j → i = j)) ∧
    (routed.palletAt 0 = some 6 ∧ routed.pallet 6 = some (carrier 6 (some (block .good 1))) ∧ (routed.pos 1).kind = .process ∧
      routed.palletAt 1 = some 1 ∧ routed.pallet 1 = some (carrier 1 (some (block .good 1))) ∧ (routed.pos 2).kind = .check ∧
      routed.routing 1 1 = 3 ∧ routed.routing 1 2 = 3 ∧ (block .good 1).history = []) ∧
    (((bypassed 1 routed).pos 1).mode = .bypass ∧ ((bypassed 2 routed).pos 2).mode = .bypass) ∧
    (advancing.palletAt 0 = none ∧ advancing.palletAt 1 = some 1 ∧ advancing.routing 1 2 = 0) ∧
    ((routed.pos 3).kind = .unload ∧ (routed.pos 3).mode = .active ∧ routed.palletAt 2 = some 2 ∧ (routed.pallet 2).isSome = true) ∧
    (routed.setOccupant 2 .empty).palletAt 2 = none ∧ ((routed.pos 3).joined.isSome = true ∧ ((unjoined 1 routed).pos 1).joined = none) ∧
    (∀ k, k < 16 → routed.palletAt k ≠ some 5) ∧
    (routed.palletAt (routed.count - 1) = some 3 ∧ routed.pallet 3 = some (carrier 3 (some (block .rework 1)))) ∧
    ((routed.pos (2 + 1)).kind ≠ .process ∧ (routed.pos (2 + 1)).kind ≠ .check ∧ (routed.pos (2 + 1)).mode = .active ∧ 2 + 1 < routed.count) := by
  refine ⟨?_, by decide +kernel⟩
  rintro s (rfl | rfl | rfl | rfl | rfl | rfl) <;> decide +kernel

def lostAt (k : Nat) (s : State) : State := s.onRst fun r => { r with errors := [(⟨.positionTracking, k⟩, .uncorrectable)] }

theorem witness_AdvanceStopsOnALostPosition :
    ∀ s : State, s = advancing ∨ s = (advancing.onPos 3 fun p => { p with mode := .bypass }) →
      (lostAt 3 s).Live ∧ (lostAt 3 s).Shaped ∧ (lostAt 3 s).aar.workList = [.advance] ∧ (lostAt 3 s).ixc.state = .advance ∧
      3 < (lostAt 3 s).count ∧ (lostAt 3 s).count ≤ 16 ∧ (lostAt 3 s).unused 3 = false ∧ (lostAt 3 s).rst.errors = [(⟨.positionTracking, 3⟩, .uncorrectable)] := by
  rintro s (rfl | rfl) <;> decide +kernel

def measured (o : LearnOutcome) : State :=
  granting [.learnWrite] (counting 22500 (sweeping.onWlu fun w => { record := { w.record with candidate := some (20020, 20020) }, outcome := some o }))

theorem witness_LearnWriteEntersReseat :
    ∀ o, o = .applied ∨ o = .held ∨ o = .failed .noWindow →
      (measured o).Sound ∧ (measured o).aar.workList = [.learnWrite] ∧ (measured o).ixc.state = .sweep ∧ (measured o).wlu.outcome = some o ∧
      (measured o).ixc.motion = some learnMotion ∧ learnMotion.kind = .learn ∧ (measured o).btk.saturated = false ∧
      (saturated (measured o)).btk.saturated = true ∧ (saturated (measured o)).Sound ∧
      ¬((counting 23501 (measured o)).btk.counter ≤ 20020 + settings.working.overtravel) ∧
      ¬((counting 23501 (measured o)).btk.counter ≤ (counting 23501 (measured o)).sweepLimit + settings.working.overtravel) ∧
      (measured o).rst.transfer = some settings ∧ (measured o).rst.windows.length = 15 ∧ (measured o).btk.captures.length = 15 ∧
      (measured o).btk.counter ≤ (measured o).sweepLimit + settings.working.overtravel ∧ (measured o).liu.links.length = 18 := by
  rintro o (rfl | rfl | rfl) <;> decide +kernel

def walking (c : Cell) (e : CellError) (s : State) : State := s.onRst fun r => { r with walk := c, errors := [(c, e)] }

/-- The store with the cells `cs` lost, the first of them at the walk position; nothing else changes. -/
def losing (cs : List Cell) (s : State) : State := s.onRst fun r =>
  { r with walk := cs.headD ⟨.geometry, 0⟩, errors := cs.map fun c => (c, .uncorrectable) }
theorem losing_quiet (cs : List Cell) (s : State) (h : s.Live ∧ s.quiet = true) : (losing cs s).Live ∧ (losing cs s).Quiet :=
  ⟨h.1, (State.quiet_iff s).1 h.2⟩

theorem witness_ScrubberReadsAndRepairsItsCell_quiet :
    (∀ c e, (walking c e line).Quiet) ∧ line.Quiet ∧ (∀ c e, (walking c e (limited false)).Quiet) ∧
    (¬(granting [.advance] line).Quiet ∧ ¬(asked .supl (.halt .supl 1) line).Quiet) := by
  have h : line.Quiet := (State.quiet_iff _).1 (by decide +kernel)
  refine ⟨fun _ _ => h, h, fun _ _ => (State.quiet_iff (limited false)).1 (by decide +kernel), ?_⟩
  simp only [← State.quiet_iff]; decide +kernel

theorem witness_ScrubberReadsAndRepairsItsCell :
    (line.Live ∧ line.rst.errors = [] ∧ 561 < Region.size .log) ∧
    ((walking ⟨.window, 14⟩ .correctable line).Live ∧
      (walking ⟨.window, 14⟩ .correctable line).rst.errors = [((walking ⟨.window, 14⟩ .correctable line).rst.walk, .correctable)]) ∧
    (∀ i, i = 0 ∨ i = 7 → let s := walking ⟨.routing, i⟩ .uncorrectable line
      s.Live ∧ i < 8 ∧ s.rst.walk = ⟨.routing, i⟩ ∧ s.rst.errors = [(s.rst.walk, .uncorrectable)] ∧ s.rst.routing.length = 128) ∧
    (∀ i, i = 0 ∨ i = 14 → let s := walking ⟨.window, i⟩ .uncorrectable line
      s.Live ∧ i < 15 ∧ s.rst.walk = ⟨.window, i⟩ ∧ s.rst.errors = [(s.rst.walk, .uncorrectable)] ∧ s.rst.windows.length = 15 ∧
      s.btk.captures.length = 15) ∧
    (∀ k g, k = 0 ∧ g = 1 ∨ k = 15 ∧ g = 15 → let s := walking ⟨.budget, k * 15 + (g - 1)⟩ .uncorrectable line
      s.Live ∧ k < 16 ∧ 1 ≤ g ∧ g ≤ 15 ∧ s.rst.walk = ⟨.budget, k * 15 + (g - 1)⟩ ∧ s.rst.errors = [(s.rst.walk, .uncorrectable)] ∧
      s.rst.budgets.length = 240 ∧ s.Shaped) ∧
    (let s := walking ⟨.budget, 1 * 15 + (3 - 1)⟩ .uncorrectable (limited false)
     s.Live ∧ s.rst.errors = [(s.rst.walk, .uncorrectable)] ∧ s.rst.budgets.length = 240 ∧ s.Shaped ∧ (s.pos 1).program = some 3 ∧
     (s.work 1).running.isSome = true) := by
  refine ⟨by decide +kernel, by decide +kernel, ?_, ?_, ?_, by decide +kernel⟩
  · rintro i (rfl | rfl) <;> decide +kernel
  · rintro i (rfl | rfl) <;> decide +kernel
  · rintro k g (⟨rfl, rfl⟩ | ⟨rfl, rfl⟩) <;> decide +kernel

/-- The states that the witnesses of lost cells start from are live, and nothing waits in them. -/
theorem losing_from (cs : List Cell) (s : State)
    (h : s = line ∨ s = lifting ∨ s = collecting ∨ s = resting .fault ∨ s = indexed .advance ∨ s = State.reset ∨ s = bare line) :
    (losing cs s).Live ∧ (losing cs s).Quiet := by
  refine losing_quiet cs s ?_
  rcases h with rfl | rfl | rfl | rfl | rfl | rfl | rfl <;> decide +kernel

theorem witness_LostPalletCellsAreRewrittenSafely :
    let far : State := line.onRst fun r => { r with slots := r.slots.set 63 (some (carrier 255 none)) }
    (∀ js ∈ [[0], [1], [2], [3 + 0], [3 + 13], [1, 2], [0, 1, 2]],
      (let s := losing (js.map fun j => ⟨.palletSlot, 17 * 0 + j⟩) line
       s.rst.walk = ⟨.palletSlot, 17 * 0 + js.headD 0⟩ ∧ s.Shaped ∧ s.rst.slots[0]? = some (some (carrier 1 (some (block .good 1))))) ∧
      (let s := losing (js.map fun j => ⟨.palletSlot, 17 * 63 + j⟩) far
       s.rst.walk = ⟨.palletSlot, 17 * 63 + js.headD 0⟩ ∧ s.Shaped ∧ s.rst.slots[63]? = some (some (carrier 255 none)))) ∧
    (far.Live ∧ far.quiet = true) ∧ member (carrier 1 none).variants 1 = true ∧
    (∀ x, x < 9 → member { carrier 1 none with variants := 0#16 }.variants x = false) ∧ (line.pos 1).occupant = .pallet 1 := by decide +kernel

theorem witness_LostPositionCellsAreRewrittenSafely :
    (∀ s ∈ [line, lifting, ordered 3 .unload .working line, ordered 3 .unload .done line],
      s.Live ∧ s.quiet = true ∧ s.Shaped ∧ (s.pos 3).kind ≠ .unused ∧ (s.pos 3).mode = .active) ∧
    (let s := bypassed 3 line
     s.Live ∧ s.quiet = true ∧ s.Shaped ∧ (s.pos 3).kind ≠ .unused ∧ (s.pos 3).mode = .bypass ∧ (s.pos 3).phase = .idle) ∧
    (line.pos 15).kind = .unused ∧ lifting.ixc.state.abortable = true ∧ line.ixc.state.abortable = false ∧
    (losing [⟨.positionTracking, 3⟩, ⟨.orderDetail, 3⟩] line).rst.walk = ⟨.positionTracking, 3⟩ ∧
    (losing [⟨.orderDetail, 15⟩] line).rst.walk = ⟨.orderDetail, 15⟩ := by decide +kernel

/-- A line that holds a learn result for acceptance, whose one window is `w` wide. -/
def kept (w : Int) : State := line.onWlu fun u => { u with record := { LearnRecord.reset with
  state := .held, candidate := some (20020, 20020)
  entries := { expected := true, capture := .fallen, low := some 20000, high := some (20000 + w), outcome := some .window } ::
    List.replicate 14 SweepEntry.blank } }

theorem witness_LostSettingsEnterConfigFault :
    (∀ s ∈ [line, lifting, collecting, resting .fault, indexed .advance, State.reset, bare line], s.Shaped ∧ s.rst.windows.length = 15) ∧
    (line.ixc.state = .halt ∧ (resting .fault).ixc.state = .fault ∧ (indexed .advance).ixc.state = .advance ∧
      collecting.ixc.state = .collect ∧ lifting.ixc.state.moving = true) ∧
    ((∀ k, k < 16 → (State.reset.pos k).kind = .unused) ∧ (line.pos 3).kind ≠ .unused ∧ State.reset.rst.geometry = none) ∧
    (line.rst.geometry = some geo ∧ line.rst.transfer = some settings) ∧
    ((losing [⟨.geometry, 0⟩, ⟨.geometry, 1⟩] sweeping).LearnUnheld ∧ (losing [⟨.geometry, 0⟩, ⟨.geometry, 1⟩] (kept 100)).LearnUnheld ∧
      sweeping.Shaped ∧ (sweeping.pos 3).kind ≠ .unused ∧ (kept 100).wlu.record.state = .held) ∧
    (∀ i, i = 0 ∨ i = 3 ∨ i = 4 ∨ i = 7 ∨ i = 8 → i < 9 ∧ [(⟨.transfer, i⟩ : Cell)].head? = some (losing [⟨.transfer, i⟩] line).rst.walk) ∧
    (∀ k, k = 0 ∨ k = 15 → [(⟨.positionConfig, k⟩ : Cell)].head? = some (losing [⟨.positionConfig, k⟩] line).rst.walk) := by
  refine ⟨?_, ?_, ?_, ?_, ?_, ?_, ?_⟩ <;> try decide +kernel
  · unfold State.LearnUnheld; decide +kernel
  · rintro i (rfl | rfl | rfl | rfl | rfl) <;> decide +kernel
  · rintro k (rfl | rfl) <;> decide +kernel

/-- A line whose log holds `n` records from place 31 on, and a last-fetched record. -/
def recorded (n : Nat) : State := line.onRst fun r => { r with
  log := (List.range n).map fun j => { number := 7 + j, detail := none, serial := .text [66#8], history := [.lost, .lost, .lost] }
  logHead := 31, recordCounter := 6 + n
  lastFetched := some { number := 6, detail := none, serial := .text [65#8], history := [] }
  schedule := [{ variant := 1, quantity := 1 }] }

/-- R159, R164: the repair of a lost header marks the serial LOST, and so writes the serial cell of the place with a fresh code. -/
theorem test_lost_header_writes_the_serial_cell :
    let s := after (.scrubberRead []) ((losing [⟨.log, 1 + 17 * 31⟩] (recorded 1)).onRst fun r =>
      { r with errors := r.errors ++ [(⟨.log, 3 + 17 * 31⟩, .correctable)] })
    s.rst.errors = [] ∧ s.rst.damages = 1 ∧ s.rst.corrections = 0 ∧ s.rst.log.map (·.serial) = [.lost] := by decide +kernel

theorem witness_LostListCellsAreRewrittenSafely :
    (∀ s ∈ [recorded 1, recorded 3, recorded 32, (recorded 0).onRst fun r => { r with recordCounter := 0, lastFetched := none }],
      s.Live ∧ s.quiet = true ∧ s.rst.logHead < 32 ∧ s.rst.log.length ≤ 32) ∧
    (∀ c ∈ [(⟨.returnQueue, 0⟩ : Cell), ⟨.returnQueue, 63⟩, ⟨.schedule, 0⟩, ⟨.schedule, 31⟩, ⟨.log, 0⟩, ⟨.log, 1 + 17 * 31 + 0⟩,
        ⟨.log, 1 + 17 * 0 + 2⟩, ⟨.log, 1 + 17 * 1 + 16⟩, ⟨.log, 1 + 17 * 32 + 16⟩],
      [c].head? = some (losing [c] (recorded 3)).rst.walk) ∧
    ((recorded 3).rst.log[0]?.map (·.number) = some 7 ∧ (recorded 3).rst.log[2]?.map (·.number) = some 9 ∧
      (recorded 1).rst.log.length = 1 ∧ ((recorded 3).rst.logHead + 2) % 32 = 1) ∧
    ((recorded 3).rst.lastFetched.isSome = true ∧ ¬((recorded 3).rst.recordCounter ≤ (recorded 3).rst.log.length)) := by decide +kernel

/-! ### States and operands that meet the hypotheses of the statements: links and reads -/

def replies (n : Nat) (l : Link) (s : State) : State :=
  s.onLink l fun r => { r with responses := List.replicate n { tag := 1, result := .ok, data := [] } }

theorem witness_FrameIsRefusedOrTakesTheSlot :
    (line.Live ∧ line.liu.links.length = 18 ∧ ¬(([] : List Byte).length ≤ 240 ∧ 0#16 = frameCheck 3 7 [])) ∧
    4 ≤ ((replies 4 .supl line).link .supl).responses.length ∧
    (3 ≤ ((replies 3 .supl (asked .supl (.halt .supl 1) line)).link .supl).responses.length ∧
      ((replies 3 .supl (asked .supl (.halt .supl 1) line)).link .supl).slot.isSome = true) ∧
    (let s := replies 2 .supl (asked .supl (.halt .supl 1) line)
     ¬(4 ≤ (s.link .supl).responses.length ∨ 3 ≤ (s.link .supl).responses.length ∧ (s.link .supl).slot.isSome = true) ∧
     (s.link .supl).slot.isSome = true) ∧
    (let s := replies 3 .supl line
     s.liu.links.length = 18 ∧ ¬(4 ≤ (s.link .supl).responses.length ∨ 3 ≤ (s.link .supl).responses.length ∧ (s.link .supl).slot.isSome = true) ∧
     (s.link .supl).slot = none) ∧
    ((61#8).toNat = 61 ∧ (0#8).toNat = 0) ∧ ¬((25#8).toNat ≤ 24) ∧ ¬((17#8).toNat ≤ 16 ∨ 25 ≤ (17#8).toNat ∧ (17#8).toNat ≤ 28) ∧
    ¬((16#8).toNat ≤ 15 ∨ 29 ≤ (16#8).toNat) ∧
    ((3#8).toNat ≤ 24 ∧ decodeRequest (.sl 1) 3 7 [9#8] = none) ∧ decodeRequest (.sl 1) 3 7 [] = some (.readIndex (.sl 1) 7) := by
  decide +kernel

def receiving (bs : List Byte) : State := line.onLink .supl fun r => { r with receiver := .inFrame bs }

theorem witness_ReceiversAssembleAndTransmittersSend :
    (line.Live ∧ line.liu.links.length = 18 ∧ (line.link .supl).receiver = .hunting ∧ 0#8 ≠ 165#8) ∧
    ((receiving []).Live ∧ ((receiving []).link .supl).receiver = .inFrame [] ∧ 240 < (241#8).toNat ∧ (240#8).toNat ≤ 240) ∧
    ((receiving [1#8, 3#8]).link .supl).receiver = .inFrame (1#8 :: [3#8]) ∧ [3#8].length + 1 < (1#8).toNat + 4 ∧
    ((receiving [0#8, 3#8, 7#8, 9#8]).link .supl).receiver = .inFrame (0#8 :: 3#8 :: 7#8 :: [] ++ [9#8]) ∧
    ([] : List Byte).length = (0#8).toNat := by decide +kernel

theorem witness_ReceiversAssembleAndTransmittersSend_sending :
    (line.Live ∧ line.liu.links.length = 18) ∧
    ((replies 1 .supl line).link .supl).responses = { tag := 1, result := .ok, data := [] } :: [] ∧
    ((line.link .supl).responses = [] ∧ (line.link .supl).unsolicited = some (.status 0 StatusContent.reset)) ∧
    ((line.link .drvl).responses = [] ∧ (line.link .drvl).unsolicited = none) := by decide +kernel

theorem witness_RequestsOnTheWrongLinkAreRefused :
    (line.Live ∧ line.Free .drvl ∧ line.Free (.sl 15) ∧ line.Free .supl) ∧
    Instr.request (.halt .drvl 1) = some (.supervisor, .drvl, 1) ∧ Instr.request (.hold .supl 1) = some (.station, .supl, 1) ∧
    Instr.request (.lifted (.sl 15) 1) = some (.drive, .sl 15, 1) ∧ Instr.request (.join .drvl 1 0 none) = some (.stationJoin, .drvl, 1) ∧
    Instr.request (.driveJoin (.sl 15) 1) = some (.driveJoin, .sl 15, 1) ∧
    Instr.request (.join .supl 1 0 none) = some (.stationJoin, .supl, 1) := by decide +kernel

theorem witness_ReadsAnswerAndChangeNothingElse :
    (line.Ready (.sl 0) ∧ line.Ready .supl ∧ line.Ready .drvl) ∧ line.pallet 255 = none ∧
    line.pallet 1 = some (carrier 1 (some (block .good 1))) := by decide +kernel

/-! ### States and operands that meet the hypotheses of the statements: stations -/

def phased (k : Nat) (x : Phase) (s : State) : State := s.onPos k fun p => { p with phase := x }

theorem witness_JoinTakesTheStation :
    ((bare line).Ready (.sl 0) ∧ (bare line).rst.geometry = none) ∧
    (line.Ready (.sl 4) ∧ line.rst.geometry.isSome = true ∧ line.unused 4 = true) ∧
    (line.Ready (.sl 3) ∧ line.unused 3 = false ∧ member 1#16 0 = true) ∧
    (∀ s : State, s = unjoined 3 line ∨ s = lifting ∨ s = bypassed 3 line ∨ s = ordered 3 .unload .working line ∨
        s = ordered 3 .unload .ordered line ∨ s = (ordered 3 .noOrder .fault line) ∨ s = collecting.setOccupant 2 .unknown →
      s.Ready (.sl 3) ∧ s.rst.geometry.isSome = true ∧ s.unused 3 = false ∧ member 0x8000#16 0 = false ∧ s.Shaped) ∧
    ((lifting.pos 3).mode = .active ∧ lifting.ixc.state.abortable = true) := by
  refine ⟨by decide +kernel, by decide +kernel, by decide +kernel, ?_, by decide +kernel⟩
  rintro s (rfl | rfl | rfl | rfl | rfl | rfl | rfl) <;> decide +kernel
/-- A line in COLLECT with an unknown occupant stays there whatever a position other than 2 comes to. -/
theorem waits_of_unknown (k : Nat) (p : Position) (s : State) (n : 2 < s.count) (o : k ≠ 2)
    (u : (s.pos 2).occupant = .unknown) : ¬(s.onPos k fun _ => p).Released := by
  rintro ⟨-, -, -, d, -⟩
  refine d 2 (by simpa [State.count, State.onPos, State.onRst] using n) ?_
  rwa [show ((s.onPos k fun _ => p).pos 2) = s.pos 2 by simp [State.pos, State.onPos, State.onRst, List.getD_eq_getElem?_getD, o]]
/-- The line in COLLECT, waiting for an occupant. -/
def unknown2 : State := collecting.setOccupant 2 .unknown
theorem witness_JoinTakesTheStation_waits (p : Position) :
    unknown2.ixc.state = .collect ∧ unknown2.ixc.state.abortable = false ∧ ¬(unknown2.onPos 3 fun _ => p).Released :=
  ⟨by decide +kernel, by decide +kernel, waits_of_unknown 3 p _ (by decide +kernel) (by decide) (by decide +kernel)⟩

theorem witness_LeaveAndHoldsWriteTheMembership :
    ((bare State.reset).Ready (.sl 15) ∧ (bare State.reset).unused 15 = true) ∧
    ((unjoined 3 line).Ready (.sl 3) ∧ (unjoined 3 line).unused 3 = false ∧ ((unjoined 3 line).pos 3).joined = none) ∧
    (∀ x, (phased 3 x line).Ready (.sl 3) ∧ (phased 3 x line).Member 3 ∧ ((phased 3 x line).pos 3).phase = x) := by
  refine ⟨by decide +kernel, by decide +kernel, fun x => ?_⟩
  cases x <;> decide +kernel

theorem witness_LeaveAndHoldsWriteTheMembership_holds :
    (line.Ready (.sl 4) ∧ line.unused 4 = true) ∧
    ((unjoined 3 line).Ready (.sl 3) ∧ (unjoined 3 line).unused 3 = false ∧ ((unjoined 3 line).pos 3).joined = none) ∧
    (line.Ready (.sl 3) ∧ line.Member 3 ∧ (line.pos 3).mode = .active) ∧
    ((bypassed 1 line).Ready (.sl 1) ∧ (bypassed 1 line).Member 1 ∧ ((bypassed 1 line).pos 1).mode = .bypass) := by decide +kernel
theorem witness_LeaveAndHoldsWriteTheMembership_waits : ¬(line.onPos 3 fun p => { p with hold := false }).Released := by
  rw [State.released_iff]; decide +kernel

def armed (s : State) : State := s.onIxc fun i => { i with learnArmed := true }
theorem index_clear (s : State) (h : s.btk.saturated = false ∧ s.btk.counter ≤ s.staged.target + s.staged.overtravel) :
    s.ClearToMove .index := h
theorem learn_clear (s : State)
    (h : s.btk.saturated = false ∧ s.btk.counter ≤ s.staged.target + s.staged.sweepMargin + s.staged.overtravel) : s.ClearToMove .learn := h

def heldBack : State := collecting.onPos 3 fun p => { p with hold := true }
def lineHeld : State := collecting.onIxc fun i => { i with lineHold := true }
def stepping : State := collecting.onIxc fun i => { i with runMode := .step }

def away : State := collecting.onPins fun p => { p with home := false }
/-- The line at the end of a BACK motion, at home and in AUTO. -/
def returned : State := ((settled .back 40 0b0110#16).onIxc fun i => { i with runMode := .auto }).onPins fun p => { p with home := true }

theorem witness_CollectionEntersPermit_clear : ∀ s : State,
    s = heldBack ∨ s = lineHeld ∨ s = stepping ∨ s = stopped collecting ∨ s = ordered 1 .process .working collecting ∨
      s = phased 1 .fault collecting ∨ s = ordered 0 .feed .ordered collecting ∨ s = unjoined 3 collecting ∨ s = bypassed 1 collecting ∨
      s = away ∨ s = returned →
    s.Shaped ∧ s.liu.links.length = 18 ∧ s.ixc.learnArmed = false ∧ s.ClearToMove .index := by
  rintro s (rfl | rfl | rfl | rfl | rfl | rfl | rfl | rfl | rfl | rfl | rfl) <;>
    exact ⟨by decide +kernel, by decide +kernel, by decide +kernel, index_clear _ (by decide +kernel)⟩
theorem barred (s : State) (k : MotionKind) (h : s.btk.saturated = true) : ¬s.ClearToMove k := fun c => by simp [h, State.ClearToMove] at c
theorem witness_CollectionEntersPermit_barred :
    (¬(saturated heldBack).ClearToMove .index ∧ (saturated heldBack).Ready (.sl 3) ∧ (saturated heldBack).Shaped ∧
      ((saturated heldBack).onPos 3 fun p => { p with hold := false }).Released) ∧
    (¬(counting 21001 heldBack).ClearToMove .index ∧ (counting 21001 heldBack).Ready (.sl 3) ∧ (counting 21001 heldBack).Shaped ∧
      ((counting 21001 heldBack).onPos 3 fun p => { p with hold := false }).Released) := by
  refine ⟨⟨barred _ _ rfl, ?_, ?_, (State.released_iff _).2 ?_⟩, fun c => ?_, ?_, ?_, (State.released_iff _).2 ?_⟩
  case refine_4 => exact absurd (show (21001 : Int) ≤ 21000 from c.2) (by decide)
  all_goals decide +kernel
theorem witness_CollectionEntersPermit_armed :
    (armed heldBack).Shaped ∧ (armed heldBack).ixc.learnArmed = true ∧ (armed heldBack).Ready (.sl 3) ∧ (armed heldBack).Member 3 ∧
    ((armed heldBack).onPos 3 fun p => { p with hold := false }).Released ∧ (armed heldBack).ClearToMove .learn := by
  refine ⟨?_, ?_, ?_, ?_, (State.released_iff _).2 (by decide +kernel), learn_clear _ (by decide +kernel)⟩ <;> decide +kernel

theorem witness_CollectionEntersPermit :
    (heldBack.Ready (.sl 3) ∧ heldBack.Member 3 ∧ (heldBack.onPos 3 fun p => { p with hold := false }).Released) ∧
    (lineHeld.Ready .supl ∧ (lineHeld.onIxc fun i => { i with lineHold := false }).Released) ∧
    (stepping.Ready .supl ∧ stepping.ixc.runMode = .step ∧ (stepping.onIxc fun i => { i with indexPending := true }).Released) ∧
    ((stopped collecting).Live ∧ (stopped collecting).pins.lineStop = true ∧
      ((stopped collecting).onPins fun p => { p with lineStop := false }).Released) ∧
    (away.Live ∧ away.pins.home = false ∧ (away.onPins fun p => { p with home := true }).Released) ∧
    (returned.Live ∧ returned.ixc.state = .settle ∧ returned.ixc.settleTimer.isSome = true ∧
      returned.ixc.motion = some { indexMotion with kind := .back, sample := some 40 } ∧ (((40 : Int).natAbs : Nat) : Int) ≤ returned.working.stopBand ∧
      (∀ k, k < 16 → k < returned.count → (member indexMotion.origin k = true ↔ member returned.pins.ip k = true)) ∧
      returned.ixc.haltRequested = false ∧ returned.ixc.configDue = false ∧
      (returned.onIxc fun i => { i with state := .collect }).Released) := by
  simp only [State.released_iff]; decide +kernel

theorem witness_CollectionEntersPermit_stations :
    (let s := ordered 1 .process .working collecting
     s.Ready (.sl 1) ∧ Instr.report (.clear (.sl 1) 1 7 (some .done)) = some (1, 1, 7) ∧ s.Reports 1 7 ∧ (s.pos 1).phase = .working ∧
     isNext (exec (.clear (.sl 1) 1 7 (some .done)) s) = true ∧ ((after (.clear (.sl 1) 1 7 (some .done)) s).pos 1).phase = .done ∧
     (s.onPos 1 fun p => { p with phase := .done }).Released) ∧
    (let s := phased 1 .fault collecting
     s.Ready (.sl 1) ∧ s.Member 1 ∧ (s.pos 1).phase = .fault ∧ (s.pos 1).faultCode ≠ some .selfTest ∧
     (s.onPos 1 fun p => { p with phase := .done, faultCode := none }).Released) ∧
    (let s := ordered 0 .feed .ordered collecting
     s.Ready (.sl 0) ∧ s.Reports 0 7 ∧ (s.pos 0).orderKind = .feed ∧ (s.pos 0).phase = .ordered ∧
     (s.onPos 0 fun p => { p with phase := .done }).Released) ∧
    (let s := unjoined 3 collecting
     s.Ready (.sl 3) ∧ s.rst.geometry.isSome = true ∧ s.unused 3 = false ∧ member 6#16 0 = false ∧ (s.pos 3).mode = .active ∧
     (s.onPos 3 fun p => { p with joined := some { programs := 6#16, selfTest := .pass }, phase := .done }).Released) ∧
    (let s := ordered 1 .process .working collecting
     s.Ready .supl ∧ s.rst.geometry.isSome = true ∧ (s.pos 1).kind = .process ∧ (s.pos 1).mode ≠ .bypass ∧
     (s.onPos 1 fun p => { p with mode := .bypass, phase := .idle, hold := false }).Released) ∧
    (let s := bypassed 1 collecting
     s.Ready .supl ∧ (s.pos 1).mode ≠ .active ∧ (s.onPos 1 fun p => { p with mode := .active, phase := .idle, hold := p.hold }).Released) := by
  simp only [State.released_iff]; and_intros <;> decide +kernel

theorem witness_ReportsAreCheckedInOrder :
    Instr.report (.start (.sl 1) 1 7) = some (1, 1, 7) ∧ Instr.report (.clearLoaded (.sl 0) 1 256 []) = some (0, 1, 256) ∧
    Instr.report (.arrived (.sl 15) 1 256 255) = some (15, 1, 256) ∧ Instr.report (.arrivedNoPallet (.sl 0) 1 7) = some (0, 1, 7) ∧
    (line.Ready (.sl 4) ∧ line.unused 4 = true) ∧
    ((unjoined 1 line).Ready (.sl 1) ∧ (unjoined 1 line).unused 1 = false ∧ ((unjoined 1 line).pos 1).joined = none) ∧
    (line.Ready (.sl 1) ∧ line.Member 1 ∧ 255 < 256 ∧ 255 ≤ 255 ∧ 255 ≠ (line.pos 1).orderNumber) := by decide +kernel

theorem witness_StartTakesUpTheOrder :
    (∀ ph, let s := ordered 1 .process ph line
      s.Ready (.sl 1) ∧ s.Reports 1 7 ∧ (s.pos 1).phase = ph ∧ (s.pos 1).orderKind = .process ∧ s.Shaped) ∧
    (let s := ordered 0 .feed .ordered line
     s.Ready (.sl 0) ∧ s.Reports 0 7 ∧ (s.pos 0).phase = .ordered ∧ (s.pos 0).orderKind = .feed) ∧
    (let s := ordered 3 .unload .ordered line
     s.Ready (.sl 3) ∧ s.Reports 3 7 ∧ (s.pos 3).phase = .ordered ∧ (s.pos 3).orderKind = .unload ∧ s.Shaped) := by
  refine ⟨fun ph => ?_, by decide +kernel, by decide +kernel⟩
  cases ph <;> decide +kernel

theorem witness_ClearRecordsTheResult :
    (let s := ordered 1 .process .working line
     s.Ready (.sl 1) ∧ s.Reports 1 7 ∧ (s.pos 1).phase = .working ∧ (s.pos 1).orderKind = .process ∧ s.Shaped ∧ (s.palletAt 1).isSome = true) ∧
    (let s := ordered 2 .check .working line
     s.Ready (.sl 2) ∧ s.Reports 2 7 ∧ (s.pos 2).phase = .working ∧ (s.pos 2).orderKind = .check ∧ s.Shaped) := by decide +kernel

/-- In COLLECT the end of an order leaves the line there while a position's occupant is unknown. -/
theorem witness_ClearRecordsTheResult_waits (p : Position) :
    (let s := ordered 1 .process .working unknown2
     s.Ready (.sl 1) ∧ s.Reports 1 7 ∧ (s.pos 1).phase = .working ∧ (s.pos 1).orderKind = .process ∧ s.Shaped ∧ s.ixc.state = .collect) ∧
    ¬((ordered 1 .process .working unknown2).onPos 1 fun _ => p).Released :=
  ⟨by decide +kernel, waits_of_unknown 1 p _ (by decide +kernel) (by decide) (by decide +kernel)⟩

theorem witness_RepeatedClearChangesNothing :
    (∀ ph, let s := ordered 3 .unload ph line
      s.Ready (.sl 3) ∧ s.Reports 3 7 ∧ (s.pos 3).phase = ph) ∧
    ((ordered 3 .unload .done line).onDetail 3 fun d => { d with resultTaken := some .kept }).detail 3 =
      { OrderDetail.reset with resultTaken := some .kept } ∧
    (let s := (ordered 0 .feed .done line).onDetail 0 fun d => { d with resultTaken := some .noPallet }
     s.Ready (.sl 0) ∧ s.Reports 0 7 ∧ (s.pos 0).phase = .done ∧ (s.detail 0).resultTaken = some .noPallet) ∧
    PlainResult.done ≠ .noPallet := by
  refine ⟨fun ph => ?_, by decide +kernel⟩
  cases ph <;> decide +kernel

theorem witness_ResultsAreRecordedOncePerPass :
    ({ block .good 1 with history := List.replicate 28 .lost } : Workpiece).history.length ≤ 28 ∧
    (∃ g r v, HistoryEntry.outcome 1 g (block .good 1).pass r v ∈ [HistoryEntry.outcome 1 3 1 .done none]) :=
  ⟨by decide +kernel, 3, .done, none, by decide⟩

/-- Position 0 working on LOAD(1) with pallet 6, which carries `w`. -/
def loading (i : Instruction) (w : Option Workpiece) : State :=
  (told 0 i (ordered 0 .load .working line)).setOccupant 0 (.pallet 6) |>.onPallet 6 fun p => { p with workpiece := w }

theorem witness_LoadedCreatesTheWorkpiece :
    (let s := loading (.load 1) none
     s.Ready (.sl 0) ∧ s.Reports 0 7 ∧ (s.pos 0).phase = .working ∧ (s.pos 0).orderKind = .load ∧ (s.pos 0).instruction = some (.load 1) ∧
     s.palletAt 0 = some 6 ∧ s.pallet 6 = some (carrier 6 none) ∧ s.Shaped) ∧
    (let s := loading (.load 1) (some (block .good 1))
     s.Ready (.sl 0) ∧ s.Reports 0 7 ∧ (s.pos 0).phase = .working ∧ (s.pos 0).orderKind = .load ∧ (s.pos 0).instruction = some (.load 1) ∧
     s.palletAt 0 = some 6 ∧ s.pallet 6 = some (carrier 6 (some (block .good 1)))) ∧
    validSerial [] = false ∧ validSerial [65#8] = true ∧ member 6#16 1 = true ∧ member 6#16 3 = false ∧
    (loading (.load 3) none).pos 0 = { (loading (.load 1) none).pos 0 with instruction := some (.load 3) } := by decide +kernel

def unloading (x : Lane) (w : Option Workpiece) : State :=
  (told 3 (.unload x .loop) (ordered 3 .unload .working line)).onPallet 3 fun p => { p with workpiece := w }

theorem witness_LoadAndUnloadResultsEndTheOrder :
    (∀ s : State, s = loading .passTwo (some (block .rework 1)) ∨ s = loading (.load 1) none ∨ s = loading (.empty .fixture) none ∨
        s = loading .remove (some (block .good 2)) →
      s.Ready (.sl 0) ∧ s.Reports 0 7 ∧ s.Shaped ∧ (s.pos 0).phase = .working ∧ (s.pos 0).orderKind = .load) ∧
    (∀ x, (unloading x none).Ready (.sl 3) ∧ (unloading x none).Reports 3 7 ∧ (unloading x none).Shaped ∧
      ((unloading x none).pos 3).phase = .working ∧ ((unloading x none).pos 3).orderKind = .unload ∧
      ((unloading x none).pos 3).instruction = some (.unload x .loop)) := by
  refine ⟨?_, fun x => ?_⟩
  · rintro s (rfl | rfl | rfl | rfl) <;> decide +kernel
  · cases x <;> decide +kernel

theorem witness_LoadAndUnloadResultsEndTheOrder_unfit :
    (∀ v, ((loading .passTwo (some (block .rework 1))).pos 0).instruction ≠ some (.load v)) ∧
    ((loading (.load 1) none).pos 0).instruction ≠ some .remove ∧
    (∀ r, ((unloading .keep none).pos 3).instruction ≠ some (.unload .ship r) ∧
      ((unloading .keep none).pos 3).instruction ≠ some (.unload .reject r)) :=
  ⟨nofun, nofun, fun _ => ⟨nofun, nofun⟩⟩

def logged (n : Nat) (s : State) : State :=
  s.onRst fun r => { r with log := List.replicate n { number := 1, detail := none, serial := .lost, history := [] } }

theorem witness_CompletionRecordIsAddedOrRefused :
    (∀ n, n = 31 ∨ n = 32 → (logged n (loading .remove (some (block .good 2)))).Ready (.sl 0) ∧
      (logged n (loading .remove (some (block .good 2)))).Reports 0 7 ∧
      ((logged n (loading .remove (some (block .good 2)))).pos 0).phase = .working ∧
      (logged n (loading .remove (some (block .good 2)))).palletAt 0 = some 6 ∧
      (logged n (loading .remove (some (block .good 2)))).pallet 6 = some (carrier 6 (some (block .good 2))) ∧
      ((logged n (loading .remove (some (block .good 2)))).pos 0).orderKind = .load ∧
      ((logged n (loading .remove (some (block .good 2)))).pos 0).instruction = some .remove ∧
      (logged n (loading .remove (some (block .good 2)))).rst.log.length = n ∧ (logged n (loading .remove (some (block .good 2)))).Shaped) ∧
    (∀ x, x = .ship ∨ x = .reject → (unloading x (some (block .good 1))).Ready (.sl 3) ∧ (unloading x (some (block .good 1))).Reports 3 7 ∧
      ((unloading x (some (block .good 1))).pos 3).phase = .working ∧ (unloading x (some (block .good 1))).palletAt 3 = some 3 ∧
      (unloading x (some (block .good 1))).pallet 3 = some (carrier 3 (some (block .good 1))) ∧
      ((unloading x (some (block .good 1))).pos 3).orderKind = .unload ∧
      ((unloading x (some (block .good 1))).pos 3).instruction = some (.unload x .loop) ∧ (unloading x (some (block .good 1))).Shaped) := by
  refine ⟨?_, ?_⟩
  · rintro n (rfl | rfl) <;> decide +kernel
  · rintro x (rfl | rfl) <;> decide +kernel

theorem witness_StationFaultIsEnteredAndLeft :
    ∀ s : State, s = ordered 1 .process .ordered line ∨ s = ordered 1 .process .working line ∨ s = lifting ∨ s = bypassed 1 line ∨
        s = ordered 1 .process .fault line →
      s.Ready (.sl 1) ∧ s.Member 1 ∧ s.Shaped ∧ 1 ≤ 255 ∧ 255 ≤ 255 ∧ 1 ≤ 1 := by
  rintro s (rfl | rfl | rfl | rfl | rfl) <;> decide +kernel

def faulted (c : FaultCode) (s : State) : State := s.onPos 1 fun p => { p with phase := .fault, faultCode := some c }

theorem witness_StationFaultIsEnteredAndLeft_recovered :
    (line.Ready (.sl 1) ∧ line.Member 1 ∧ (line.pos 1).phase ≠ .fault) ∧
    ((faulted .selfTest line).Ready (.sl 1) ∧ (faulted .selfTest line).Member 1 ∧
      ((faulted .selfTest line).pos 1).faultCode = some .selfTest) ∧
    (∀ s : State, s = faulted .noStart line ∨ s = faulted .store (ordered 1 .process .idle line) ∨ s = faulted .noStart unknown2 →
      s.Ready (.sl 1) ∧ s.Member 1 ∧ (s.pos 1).phase = .fault ∧ (s.pos 1).faultCode ≠ some .selfTest ∧ s.Shaped) := by
  refine ⟨by decide +kernel, by decide +kernel, ?_⟩
  rintro s (rfl | rfl | rfl) <;> decide +kernel
theorem witness_StationFaultIsEnteredAndLeft_waits (p : Position) :
    (faulted .noStart unknown2).ixc.state = .collect ∧ ¬((faulted .noStart unknown2).onPos 1 fun _ => p).Released :=
  ⟨by decide +kernel, waits_of_unknown 1 p _ (by decide +kernel) (by decide) (by decide +kernel)⟩

def feeding : State := ordered 0 .feed .ordered line

theorem witness_ArrivalIssuesTheLoadOrder :
    (line.Ready (.sl 0) ∧ line.Reports 0 0 ∧ ¬((line.pos 0).orderKind = .feed ∧ (line.pos 0).phase = .ordered)) ∧
    (feeding.Ready (.sl 0) ∧ feeding.Reports 0 7 ∧ (feeding.pos 0).orderKind = .feed ∧ (feeding.pos 0).phase = .ordered ∧ feeding.Shaped) ∧
    (1 ≤ 255 ∧ 255 ≤ 255 ∧ feeding.pallet 255 = none) ∧
    ((feeding.pallet 3).isSome = true ∧ (feeding.pos 3).occupant = .pallet 3) ∧
    ((feeding.pallet 5).isSome = true ∧ (∀ j, j < 16 → (feeding.pos j).occupant ≠ .pallet 5) ∧ feeding.queuePlace 5 = some 0) ∧
    ((feeding.pallet 6).isSome = true ∧ (∀ j, j < 16 → (feeding.pos j).occupant ≠ .pallet 6) ∧ feeding.queuePlace 6 = none ∧
      feeding.loadDecision (carrier 6 none) = .empty .noSchedule) ∧
    ((feeding.onRst fun r => { r with returnQueue := [6, 5] }).queuePlace 5 = some 1) ∧
    (let s := feeding.onRst fun r => { r with schedule := [{ variant := 3, quantity := 1 }] }
     s.Shaped ∧ s.Reports 0 7 ∧ s.loadDecision (carrier 6 none) = .empty .fixture ∧ s.rst.schedule = { variant := 3, quantity := 1 } :: []) := by
  decide +kernel

theorem witness_ArrivalWithoutPalletEndsTheFeed :
    (line.Ready (.sl 0) ∧ line.Reports 0 0 ∧ (line.pos 0).orderKind ≠ .feed) ∧
    (∀ ph, let s := ordered 0 .feed ph line
      s.Ready (.sl 0) ∧ s.Reports 0 7 ∧ (s.pos 0).orderKind = .feed ∧ (s.pos 0).phase = ph ∧ s.Shaped) ∧
    (let s := ordered 0 .feed .ordered unknown2
     s.Ready (.sl 0) ∧ s.Reports 0 7 ∧ (s.pos 0).orderKind = .feed ∧ (s.pos 0).phase = .ordered ∧ s.Shaped ∧ s.ixc.state = .collect) := by
  refine ⟨by decide +kernel, fun ph => ?_, by decide +kernel⟩
  cases ph <;> decide +kernel
theorem witness_ArrivalWithoutPalletEndsTheFeed_waits (p : Position) : ¬((ordered 0 .feed .ordered unknown2).onPos 0 fun _ => p).Released :=
  waits_of_unknown 0 p _ (by decide +kernel) (by decide) (by decide +kernel)

theorem witness_LoadInstructionFollowsThePallet :
    (carrier 6 (some (block .rework 1))).workpiece = some (block .rework 1) ∧
    ((carrier 6 none).workpiece = none ∧ line.maintenanceDue { carrier 6 none with clamps := 100 } = true) ∧
    (line.maintenanceDue { carrier 6 none with clamps := 99 } = false ∧ line.rst.schedule = []) ∧
    (let s := line.onRst fun r => { r with schedule := [{ variant := 3, quantity := 1 }] }
     s.maintenanceDue (carrier 6 none) = false ∧ s.rst.schedule = { variant := 3, quantity := 1 } :: []) := by decide +kernel

/-! ### States and operands that meet the hypotheses of the statements: the drive and the supervisor -/

def undriven (s : State) : State := s.onIxc fun i => { i with driveJoined := false }
def learning : State := { sweeping with ixc := { sweeping.ixc with state := .permit } }
def settling (n : Nat) (s : State) : State :=
  s.onRst fun r => { r with transfer := r.transfer.map fun x => { x with working := { x.working with settleTime := n } } }

theorem witness_LiftedAndLoweredMoveTheBar :
    ((undriven line).Ready .drvl ∧ (undriven line).ixc.driveJoined = false) ∧
    (line.Ready .drvl ∧ line.ixc.driveJoined = true ∧ line.ixc.state ≠ .permit ∧ line.ixc.state ≠ .carry ∧ line.ixc.state ≠ .reseat) ∧
    (∀ s : State, s = counting 21000 lifting ∨ s = counting 21001 lifting ∨ s = saturated lifting →
      s.Ready .drvl ∧ s.ixc.driveJoined = true ∧ s.ixc.motion = some indexMotion ∧ s.ixc.state = .permit ∧ indexMotion.kind ≠ .learn) ∧
    (∀ c, c = 22499 ∨ c = 22500 → (counting c learning).Ready .drvl ∧ (counting c learning).ixc.driveJoined = true ∧
      (counting c learning).ixc.motion = some learnMotion ∧ (counting c learning).ixc.state = .permit ∧
      (counting c learning).btk.saturated = false ∧ (counting c learning).wlu.outcome = none ∧
      (counting c learning).wlu.record.settings.isSome = true ∧ (counting c learning).rst.geometry.isSome = true) ∧
    (22499 < learning.sweepLimit ∧ learning.sweepLimit ≤ 22500) ∧
    (∀ s : State, s = counting 21000 (indexed .carry) ∨ s = counting 21001 (indexed .carry) ∨ s = saturated (indexed .carry) ∨
        s = settling 0 (indexed .carry) →
      s.Ready .drvl ∧ s.ixc.driveJoined = true ∧ s.ixc.motion = some indexMotion ∧ s.ixc.state = .carry) ∧
    (0 < (indexed .carry).working.settleTime ∧ (settling 0 (indexed .carry)).working.settleTime = 0) := by
  refine ⟨by decide +kernel, by decide +kernel, ?_, ?_, by decide +kernel, ?_, by decide +kernel⟩
  · rintro s (rfl | rfl | rfl) <;> decide +kernel
  · rintro c (rfl | rfl) <;> decide +kernel
  · rintro s (rfl | rfl | rfl | rfl) <;> decide +kernel
theorem witness_LiftedAndLoweredMoveTheBar_limits :
    let carry (s : State) := { s with ixc := { s.ixc with state := IxcState.carry } }
    let sweep (s : State) := { s with ixc := { s.ixc with state := IxcState.sweep } }
    let settle (s : State) := { s with ixc := { s.ixc with state := IxcState.settle } }
    ¬(carry (counting 21000 lifting)).InOvertravel indexMotion 21000 ∧ (carry (counting 21001 lifting)).InOvertravel indexMotion 21001 ∧
    ¬(sweep (counting 22500 learning)).InOvertravel learnMotion 22500 ∧
    ¬(settle (counting 21000 (indexed .carry))).InOvertravel indexMotion 21000 ∧
    (settle (counting 21001 (indexed .carry))).InOvertravel indexMotion 21001 := by
  refine ⟨fun h => ?_, ?_, fun h => ?_, fun h => ?_, ?_⟩
  · exact absurd (show (21000 : Int) < 21000 from h) (by decide)
  · exact show (21000 : Int) < 21001 by decide
  · exact absurd (show (23500 : Int) < 22500 from h) (by decide)
  · exact absurd (show (21000 : Int) < 21000 from h) (by decide)
  · exact show (21000 : Int) < 21001 by decide

def driveFaulted (s : State) : State := s.onIxc fun i => { i with driveFaulted := true }

theorem witness_DriveReportsKeepTheFlags :
    (lifting.Ready .drvl ∧ lifting.ixc.state = .permit ∧ lifting.ixc.driveJoined = true ∧ lifting.ixc.state.moving = true) ∧
    (line.Ready .drvl ∧ line.ixc.driveJoined = true ∧ line.ixc.state.moving = false) ∧
    ((undriven line).Ready .drvl ∧ (undriven line).ixc.driveJoined = false) ∧
    ((undriven collecting).Ready .drvl ∧
      ({ undriven collecting with ixc := { (undriven collecting).ixc with driveJoined := true, driveFaulted := false } } : State).Released ∧
      (undriven collecting).Shaped) ∧
    ((driveFaulted collecting).Ready .drvl ∧ (driveFaulted collecting).ixc.driveJoined = true ∧
      ({ driveFaulted collecting with ixc := { (driveFaulted collecting).ixc with driveFaulted := false } } : State).Released) ∧
    ¬({ line with ixc := { line.ixc with driveJoined := true, driveFaulted := false } } : State).Released ∧
    ¬({ line with ixc := { line.ixc with driveFaulted := false } } : State).Released := by
  simp only [State.released_iff]; decide +kernel
theorem witness_DriveReportsKeepTheFlags_clear : (undriven collecting).ClearToMove .index ∧ (driveFaulted collecting).ClearToMove .index :=
  ⟨index_clear _ (by decide +kernel), index_clear _ (by decide +kernel)⟩

theorem witness_DriveReportsKeepTheFlags_barred :
    (¬(saturated (undriven collecting)).ClearToMove .index ∧ (saturated (undriven collecting)).Ready .drvl) ∧
    (¬(saturated (driveFaulted collecting)).ClearToMove .index ∧ (saturated (driveFaulted collecting)).Ready .drvl) :=
  ⟨⟨barred _ _ rfl, by decide +kernel⟩, barred _ _ rfl, by decide +kernel⟩

theorem witness_GeometryRebuildsTheLine :
    (lifting.Ready .supl ∧ lifting.ixc.state ≠ .halt) ∧ (line.Ready .supl ∧ line.ixc.state = .halt ∧ line.Shaped) ∧
    ((bare line).Ready .supl ∧ (bare line).ixc.state = .halt ∧ (bare line).Shaped ∧ (bare line).rst.transfer = none) ∧
    (let ks := List.replicate 14 (some WorkKind.check)
     3 ≤ 16 ∧ 16 ≤ 16 ∧ ks.length = 16 - 2 ∧ (∀ k, k ∈ ks → k.isSome = true) ∧ 1000 ≤ 200000 ∧ 200000 ≤ 200000 ∧ 1 ≤ 64 ∧ 64 ≤ 64) ∧
    (let ks := [some WorkKind.process]
     3 ≤ 3 ∧ 3 ≤ 16 ∧ ks.length = 3 - 2 ∧ (∀ k, k ∈ ks → k.isSome = true) ∧ 1000 ≤ 1000 ∧ 1000 ≤ 200000 ∧ 1 ≤ 1 ∧ 1 ≤ 64) ∧
    ¬(1000 ≤ 999) ∧
    (line.palletAt 3 = some 3 ∧ ∀ k, k < 16 → k ≠ 3 → line.palletAt k ≠ some 3) ∧ (∀ k, k < 16 → line.palletAt k ≠ some 6) := by
  refine ⟨?_, ?_, ?_, ?_, ?_, ?_⟩ <;> decide +kernel

theorem witness_SettingsAreClampedOrRefused :
    ((bare line).Ready .supl ∧ (bare line).rst.geometry = none) ∧
    (line.Ready .supl ∧ line.rst.geometry = some geo ∧ line.rst.transfer = some settings ∧ line.Shaped) ∧
    (∀ z : Nat × Int, z ∈ [((1 : Nat), (5 : Int)), (18, 0), (10, 3)] → z.1 < 2 ∨ 17 < z.1 ∨ (z.1 = 10 ∧ z.2 ≠ 1 ∧ z.2 ≠ 2)) ∧
    (∀ z : Nat × Int, z ∈ [((2 : Nat), (0 : Int)), (15, 999999), (10, 2)] → 2 ≤ z.1 ∧ z.1 ≤ 15 ∧ (z.1 = 10 → z.2 = 1 ∨ z.2 = 2)) ∧
    (∀ z : Nat × Int, z ∈ [((16 : Nat), (500 : Int)), (3, 5), (17, 20)] → 2 ≤ z.1 ∧ z.1 ≤ 17 ∧ (z.1 = 10 → z.2 = 1 ∨ z.2 = 2)) ∧
    (∃ z, z ∈ [((16 : Nat), (500 : Int)), (3, 5), (17, 20)] ∧ 16 ≤ z.1) ∧
    (1000 ≤ geo.pitch ∧ 1 ≤ geo.resolution ∧ geo.resolution ≤ 64) := by
  refine ⟨?_, ?_, ?_, ?_, ?_, ⟨(16, 500), ?_⟩, ?_⟩ <;> decide +kernel

theorem witness_ModesAndOccupantsAreSet :
    line.Ready .supl ∧ 15 < 16 ∧ ((bare line).Ready .supl ∧ (bare line).rst.geometry = none) ∧
    (line.rst.geometry.isSome = true ∧ (line.pos 4).kind = .unused ∧ (line.pos 3).kind = .unload) ∧
    ((line.pos 1).kind ≠ .unused ∧ (line.pos 1).kind ≠ .load ∧ (line.pos 1).kind ≠ .unload ∧ line.ixc.state = .halt ∧
      (line.pos 1).mode ≠ .bypass ∧ line.Shaped) ∧
    (lifting.Ready .supl ∧ lifting.ixc.state.moving = true) ∧
    ((ordered 1 .process .working line).Ready .supl ∧ ((ordered 1 .process .working line).pos 1).phase = .working) ∧
    ((bypassed 1 line).Ready .supl ∧ ((bypassed 1 line).pos 1).mode = .bypass ∧ (bypassed 1 line).Shaped) ∧
    (line.pallet 255 = none ∧ (line.pallet 5).isSome = true ∧ line.location 5 ≠ .out ∧ (line.pos 1).occupant ≠ .pallet 5) ∧
    ((line.pallet 6).isSome = true ∧ line.location 6 = .out) ∧ ((line.pallet 1).isSome = true ∧ (line.pos 1).occupant = .pallet 1) ∧
    (let s := (resting .fault).onIxc fun i => { i with
       motion := some indexMotion, currentFault := some { cause := .tracking, check := none, kind := some .index, stamp := 0#32 } }
     s.Ready .supl ∧ s.ixc.state = .fault ∧ s.ixc.motion.isSome = true ∧ s.ixc.currentFault.map (·.cause) = some .tracking) := by
  and_intros <;> decide +kernel

theorem witness_ModesAndOccupantsAreSet_waits (p : Position) :
    ((phased 1 .done unknown2).Ready .supl ∧ (phased 1 .done unknown2).ixc.state = .collect ∧ (phased 1 .done unknown2).Shaped ∧
      ((phased 1 .done unknown2).pos 1).mode ≠ .bypass) ∧ ¬((phased 1 .done unknown2).onPos 1 fun _ => p).Released :=
  ⟨by decide +kernel, waits_of_unknown 1 p _ (by decide +kernel) (by decide) (by decide +kernel)⟩

theorem witness_PalletRequestsWriteTheRecord :
    line.Ready .supl ∧ (line.pallet 1).isSome = true ∧ (line.pallet 255 = none ∧ ∃ o, o ∈ line.rst.slots ∧ o = none) ∧
    (let s := line.onRst fun r => { r with slots := (List.range 64).map fun i => some (carrier (i + 1) none) }
     s.Ready .supl ∧ s.pallet 255 = none ∧ ∀ o, o ∈ s.rst.slots → o.isSome = true) ∧
    ((0b10#16 : Mask) ≠ 0#16 ∧ member 1#16 0 = true ∧ member 0x200#16 9 = true) ∧
    (line.pallet 6 = some (carrier 6 none) ∧ line.location 6 = .out ∧ (carrier 6 none).workpiece = none ∧ (carrier 6 none).damaged = false) ∧
    (line.pallet 5 = some (carrier 5 none) ∧ line.location 5 ≠ .out) ∧
    (line.pallet 1 = some (carrier 1 (some (block .good 1))) ∧ (block .good 1).pass ≠ 2 ∧ (block .good 2).pass = 2) ∧
    ((line.onPallet 6 fun p => { p with damaged := true }).pallet 6).map (·.damaged) = some true := by
  refine ⟨by decide +kernel, by decide +kernel, ⟨by decide +kernel, none, by decide +kernel⟩, ?_⟩
  decide +kernel

theorem witness_RunAndHaltRuleTheCollection :
    (∀ s : State, s = line ∨ s = bare line ∨ s = unjoined 3 line ∨ s = undriven line ∨ s = line.setOccupant 3 .unknown ∨
        s = (line.onRst fun r => { r with routing := r.routing.set (0 * 16 + 1) 4 }) →
      s.Ready .supl ∧ s.ixc.state = .halt) ∧
    (line.rst.geometry.isSome = true ∧ line.rst.unconfirmed = false ∧ line.ixc.driveJoined = true ∧ line.ixc.configDue = false) ∧
    (((unjoined 3 line).pos 3).mode = .active ∧ ((unjoined 3 line).pos 3).joined = none ∧
      ∀ j, j < 3 → ¬(((unjoined 3 line).pos j).mode = .active ∧ ((unjoined 3 line).pos j).joined = none)) ∧
    ((undriven line).ixc.driveJoined = false ∧ ∀ k, k < (undriven line).count → ((undriven line).pos k).joined.isSome = true) ∧
    (((line.setOccupant 3 .unknown).pos 3).occupant = .unknown ∧ ∀ j, j < 3 → ((line.setOccupant 3 .unknown).pos j).occupant ≠ .unknown) ∧
    (let s := line.onRst fun r => { r with routing := r.routing.set (0 * 16 + 1) 4 }
     s.routing 1 1 = 4 ∧ (s.pos 1).kind = .process ∧ (s.pos 1).joined.map (fun j => member j.programs 4) = some false) ∧
    (∀ k, k < line.count → (line.pos k).occupant ≠ .unknown) ∧
    (collecting.Ready .supl ∧ collecting.ixc.state = .collect) ∧ (stepping.Ready .supl ∧ stepping.ixc.runMode = .step) ∧
    (lifting.Ready .supl ∧ lifting.ixc.state.moving = true) ∧ ((resting .fault).Ready .supl ∧ (resting .fault).ixc.state = .fault) := by
  refine ⟨?_, by decide +kernel⟩
  rintro s (rfl | rfl | rfl | rfl | rfl | rfl) <;> decide +kernel

def atHome (s : State) : State := s.onPins fun p => { p with home := true }

theorem witness_RunAndHaltRuleTheCollection_released :
    (let s := atHome line
     s.Ready .supl ∧ s.Shaped ∧ s.ixc.state = .halt ∧ (∀ k v, k < s.count → 1 ≤ v → v ≤ 8 → s.routing v k = 0) ∧
     ({ s with ixc := { s.ixc with state := .collect, runMode := .auto } } : State).Released ∧
     ¬({ line with ixc := { line.ixc with state := .collect, runMode := .auto } } : State).Released) ∧
    (({ collecting with ixc := { collecting.ixc with runMode := .auto } } : State).Released ∧ collecting.Shaped) ∧
    ¬({ collecting with ixc := { collecting.ixc with runMode := .step } } : State).Released ∧
    ¬({ heldBack with ixc := { heldBack.ixc with indexPending := true } } : State).Released ∧
    ¬({ line with ixc := { line.ixc with lineHold := false } } : State).Released := by
  simp only [State.released_iff]
  refine ⟨⟨by decide +kernel, by decide +kernel, by decide +kernel, fun k v hk hv hv' => ?_, by decide +kernel⟩, by decide +kernel⟩
  have : ∀ k, k < 4 → ∀ v, v < 9 → (atHome line).routing v k = 0 := by decide +kernel
  exact this k hk v (by omega)

theorem witness_RunAndHaltRuleTheCollection_barred :
    (¬(saturated (atHome line)).ClearToMove .index ∧ (saturated (atHome line)).Ready .supl) ∧
    (¬(saturated collecting).ClearToMove .index ∧ (saturated collecting).Ready .supl ∧ (saturated collecting).Shaped) :=
  ⟨⟨barred _ _ rfl, by decide +kernel⟩, barred _ _ rfl, by decide +kernel⟩

def failed (k : MotionKind) (s : State) : State := s.onIxc fun i => { i with
  state := .fault, motion := some { kind := k, origin := 0b0110#16, target := 20000, sample := none } }

theorem witness_FaultsAreClearedOrRecovered :
    (lifting.Ready .supl ∧ lifting.ixc.state.moving = true) ∧ (line.Ready .supl ∧ ¬(line.ixc.state.moving = true ∨ line.ixc.state = .advance)) ∧
    ((resting .fault).Ready .supl ∧ (resting .fault).ixc.state = .fault ∧ (resting .fault).ixc.motion = none) ∧
    (∀ s : State, s = failed .index line ∨ s = failed .index (line.setOccupant 1 .unknown) →
      s.Ready .supl ∧ s.ixc.state = .fault ∧ s.ixc.motion = some indexMotion ∧ s.pins.lineStop = false ∧
      (∀ k, k < s.count → (s.pos k).phase ≠ .fault) ∧ s.ixc.driveFaulted = false ∧ s.Shaped) ∧
    (∃ k, k < (failed .index (line.setOccupant 1 .unknown)).count ∧ ((failed .index (line.setOccupant 1 .unknown)).pos k).occupant = .unknown) ∧
    (∀ k, k < (failed .index line).count → ((failed .index line).pos k).occupant ≠ .unknown) ∧
    ((stopped (failed .index line)).Ready .supl ∧ (stopped (failed .index line)).pins.lineStop = true) := by
  refine ⟨?_, ?_, ?_, ?_, ⟨1, by decide +kernel⟩, ?_, ?_⟩ <;> try decide +kernel
  rintro s (rfl | rfl) <;> decide +kernel
theorem witness_FaultsAreClearedOrRecovered_clear :
    (counting 21000 (failed .index line)).ClearToMove .forward ∧ (counting (-1000) (failed .index line)).ClearToMove .back :=
  ⟨⟨by decide +kernel, show (21000 : Int) ≤ 21000 by decide⟩, by decide +kernel, show (-1000 : Int) ≤ -1000 by decide⟩

/-- A RECOVER with the index timer running, and with none (R173). -/
theorem witness_FaultsAreClearedOrRecovered_marks :
    ((failed .index line).onCtm fun c => { c with indexTimer := some 12 }).ctm.indexTimer.isSome = true ∧
    (failed .index line).ctm.indexTimer.isSome = false := by decide +kernel

theorem witness_FaultsAreClearedOrRecovered_barred :
    ¬(counting 21001 (failed .index line)).ClearToMove .forward ∧ ¬(counting (-1001) (failed .index line)).ClearToMove .back ∧
    ¬(saturated (failed .index line)).ClearToMove .forward ∧ (counting 21001 (failed .index line)).Ready .supl :=
  ⟨fun c => absurd (show (21001 : Int) ≤ 21000 from c.2) (by decide), fun c => absurd (show (-1000 : Int) ≤ -1001 from c.2) (by decide),
    barred _ _ rfl, by decide +kernel⟩

theorem witness_LineResetEmptiesTheLine :
    (∀ s : State, s = line ∨ s = lifting ∨ s = ordered 1 .process .working line → s.Ready .supl ∧ s.Shaped) ∧
    (lifting.ixc.motion.isSome = true ∧ 3 < lifting.count ∧ (lifting.palletAt 3).isSome = true) ∧
    (lifting.palletAt 3 = some 3 ∧ ∀ k, k < 16 → k ≠ 3 → lifting.palletAt k ≠ some 3) := by
  refine ⟨?_, by decide +kernel⟩
  rintro s (rfl | rfl | rfl) <;> decide +kernel

theorem witness_ListsTakeAndGive :
    (line.Ready .supl ∧ line.pallet 255 = none) ∧
    ((line.pallet 1).isSome = true ∧ line.location 1 ≠ .out ∧ ∀ i, i < 64 → line.location 1 ≠ .queue i) ∧
    ((line.pallet 6).isSome = true ∧ line.location 6 = .out) ∧ ((line.pallet 5).isSome = true ∧ line.location 5 = .queue 0) ∧
    (let s := line.onRst fun r => { r with schedule := List.replicate 32 { variant := 1, quantity := 1 } }
     s.Ready .supl ∧ 32 ≤ s.rst.schedule.length) ∧ line.rst.schedule.length < 32 ∧ line.rst.log = [] ∧
    ((logged 1 line).Ready .supl ∧ (logged 1 line).rst.log = { number := 1, detail := none, serial := .lost, history := [] } :: []) := by
  decide +kernel

theorem witness_TablesAndTimingAreWritten :
    line.Ready .supl ∧ ((bare line).Ready .supl ∧ (bare line).rst.geometry = none) ∧
    (line.rst.geometry.isSome = true ∧ (line.pos 15).kind = .unused ∧ (line.pos 3).kind = .unload ∧ (line.pos 1).kind = .process ∧
      line.rst.routing.length = 128 ∧ line.rst.budgets.length = 240 ∧ line.Shaped) ∧
    (line.pos 1).joined.map (fun j => (member j.programs 15, member j.programs 5)) = some (false, true) ∧
    ((limited false).Ready .supl ∧ (limited false).Shaped ∧ (limited false).rst.budgets.length = 240 ∧ ((limited false).pos 1).program = some 3 ∧
      ((limited false).work 1).running.isSome = true) ∧
    ((0x4000#16).getLsbD 14 = true ∧ (0x0200#16).getLsbD 9 = true ∧ ¬((0xBDFF#16).getLsbD 14 = true ∨ (0xBDFF#16).getLsbD 9 = true)) := by
  decide +kernel

theorem witness_LearnRequestsRuleTheHeldResult :
    ((bare line).Ready .supl ∧ (bare line).rst.geometry = none) ∧ (line.Ready .supl ∧ line.wlu.record.state ≠ .held ∧ line.rst.geometry.isSome = true) ∧
    (∀ w, w = 99 ∨ w = 100 → (kept w).Ready .supl ∧ (kept w).wlu.record.state = .held ∧ (kept w).rst.windows.length = 15 ∧
      (kept w).btk.captures.length = 15 ∧
      ((∃ e, e ∈ (kept w).wlu.record.entries ∧ e.outcome = some .window ∧ e.high.getD 0 - e.low.getD 0 < (kept w).working.minWidth) ↔ w = 99)) := by
  refine ⟨by decide +kernel, by decide +kernel, ?_⟩
  rintro w (rfl | rfl) <;> refine ⟨?_, ?_, ?_, ?_, ?_⟩ <;> decide +kernel

/-! ### Figures of the manual's worked sequences -/

/-- The check value of the 16-bit check with this polynomial and initial value (R180). -/
theorem test_check_of_the_digits : crc [49, 50, 51, 52, 53, 54, 55, 56, 57] = 0x29B1#16 := by decide +kernel
/-- Chapter 6.6, its table and its second pitch. -/
theorem test_targets_are_placed :
    [20021, 20022, 26003, 14998].map geo.place = [20020, 20024, 25000, 15000] ∧ geo.quantize 26003 = 26004 ∧
    ({ geo with resolution := 64 } : Geometry).place 20000 = 20032 ∧ ({ geo with resolution := 64 } : Geometry).tlo = 15040 ∧
    ({ geo with resolution := 64 } : Geometry).thi = 24960 := by decide +kernel
/-- Chapter 9.7: the limits of 40,000 ms at 10 % and of 30,000 ms at 5 %. -/
theorem test_budget_limits : budgetLimit (some 10) 40000 = some 44000 ∧ budgetLimit (some 5) 30000 = some 31500 := by decide +kernel
/-- Chapter 7.8: four windows, T₀ = 20,000 and bias 6 give Tnew = 20,020 with margins 170 and 160 and drift 20, APPLIED. -/
theorem test_learn_of_four_windows :
    let seen (l u : Int) : SweepEntry := { expected := true, capture := .fallen, low := some l, high := some u, outcome := some .window }
    let r := LearnRecord.compute { sweeping.wlu.record with
        entries := [seen 19820 20240, seen 19790 20180, seen 19850 20260, seen 19800 20205] ++ List.replicate 11 SweepEntry.blank }
      { start := 20000, sweepMargin := 2500, limit := 22500, bias := 6, minWidth := 100, driftLimit := 200, extend := false } geo
    r.2 = .applied ∧ r.1.centre = some 20015 ∧ r.1.intersection = some (19850, 20180) ∧ r.1.candidate = some (20020, 20020) ∧ r.1.margins = some (170, 160) ∧
    r.1.drift = some 20 := by decide +kernel
/-- Chapter 1.2: OT = 6,000 and SM = 800 are clamped to 5,000 and 1,000 in the pending copy. -/
theorem test_set_transfer_clamps :
    let s := after (.setTransfer .supl 1 [(3, 6000), (4, 800), (11, 150)]) line
    (s.staged.overtravel, s.staged.sweepMargin, s.staged.settleTime) = (5000, 1000, 150) ∧
    (s.working.overtravel, s.working.sweepMargin, s.working.settleTime) = (1000, 2500, 100) := by decide +kernel
/-- Chapter 1.2: SET GEOMETRY with P = 12,000 clamps OT = 5,000 to 3,000 and keeps SM = 1,000. -/
theorem test_set_geometry_refits :
    let s := after (.setGeometry .supl 2 4 [some .process, some .check] 12000 4 none)
      (line.onRst fun r => { r with transfer := r.transfer.map fun x => { x with pending := { x.pending with overtravel := 5000, sweepMargin := 1000 } } })
    (s.staged.overtravel, s.staged.sweepMargin, s.staged.target) = (3000, 1000, 12000) := by decide +kernel

/-! ### Wired lines and timers -/

/-- A window [19,820, 20,240] at position 1, its capture armed. -/
def entering (c : Int) : State := counting c <| (indexed .carry).onBtk (fun b => { b with
  captures := b.captures.modify 0 fun x => { x with state := .armed } }) |>.onRst fun r => { r with
  windows := r.windows.set 0 (some { low := 19820, high := 20240 }) }
/-- Chapter 6.7: E = 19,905 against L = 19,820 gives the drift 85, within ET. -/
theorem test_entry_is_captured : let s := after (.inPositionEdge 1 true) (entering 19905)
    (s.btk.captures.getD 0 EntryCapture.reset).drift = some 85 ∧ s.liu.attentions.locatorDrift = 0#16 := by decide +kernel
/-- R133: a drift of 162 exceeds ET = 150 (chapter 6.7). -/
theorem test_entry_drift_is_reported : (after (.inPositionEdge 1 true) (entering 19982)).liu.attentions.locatorDrift = 0b10#16 := by decide +kernel
/-- Chapter 6.7: HOME at 38 lies within HT; at −63 it raises HOME_DRIFT. -/
theorem test_home_references : let s := after .homeRising (counting 38 line)
    s.btk.counter = 0 ∧ s.btk.lastHomeError = some 38 ∧ s.liu.attentions.homeDrift = none := by decide +kernel
theorem test_home_drift_is_reported : (after .homeRising (counting (-63) line)).liu.attentions.homeDrift = some (-63) := by decide +kernel
theorem test_line_stop_aborts : (after .lineStopActive lifting).ixc.currentFault.map (·.cause) = some .stopped := by decide +kernel
theorem test_overtravel_aborts :
    (after (.encoderEdge (.edge .a .carry)) (counting 21000 lifting)).ixc.currentFault.map (·.cause) = some .overtravel ∧
    (after (.encoderEdge (.edge .a .carry)) (counting 20999 lifting)).ixc.state = .permit := by decide +kernel
theorem test_sweep_ends_at_the_limit :
    (after (.encoderEdge (.edge .b .carry)) (counting 22499 sweeping)).aar.workList = [.learnWrite] := by decide +kernel
theorem test_timeouts_fault :
    ((after .liftTimeout lifting).ixc.currentFault.map (·.cause), (after .sweepTimeout sweeping).ixc.currentFault.map (·.cause),
      (after .homeTimeout homing).ixc.currentFault.map (·.cause)) = (some .liftTimeout, some .carryTimeout, some .homeTimeout) := by decide +kernel
/-- R53: |S − T| = 40 stays within B = 40, 41 does not. -/
theorem test_stop_check : (after .settleEnd (settled .index 20041 0b1100#16)).ixc.currentFault.map (·.cause) = some .stopMiss ∧
    (after .settleEnd (settled .index 20040 0b1100#16)).ixc.state = .advance := by decide +kernel
theorem test_seat_check : (after .settleEnd (settled .index 20040 0b1110#16)).ixc.currentFault.map (fun f => (f.cause, f.check.map (·.unexpected))) =
    some (.seat, some 0b10#16) := by decide +kernel
theorem test_start_expiry_is_written : let s := after (.startTimeoutWrite 1) (granting [.startExpiry 1] unstarted)
    (s.pos 1).faultCode = some .noStart ∧ (s.workpiece 1).map (·.disposition) = some .rework := by decide +kernel
theorem test_overrun_is_raised : (after (.overrun 1) (limited false)).liu.attentions.overrun = 0b10#16 := by decide +kernel
/-- R171: a limit that has been raised to the timer's value is not exceeded. -/
theorem test_overrun_follows_the_limit :
    (after (.overrun 1) ((limited false).onWork 1 fun w => { w with limit := some 9 })).liu.attentions.overrun = 0#16 := by decide +kernel
/-- R56 to R58: the pallets move one position on, the last one joins the return queue, position 0 is fed. -/
theorem test_advance_shifts : let s := after .advance advancing
    ((List.range 4).map fun k => (s.pos k).occupant) = [.empty, .empty, .pallet 1, .pallet 2] ∧ s.rst.returnQueue = [5, 3] ∧
    (s.pos 0).orderKind = .feed ∧ (s.pos 0).orderNumber = 1 ∧ s.ixc.state = .collect := by decide +kernel
theorem test_learn_write_applies : let s := after .learnWrite (measured .applied)
    s.ixc.state = .reseat ∧ s.working.target = 20020 ∧ s.liu.attentions.learnDone = some .applied := by decide +kernel
theorem test_scrubber_corrects : let s := after (.scrubberRead [(⟨.geometry, 0⟩, .correctable)]) line
    s.rst.corrections = 1 ∧ s.rst.walk = ⟨.geometry, 1⟩ ∧ s.rst.errors = [] := by decide +kernel
/-- R165: both geometry cells lost; N follows from the highest position in use, P and Q are the least, and FAULT(CONFIG) ends COLLECT. -/
theorem test_scrubber_rebuilds_the_geometry : let s := after (.scrubberRead []) (losing [⟨.geometry, 0⟩, ⟨.geometry, 1⟩] collecting)
    s.rst.geometry = some { count := 4, kinds := [.process, .check], pitch := 1000, resolution := 1, service := 20000 } ∧
    s.rst.unconfirmed = true ∧ s.rst.errors = [] ∧ s.rst.damages = 2 ∧ s.ixc.currentFault.map (·.cause) = some .config := by decide +kernel

/-! ### Links -/

/-- Request bodies written out from R192 and the request index 10.7: a command of each family. -/
theorem test_request_bodies :
    decodeRequest (.sl 1) 4 7 [1] = some (.readRouting (.sl 1) 7 (some 1) none) ∧
    decodeRequest (.sl 1) 16 7 [0, 40, 1] = some (.join (.sl 1) 7 40 (some .pass)) ∧
    decodeRequest (.sl 1) 21 7 [42, 1] = some (.clear (.sl 1) 7 42 (some .done)) ∧
    decodeRequest .drvl 25 7 [] = some (.lifted .drvl 7) ∧
    decodeRequest .supl 29 7 [6, 4, 1, 1, 2, 1, 0, 0, 78, 32, 4] =
      some (.setGeometry .supl 7 6 [some .process, some .process, some .check, some .process] 20000 4 none) ∧
    decodeRequest .supl 32 7 [2, 3, 9] = some (.setOccupant .supl 7 2 (.pallet 9)) ∧
    decodeRequest .supl 54 7 [255, 255, 255, 254] = some (.setTarget .supl 7 (-2)) := by decide +kernel

theorem test_frame_takes_the_slot :
    ((after (.frameReceived .supl 41 7 [] (frameCheck 41 7 [])) line).link .supl).slot = some (.index .supl 7) := by decide +kernel
theorem test_frame_is_not_permitted : answer (.sl 1) (after (.frameReceived (.sl 1) 40 7 [] (frameCheck 40 7 [])) line) =
    some (.refused .notPermitted, []) := by decide +kernel
theorem test_preamble_starts_a_frame : ((after (.characterReceived .drvl (some 165#8)) line).link .drvl).receiver = .inFrame [] := by decide +kernel
theorem test_gap_ends_a_frame : ((after (.receiveGapTimeout .supl) (receiving [1#8])).link .supl).errorCount = 1 := by decide +kernel
theorem test_responses_go_first : ((after (.frameSent .supl) (replies 1 .supl line)).link .supl).responses = [] := by decide +kernel
/-- R97 and R192: 1 entry, 63 free places, then the list: place 0, pallet 5, no workpiece, flags clear. -/
theorem test_read_return : answer (.sl 2) (after (.readReturn (.sl 2) 1) line) =
    some (.ok, [1#8, 63#8, 1#8, 0#8, 5#8, 0#8, 2#8, 2#8]) := by decide +kernel

/-! ### Stations and the drive -/

theorem test_join_with_fail : ((after (.join (.sl 1) 1 0x28 (some .fail)) line).pos 1).faultCode = some .selfTest := by decide +kernel
theorem test_leave : ((after (.leave (.sl 1) 1) line).pos 1).joined = none := by decide +kernel
theorem test_unhold_completes_collection : (after (.unhold (.sl 3) 1) heldBack).ixc.state = .permit := by decide +kernel
theorem test_hold : ((after (.hold (.sl 3) 1) line).pos 3).hold = true := by decide +kernel
theorem test_start_counts_a_clamp : let s := after (.start (.sl 1) 1 7) unstarted
    (s.pos 1).phase = .working ∧ (s.pallet 1).map (·.clamps) = some 1 := by decide +kernel
theorem test_clear_incomplete_is_rework : let s := after (.clear (.sl 1) 1 7 (some .incomplete)) (ordered 1 .process .working line)
    (s.pos 1).phase = .done ∧ s.workpiece 1 = some { block .rework 1 with history := [.outcome 1 3 1 .incomplete (some 9)] } := by decide +kernel
/-- R104: a CLEAR that names NO_PALLET equals no result taken. -/
theorem test_clear_no_pallet : answer (.sl 0) (after (.clear (.sl 0) 1 7 (some .noPallet))
    ((ordered 0 .feed .done line).onDetail 0 fun d => { d with resultTaken := some .noPallet })) = some (.refused .wrongState, []) := by
  decide +kernel
theorem test_clear_loaded : let s := after (.clearLoaded (.sl 0) 1 7 [66#8]) (loading (.load 1) none)
    s.workpiece 6 = some { block .good 1 with serial := .text [66#8] } := by decide +kernel
theorem test_clear_loaded_duplicate : let s := after (.clearLoaded (.sl 0) 1 7 [65#8]) (loading (.load 1) none)
    (s.workpiece 6).map (·.disposition) = some .suspect ∧ s.liu.attentions.duplicateSerial = some 6 := by decide +kernel
theorem test_clear_ready_opens_pass_two : let s := after (.clearReady (.sl 0) 1 7) (loading .passTwo (some (block .rework 1)))
    s.workpiece 6 = some (block .good 2) := by decide +kernel
theorem test_clear_empty : ((after (.clearEmpty (.sl 0) 1 7) (loading (.load 1) none)).pos 0).phase = .done := by decide +kernel
theorem test_clear_removed : let s := after (.clearRemoved (.sl 0) 1 7) (loading .remove (some (block .good 2)))
    s.workpiece 6 = none ∧ s.rst.log.map (fun c => c.detail.map (·.lane)) = [some .removedAtLoad] := by decide +kernel
theorem test_clear_unloaded : let s := after (.clearUnloaded (.sl 3) 1 7) (unloading .ship (some (block .good 1)))
    s.workpiece 3 = none ∧ s.rst.recordCounter = 1 := by decide +kernel
theorem test_clear_kept : ((after (.clearKept (.sl 3) 1 7) (unloading .keep (some (block .rework 1)))).pos 3).phase = .done := by decide +kernel
theorem test_clear_stuck : let s := after (.clearStuck (.sl 3) 1 7) (unloading .ship (some (block .good 1)))
    (s.pallet 3).map (·.divert) = some true ∧ (s.workpiece 3).map (·.disposition) = some .suspect := by decide +kernel
theorem test_station_fault : let s := after (.stationFault (.sl 1) 1 9) (ordered 1 .process .working line)
    (s.pos 1).faultCode = some (.station 9) ∧ (s.workpiece 1).map (·.disposition) = some .suspect := by decide +kernel
theorem test_recovered : ((after (.recovered (.sl 1) 1) (faulted .noStart (ordered 1 .process .idle line))).pos 1).phase = .done := by decide +kernel
theorem test_arrived : let s := after (.arrived (.sl 0) 1 7 5) feeding
    (s.pos 0).occupant = .pallet 5 ∧ (s.pos 0).orderNumber = 8 ∧ s.rst.returnQueue = [] := by decide +kernel
theorem test_arrived_no_pallet : ((after (.arrivedNoPallet (.sl 0) 1 7) feeding).detail 0).resultTaken = some .noPallet := by decide +kernel
theorem test_lifted : (after (.lifted .drvl 1) lifting).ixc.state = .carry ∧ (after (.lifted .drvl 1) learning).ixc.state = .sweep := by decide +kernel
theorem test_lowered_samples : (after (.lowered .drvl 1) (counting 20047 (indexed .carry))).ixc.motion.map (·.sample) = some (some 20047) := by decide +kernel
theorem test_drive_join_is_refused_while_lifting : answer .drvl (after (.driveJoin .drvl 1) lifting) = some (.refused .wrongState, []) := by decide +kernel
theorem test_drive_fault : (after (.driveFault .drvl 1) lifting).ixc.currentFault.map (·.cause) = some .driveFault := by decide +kernel
theorem test_drive_recovered : (after (.driveRecovered .drvl 1) (driveFaulted line)).ixc.driveFaulted = false := by decide +kernel

/-! ### The supervisor -/

theorem test_set_mode_abandons : let s := after (.setMode .supl 1 1 (some .bypass)) (ordered 1 .process .working line)
    (s.pos 1).phase = .idle ∧ (s.detail 1).closing = .abandoned := by decide +kernel
theorem test_set_occupant : ((after (.setOccupant .supl 1 0 (.pallet 6)) line).pos 0).occupant = .pallet 6 := by decide +kernel
theorem test_survey : let s := after (.survey .supl 1) (line.onPins fun p => { p with ip := 0b0011#16 })
    ((List.range 4).map fun k => (s.pos k).occupant) = [.unknown, .pallet 1, .empty, .empty] := by decide +kernel
theorem test_register_pallet : (after (.registerPallet .supl 1 9 0b10) line).pallet 9 = some { carrier 9 none with variants := 0b10#16 } := by decide +kernel
theorem test_retire_pallet : (after (.retirePallet .supl 1 6) line).pallet 6 = none := by decide +kernel
theorem test_mark_out : ((after (.markOut .supl 1 1) line).pallet 1).map (·.divert) = some true := by decide +kernel
theorem test_reset_clamps : ((after (.resetClamps .supl 1 6 none) (line.onPallet 6 fun p => { p with clamps := 100 })).pallet 6).map (·.clamps) =
    some 0 := by decide +kernel
theorem test_set_disposition : ((after (.setDisposition .supl 1 1 (some .reject)) line).workpiece 1).map (·.disposition) = some .reject := by decide +kernel
theorem test_run_names_the_unknown_occupant : answer .supl (after (.run .supl 1 (some .auto)) (line.setOccupant 2 .unknown)) =
    some (.refused .trackingIncomplete, [2#8]) := by decide +kernel
theorem test_halt_in_collect : (after (.halt .supl 1) collecting).ixc.state = .halt := by decide +kernel
theorem test_index_in_step : (after (.index .supl 1) stepping).ixc.state = .permit := by decide +kernel
theorem test_abort : (after (.abort .supl 1) lifting).ixc.currentFault.map (·.cause) = some .aborted := by decide +kernel
theorem test_clear_fault : (after (.clearFault .supl 1) (resting .fault)).ixc.state = .halt := by decide +kernel
theorem test_recover_forward : (after (.recoverForward .supl 1) (failed .learn line)).motionKind = some .forward := by decide +kernel
theorem test_recover_back : (after (.recoverBack .supl 1) (failed .index line)).ixc.motion.map (·.target) = some 0 := by decide +kernel
theorem test_hold_line : (after (.holdLine .supl 1) collecting).ixc.lineHold = true := by decide +kernel
theorem test_release_line : (after (.releaseLine .supl 1) lineHeld).ixc.state = .permit := by decide +kernel
theorem test_line_reset : let s := after (.lineReset .supl 1) lifting
    s.ixc.state = .halt ∧ s.ixc.motion = none ∧ (s.pos 1).occupant = .unknown ∧ (s.pos 0).occupant = .empty := by decide +kernel
/-- R198: the sixth step posts a STATUS frame, also where the reset changes no content. -/
theorem test_line_reset_posts : (after (.lineReset .supl 1) State.reset).liu.sequence = 1 := by decide +kernel
theorem test_set_routing : (after (.setRouting .supl 1 2 1 5) line).routing 2 1 = 5 := by decide +kernel
theorem test_insert_return : (after (.insertReturn .supl 1 6) line).rst.returnQueue = [5, 6] := by decide +kernel
theorem test_withdraw_return : (after (.withdrawReturn .supl 1 5) line).location 5 = .out := by decide +kernel
theorem test_append_schedule_clamps : (after (.appendSchedule .supl 1 2 0) line).rst.schedule = [{ variant := 2, quantity := 1 }] := by decide +kernel
theorem test_clear_schedule : (after (.clearSchedule .supl 1) (line.onRst fun r => { r with schedule := [{ variant := 1, quantity := 1 }] })).liu.attentions.scheduleEmpty =
    true := by decide +kernel
theorem test_fetch_completion : (after (.fetchCompletion .supl 1) (logged 2 line)).rst.log.length = 1 := by decide +kernel
theorem test_set_target : (after (.setTarget .supl 1 20022) line).staged.target = 20024 := by decide +kernel
theorem test_learn : (after (.learn .supl 1) line).ixc.learnArmed = true := by decide +kernel
theorem test_accept_learn : let s := after (.acceptLearn .supl 1) (kept 100)
    s.staged.target = 20020 ∧ s.working.target = 20000 ∧ s.window 1 = some { low := 20000, high := 20100 } := by decide +kernel
theorem test_discard_learn : (after (.discardLearn .supl 1) (kept 99)).wlu.record.state = .discarded := by decide +kernel
/-- A lost tracking cell names no occupant, so the grant leaves the damaged header of the pallet that stood there. -/
theorem test_lost_position_names_no_pallet :
    let s := after (.stationFault (.sl 1) 1 9) (losing [⟨.positionTracking, 1⟩, ⟨.palletSlot, 0⟩] line)
    s.rst.damages = 1 ∧ s.rst.errors = [(⟨.palletSlot, 0⟩, .uncorrectable)] ∧ (s.pos 1).occupant = .unknown := by decide +kernel
/-- The response of SET GEOMETRY carries every setting, so every transfer cell is read. -/
theorem test_set_geometry_reads_the_settings :
    (after (.setGeometry .supl 1 3 [some .process] 20000 4 none) (losing [⟨.transfer, 6⟩] line)).rst.damages = 1 := by decide +kernel
theorem test_recover_reads_the_geometry :
    (after (.recoverBack .supl 1) (losing [⟨.geometry, 0⟩] (failed .index line))).rst.damages = 1 := by decide +kernel
theorem test_set_budget : (after (.setBudget .supl 1 1 3 700000) line).budget 1 3 = 600000 := by decide +kernel
theorem test_clear_timing : (after (.clearTiming .supl 1) (line.onCtm fun c => { c with advances := 3 })).ctm.advances = 0 := by decide +kernel
theorem test_acknowledge : let s := after (.acknowledge .supl 1 0x4000) line
    answer .supl s = some (.refused .range, []) := by decide +kernel

/-- R192: a field that may be absent is one byte and the field, each on its own; READ LEARN's entries are absent in NONE (R140). -/
theorem test_absent_fields_have_their_own_byte :
    optBytes u16 (some 3) = [1#8, 0#8, 3#8] ∧ optBytes u16 none = [0#8] ∧ FaultRecord.bytes { cause := .tracking, check := none, kind := none, stamp := 5#32 } =
      [11#8, 0#8, 0#8, 0#8, 0#8, 0#8, 0#8, 0#8, 0#8, 0#8, 5#8] := by decide +kernel

end Sys2Proof.Tests
end

section
/-! SUPPORT. The law of one place (O9): what every operation of the model does to the places of pallets, and the step lemma
assembled from it. -/

namespace Sys2Proof.Machine

/-! ### Where pallets stand: the part of the store that `State.PalletsStandOnce` speaks of -/

/-- The occupants, the return queue and the numbers in the slots: all that the law of one place looks at. -/
structure Places where
  occupants : List Occupant
  queue : List Nat
  numbers : List (Option Nat)

/-- The places of a store. -/
def Rst.places (r : Rst) : Places :=
  { occupants := r.positions.map (·.occupant), queue := r.returnQueue, numbers := r.slots.map fun o => o.map (·.number) }

/-- The number of the record in slot `i`. -/
def State.numberIn (s : State) (i : Nat) : Option Nat := (s.rst.places.numbers[i]?).join

theorem State.palletAt_eq_some (s : State) (k n : Nat) : s.palletAt k = some n ↔ (s.pos k).occupant = .pallet n := by
  unfold State.palletAt; cases (s.pos k).occupant <;> simp

theorem State.palletAt_eq_places (s : State) (k : Nat) : s.palletAt k = (s.rst.places.occupants[k]?).bind Occupant.number := by
  unfold State.palletAt State.pos Rst.places
  rw [List.getD_eq_getElem?_getD, List.getElem?_map]
  cases s.rst.positions[k]? with
  | none => rfl
  | some p => dsimp only [Option.getD_some, Option.map_some, Option.bind_some, Occupant.number]; cases p.occupant <;> rfl

/-- A pallet stands at one of the positions that the table has. -/
theorem State.palletAt_lt {s : State} {k n : Nat} (h : s.palletAt k = some n) : k < s.rst.positions.length := by
  by_contra c
  simp [State.palletAt_eq_places, Rst.places, List.getElem?_eq_none (Nat.not_lt.mp c)] at h

theorem State.numberIn_eq_some (s : State) (i n : Nat) :
    s.numberIn i = some n ↔ ∃ p, s.rst.slots[i]? = some (some p) ∧ p.number = n := by
  simp [State.numberIn, Rst.places, Option.join_eq_some_iff]

/-- The law of one place, said of the places alone. -/
theorem State.palletsStandOnce_iff (s : State) : s.PalletsStandOnce ↔
    s.rst.positions.length = 16 ∧ (∀ i j n, s.palletAt i = some n → s.palletAt j = some n → i = j) ∧ s.rst.returnQueue.Nodup ∧
      (∀ i n, s.palletAt i = some n → n ∉ s.rst.returnQueue) ∧
      ∀ i j n, s.numberIn i = some n → s.numberIn j = some n → i = j := by
  constructor
  · rintro ⟨entries, positions, queue, apart, slots⟩
    refine ⟨entries, positions, queue, apart, fun i j n hi hj => ?_⟩
    obtain ⟨p, hp, rfl⟩ := (s.numberIn_eq_some i n).mp hi
    obtain ⟨q, hq, e⟩ := (s.numberIn_eq_some j _).mp hj
    exact slots i j p q hp hq e.symm
  · rintro ⟨entries, positions, queue, apart, numbers⟩
    exact ⟨entries, positions, queue, apart, fun i j p q hp hq e =>
      numbers i j p.number ((s.numberIn_eq_some _ _).mpr ⟨p, hp, rfl⟩) ((s.numberIn_eq_some _ _).mpr ⟨q, hq, e.symm⟩)⟩

/-! ### A state in which pallets may only have left their places -/

/-- Every pallet of `t` stands where it stood in `s`; some may have gone. -/
structure State.Thins (s t : State) : Prop where
  entries : t.rst.positions.length = s.rst.positions.length
  positions : ∀ k n, t.palletAt k = some n → s.palletAt k = some n
  queue : t.rst.returnQueue.Sublist s.rst.returnQueue
  numbers : ∀ i n, t.numberIn i = some n → s.numberIn i = some n

theorem State.Thins.refl (s : State) : s.Thins s := ⟨rfl, fun _ _ h => h, .refl _, fun _ _ h => h⟩

theorem State.Thins.trans {s t u : State} (a : s.Thins t) (b : t.Thins u) : s.Thins u :=
  ⟨b.entries.trans a.entries, fun k n h => a.positions k n (b.positions k n h), b.queue.trans a.queue,
    fun i n h => a.numbers i n (b.numbers i n h)⟩

/-- States with the same places thin each other. -/
theorem State.Thins.of_places {s t : State} (h : t.rst.places = s.rst.places) : s.Thins t where
  entries := by simpa [Rst.places] using congrArg (·.occupants.length) h
  positions k n e := by rwa [State.palletAt_eq_places, h, ← State.palletAt_eq_places] at e
  queue := by rw [show t.rst.returnQueue = s.rst.returnQueue from congrArg Places.queue h]
  numbers i n e := by rwa [State.numberIn, h] at e

theorem State.Thins.then_places {s t u : State} (h : s.Thins t) (e : u.rst.places = t.rst.places) : s.Thins u :=
  h.trans (.of_places e)

theorem State.Thins.after_places {s t u : State} (h : t.Thins u) (e : t.rst.places = s.rst.places) : s.Thins u :=
  (State.Thins.of_places e).trans h

/-- A chain of thinning steps thins. -/
theorem State.Thins.foldl {α : Type} {f : State → α → State} (h : ∀ (u : State) (x : α), u.Thins (f u x)) (xs : List α) (s : State) :
    s.Thins (xs.foldl f s) := by
  induction xs generalizing s with
  | nil => exact .refl s
  | cons x xs ih => exact (h s x).trans (ih _)

/-- The law of one place holds on where pallets only leave. -/
theorem State.Thins.keeps {s t : State} (h : s.Thins t) (hs : s.PalletsStandOnce) : t.PalletsStandOnce := by
  obtain ⟨entries, positions, queue, apart, numbers⟩ := s.palletsStandOnce_iff.mp hs
  exact t.palletsStandOnce_iff.mpr ⟨h.entries.trans entries,
    fun i j n hi hj => positions i j n (h.positions _ _ hi) (h.positions _ _ hj), queue.sublist h.queue,
    fun i n hi hq => apart i n (h.positions _ _ hi) (h.queue.subset hq),
    fun i j n hi hj => numbers i j n (h.numbers _ _ hi) (h.numbers _ _ hj)⟩

/-- The law of one place holds on where the places are as they were. -/
theorem State.PalletsStandOnce.of_places {s t : State} (hs : s.PalletsStandOnce) (h : t.rst.places = s.rst.places) :
    t.PalletsStandOnce := (State.Thins.of_places h).keeps hs

/-! ### Operations that leave the store, or its places, as they were -/

theorem map_modify_of_eq {α β : Type} (g : α → β) (f : α → α) (h : ∀ x, g (f x) = g x) (xs : List α) (k : Nat) :
    (xs.modify k f).map g = xs.map g := by
  refine List.ext_getElem? fun i => ?_
  simp only [List.getElem?_map, List.getElem?_modify]
  cases xs[i]? with
  | none => rfl
  | some x => by_cases e : k = i <;> simp [e, h]

/-- A fold of steps that each keep what `g` shows keeps it. -/
theorem foldl_keeps {α β γ : Type} {g : β → γ} {f : β → α → β} (h : ∀ b x, g (f b x) = g b) (xs : List α) (b : β) :
    g (xs.foldl f b) = g b := by
  induction xs generalizing b with
  | nil => rfl
  | cons x xs ih => rw [List.foldl_cons, ih, h]

@[simp] theorem State.onPos_places (s : State) (k : Nat) (f : Position → Position) (h : ∀ p, (f p).occupant = p.occupant) :
    (s.onPos k f).rst.places = s.rst.places := by
  simp only [State.onPos, State.onRst_rst, Rst.places, map_modify_of_eq _ f h]

@[simp] theorem State.onDetail_places (s : State) (k : Nat) (f : OrderDetail → OrderDetail) :
    (s.onDetail k f).rst.places = s.rst.places := rfl

@[simp] theorem State.rewriteCells_places (s : State) (cs : List Cell) : (s.rewriteCells cs).rst.places = s.rst.places := rfl

theorem State.onPallet_places (s : State) (n : Nat) (f : Pallet → Pallet) (h : ∀ p, (f p).number = p.number) :
    (s.onPallet n f).rst.places = s.rst.places := by
  have e : ∀ p : Pallet, (if p.number = n then f p else p).number = p.number := fun p => by split <;> simp [h]
  simp [State.onPallet, Rst.places, Function.comp_def, e]

@[simp] theorem State.onWorkpiece_places (s : State) (n : Nat) (f : Workpiece → Workpiece) :
    (s.onWorkpiece n f).rst.places = s.rst.places := s.onPallet_places n _ fun _ => rfl

theorem State.onSlot_places (s : State) (i : Nat) (f : Pallet → Pallet) (h : ∀ p, (f p).number = p.number) :
    (s.onSlot i f).rst.places = s.rst.places := by
  simp only [State.onSlot, State.onRst_rst, Rst.places]
  rw [map_modify_of_eq]
  intro o; cases o <;> simp [h]

@[simp] theorem State.postStatus_rst (s : State) : s.postStatus.rst = s.rst := rfl

@[simp] theorem State.closeEvent_rst (s t : State) : (State.closeEvent s t).rst = t.rst := (State.closeEvent_blocks s t).1

@[simp] theorem State.noteSchedule_rst (s t : State) : (State.noteSchedule s t).rst = t.rst := by
  unfold State.noteSchedule; split <;> rfl

/-! #### Orders -/

@[simp] theorem State.recordResult_places (s : State) (k g : Nat) (r : HistoryResult) (w : Option Nat) :
    (s.recordResult k g r w).rst.places = s.rst.places := by
  unfold State.recordResult; cases s.palletAt k <;> simp

@[simp] theorem State.cancelOrder_places (s : State) (k : Nat) (c : Cancellation) :
    (s.cancelOrder k c).rst.places = s.rst.places := by
  unfold State.cancelOrder
  cases c <;> simp [Cancellation.result] <;> split <;> simp

@[simp] theorem State.cancelOutstanding_places (s : State) (k : Nat) : (s.cancelOutstanding k).rst.places = s.rst.places := by
  unfold State.cancelOutstanding; split <;> simp

@[simp] theorem State.writeOrder_places (s : State) (k n : Nat) (o : OrderKind) (g : Option Nat) (i : Option Instruction) :
    (s.writeOrder k n o g i).rst.places = s.rst.places := by simp [State.writeOrder]

@[simp] theorem State.clearOrder_places (s : State) (k : Nat) : (s.clearOrder k).rst.places = s.rst.places := by
  simp [State.clearOrder]

@[simp] theorem State.clearOrders_places (s : State) : s.clearOrders.rst.places = s.rst.places :=
  foldl_keeps (g := fun u : State => u.rst.places) State.clearOrder_places _ s

@[simp] theorem State.issueOrder_places (s : State) (k n : Nat) (o : OrderKind) (g : Option Nat) (i : Option Instruction) :
    (s.issueOrder k n o g i).rst.places = s.rst.places := by simp [State.issueOrder]

@[simp] theorem State.postOrder_rst (s : State) (k : Nat) : (s.postOrder k).rst = s.rst := rfl

@[simp] theorem State.completeWorkpiece_places (s : State) (n : Nat) (x : LogLane) :
    (s.completeWorkpiece n x).rst.places = s.rst.places := by
  unfold State.completeWorkpiece
  cases s.workpiece n with
  | none => rfl
  | some w => exact State.onPallet_places _ _ _ fun _ => rfl

/-! #### Windows, targets and the learn -/

@[simp] theorem State.startLearn_rst (s : State) (m : Mask) : (s.startLearn m).rst = s.rst := rfl

@[simp] theorem State.endSweep_rst (s : State) : s.endSweep.rst = s.rst := by unfold State.endSweep; split <;> rfl

@[simp] theorem State.checkSweepEnd_rst (s : State) : s.checkSweepEnd.rst = s.rst := by
  unfold State.checkSweepEnd; split <;> simp

@[simp] theorem State.abortLearn_rst (s : State) (c : Cause) : (s.abortLearn c).rst = s.rst := rfl

@[simp] theorem State.resetLearn_rst (s : State) : s.resetLearn.rst = s.rst := rfl

@[simp] theorem State.discardHeld_rst (s : State) : s.discardHeld.rst = s.rst := rfl

@[simp] theorem State.setWindow_places (s : State) (k : Nat) (w : Option Window) : (s.setWindow k w).rst.places = s.rst.places := rfl

@[simp] theorem State.writeMeasured_places (s : State) (k : Nat) : (s.writeMeasured k).rst.places = s.rst.places := by
  unfold State.writeMeasured; dsimp only; split <;> rfl

@[simp] theorem State.writeWindows_places (s : State) : s.writeWindows.rst.places = s.rst.places :=
  foldl_keeps (g := fun u : State => u.rst.places) (fun u i => u.writeMeasured_places (i + 1)) _ s

@[simp] theorem State.emptyWindows_places (s : State) : s.emptyWindows.rst.places = s.rst.places :=
  foldl_keeps (g := fun u : State => u.rst.places) (fun u i => u.setWindow_places (i + 1) none) _ s

@[simp] theorem State.setPendingTarget_places (s : State) (t : Int) : (s.setPendingTarget t).rst.places = s.rst.places := rfl

@[simp] theorem State.setBothTargets_places (s : State) (t : Int) : (s.setBothTargets t).rst.places = s.rst.places := rfl

/-! #### Motion -/

@[simp] theorem State.closeCaptures_rst (s : State) : s.closeCaptures.rst = s.rst := rfl
@[simp] theorem State.idleCaptures_rst (s : State) : s.idleCaptures.rst = s.rst := rfl
@[simp] theorem State.armCaptures_rst (s : State) : s.armCaptures.rst = s.rst := rfl

@[simp] theorem State.enterFault_rst (s : State) (c : Cause) (x : Option SeatCheck) : (s.enterFault c x).rst = s.rst := by
  simp only [State.enterFault, State.attend_rst, State.onBtk_rst, State.onIxc_rst, State.withdrawWork_rst]
  split
  · rw [State.abortLearn_rst]; split <;> simp
  · split <;> simp

@[simp] theorem State.abortMotion_rst (s : State) (c : Cause) : (s.abortMotion c).rst = s.rst := by
  unfold State.abortMotion; split <;> simp

@[simp] theorem State.abortMoving_rst (s : State) (c : Cause) : (s.abortMoving c).rst = s.rst := by
  unfold State.abortMoving; split <;> simp

@[simp] theorem State.positionFaulted_rst (s : State) (k : Nat) : (s.positionFaulted k).rst = s.rst := s.abortMotion_rst _

@[simp] theorem State.checkEntry_rst (s : State) : s.checkEntry.rst = s.rst := by
  unfold State.checkEntry; split_ifs <;> simp

@[simp] theorem State.tightenReseat_rst (s : State) : s.tightenReseat.rst = s.rst := by
  unfold State.tightenReseat; split <;> [rfl; split] <;> rfl

@[simp] theorem State.counterChanged_rst (s : State) : s.counterChanged.rst = s.rst := by
  unfold State.counterChanged; dsimp only; split <;> simp

@[simp] theorem State.postMotion_rst (s : State) (x : MotionStep) : (s.postMotion x).rst = s.rst := by
  unfold State.postMotion; split <;> rfl

@[simp] theorem State.copyStaged_places (s : State) : s.copyStaged.rst.places = s.rst.places := rfl

@[simp] theorem State.setUpCaptures_rst (s : State) (k : MotionKind) (m : Mask) : (s.setUpCaptures k m).rst = s.rst := by
  cases k <;> rfl

@[simp] theorem State.beginMotion_places (s : State) (k : MotionKind) (m : Mask) :
    (s.beginMotion k m).rst.places = s.rst.places := by simp [State.beginMotion]

@[simp] theorem State.recordGate_rst (s : State) (g : Gate) : (s.recordGate g).rst = s.rst := rfl
@[simp] theorem State.startIndexTimer_rst (s : State) : s.startIndexTimer.rst = s.rst := rfl

@[simp] theorem State.testCollection_places (s : State) (g : Gate) : (s.testCollection g).rst.places = s.rst.places := by
  unfold State.testCollection State.completeCollection; split <;> simp

@[simp] theorem State.enterHalt_rst (s : State) : s.enterHalt.rst = s.rst := rfl
@[simp] theorem State.startHomeTimer_rst (s : State) : s.startHomeTimer.rst = s.rst := rfl

/-! #### Timers and overruns -/

@[simp] theorem State.raiseOverrun_rst (s : State) (k : Nat) : (s.raiseOverrun k).rst = s.rst := by
  unfold State.raiseOverrun; split <;> rfl

@[simp] theorem State.checkOverrun_rst (s : State) (k : Nat) : (s.checkOverrun k).rst = s.rst := by
  unfold State.checkOverrun; split <;> [split; skip] <;> simp

@[simp] theorem State.reformLimit_rst (s : State) (k : Nat) : (s.reformLimit k).rst = s.rst := by
  unfold State.reformLimit; split <;> simp

@[simp] theorem State.expireStart_rst (s : State) (k : Nat) : (s.expireStart k).rst = s.rst := rfl

@[simp] theorem State.expireLate_rst (s : State) (k : Nat) : (s.expireLate k).rst = s.rst := by
  unfold State.expireLate; split <;> [split; skip] <;> simp

@[simp] theorem State.reformLimits_rst (s : State) : s.reformLimits.rst = s.rst :=
  foldl_keeps (g := State.rst) State.reformLimit_rst _ s

@[simp] theorem State.directWritten_rst (s : State) : s.directWritten.rst = s.rst :=
  (foldl_keeps (g := State.rst) State.expireLate_rst _ s.reformLimits).trans s.reformLimits_rst

/-! ### The reading of cells: repairs take pallets away and place none -/

/-- An update of a position that names no new pallet. -/
theorem State.onPos_thins (s : State) (k : Nat) (f : Position → Position)
    (h : ∀ p, Occupant.number (f p).occupant = none ∨ (f p).occupant = p.occupant) : s.Thins (s.onPos k f) where
  entries := by simp
  positions j n e := by
    rw [State.palletAt_eq_some] at e ⊢
    by_cases c : j = k ∧ k < s.rst.positions.length
    · obtain ⟨rfl, c⟩ := c
      rw [s.pos_onPos_self f c] at e
      rcases h (s.pos j) with x | x
      · simp [e, Occupant.number] at x
      · rwa [x] at e
    · by_cases hj : j = k
      · have := State.palletAt_lt (((s.onPos k f).palletAt_eq_some j n).mpr e)
        simp at this; omega
      · rwa [s.pos_onPos_ne f hj] at e
  queue := .refl _
  numbers _ _ e := e

/-- An update of every position that names no new pallet. -/
theorem State.Thins.of_mapIdx {s t : State} (f : Nat → Position → Position)
    (hp : t.rst.positions = s.rst.positions.mapIdx f) (hq : t.rst.returnQueue = s.rst.returnQueue)
    (hn : t.rst.places.numbers = s.rst.places.numbers)
    (h : ∀ k p, Occupant.number (f k p).occupant = none ∨ (f k p).occupant = p.occupant) : s.Thins t where
  entries := by simp [hp]
  positions j n e := by
    have hj := State.palletAt_lt e
    rw [hp, List.length_mapIdx] at hj
    rw [State.palletAt_eq_some] at e ⊢
    have x : t.pos j = f j (s.pos j) := by rw [State.pos, hp]; exact getD_mapIdx _ _ _ _ _ hj
    rw [x] at e
    rcases h j (s.pos j) with y | y
    · simp [e, Occupant.number] at y
    · rwa [y] at e
  queue := by rw [hq]
  numbers i n e := by rwa [State.numberIn, hn] at e

@[simp] theorem State.noteCorrected_places (s : State) (c : Cell) : (s.noteCorrected c).rst.places = s.rst.places := rfl
@[simp] theorem State.noteDamaged_places (s : State) (c : Cell) : (s.noteDamaged c).rst.places = s.rst.places := rfl

@[simp] theorem State.configRepaired_rst (s : State) : s.configRepaired.rst = s.rst := by
  unfold State.configRepaired; split <;> simp

theorem State.repairBothGeometry_thins (s : State) (bad : List Cell) : s.Thins (s.repairBothGeometry bad) := by
  unfold State.repairBothGeometry
  split
  · exact .of_places rfl
  · refine State.Thins.trans (t := s.onRst fun r => { r with
      geometry := some (s.rebuiltGeometry bad), unconfirmed := true
      positions := r.positions.mapIdx fun k p => { p with kind := kindOf (some (s.rebuiltGeometry bad)) k }
      transfer := some (Transfer.rebuild (s.rebuiltGeometry bad) r.transfer) })
      (.of_mapIdx _ rfl rfl rfl fun _ _ => .inr rfl) (.of_places ?_)
    dsimp only
    rw [State.discardHeld_rst, State.emptyWindows_places]
    split <;> rfl

@[simp] theorem State.repairTransfer_places (s : State) (i : Nat) : (s.repairTransfer i).rst.places = s.rst.places := by
  unfold State.repairTransfer; split <;> rfl

@[simp] theorem State.repairConfig_places (s : State) (k : Nat) : (s.repairConfig k).rst.places = s.rst.places := by
  simp [State.repairConfig]

theorem State.repairTracking_thins (s : State) (bad : List Cell) (b : Bool) (k : Nat) : s.Thins (s.repairTracking bad b k) := by
  unfold State.repairTracking
  dsimp only
  split
  · exact .then_places (s.onPos_thins k _ fun _ => .inl rfl) (congrArg Rst.places (State.stopTimers_rst _ k))
  · have noted : ∀ t : State, s.Thins t → s.Thins (if bad.contains ⟨.orderDetail, k⟩ then t.onDetail k fun d => { d with closing := .noOrder }
        else if (s.pos k).phase.outstanding then t.onDetail k fun d => { d with closing := .withdrawn } else t) := fun t h =>
      h.then_places (by split_ifs <;> rfl)
    split
    · refine .then_places (noted _ (.then_places (s.onPos_thins k _ ?_) (congrArg Rst.places (State.stopTimers_rst _ k))))
        (congrArg Rst.places (State.positionFaulted_rst _ k))
      exact fun _ => .inl rfl
    · refine noted _ (.then_places (s.onPos_thins k _ ?_) (congrArg Rst.places (State.stopTimers_rst _ k)))
      exact fun _ => .inl rfl

@[simp] theorem State.repairDetail_places (s : State) (k : Nat) : (s.repairDetail k).rst.places = s.rst.places := rfl

/-- A position that has become UNKNOWN holds no pallet (R12). -/
theorem State.setOccupant_unknown_thins (s : State) (k : Nat) : s.Thins (s.setOccupant k .unknown) :=
  s.onPos_thins k _ fun _ => .inl rfl

/-- A slot that is emptied holds no number. -/
theorem State.clearSlot_thins (s : State) (i : Nat) : s.Thins (s.onRst fun r => { r with slots := r.slots.set i none }) where
  entries := rfl
  positions _ _ e := e
  queue := .refl _
  numbers j n e := by
    rw [State.numberIn_eq_some] at e ⊢
    obtain ⟨p, hp, rfl⟩ := e
    refine ⟨p, ?_, rfl⟩
    simp only [State.onRst_rst, List.getElem?_set] at hp
    split at hp
    · split at hp <;> simp at hp
    · exact hp

theorem State.freeSlot_thins (s : State) (i : Nat) : s.Thins (s.freeSlot i) := by
  unfold State.freeSlot
  split
  · exact .refl s
  · refine (s.clearSlot_thins i).trans (.foldl (fun u k => ?_) _ _)
    split
    · exact u.setOccupant_unknown_thins k
    · exact .refl u

theorem State.repairSlot_thins (s : State) (bad : List Cell) (i j : Nat) : s.Thins (s.repairSlot bad i j) := by
  unfold State.repairSlot
  dsimp only
  split <;> try split
  · exact s.freeSlot_thins i
  · exact .of_places (s.onSlot_places i _ fun _ => rfl)
  · exact .of_places (s.onSlot_places i _ fun _ => rfl)
  · exact .of_places (s.onSlot_places i _ fun _ => rfl)
  · exact .refl s
  · exact .of_places (s.onSlot_places i _ fun _ => rfl)
  · exact .of_places (s.onSlot_places i _ fun _ => rfl)

theorem dropPlaces_sublist {α : Type} (xs : List α) (gone : Nat → α → Bool) : (dropPlaces xs gone).Sublist xs := by
  have h := (List.filter_sublist (p := fun x : α × Nat => !gone x.2 x.1) (l := xs.zipIdx)).map Prod.fst
  rwa [List.zipIdx_map_fst] at h

/-- A return queue that loses places (R164). -/
theorem State.queue_thins (s : State) (f : List Nat → List Nat) (h : ∀ q, (f q).Sublist q) :
    s.Thins (s.onRst fun r => { r with returnQueue := f r.returnQueue }) :=
  ⟨rfl, fun _ _ e => e, h _, fun _ _ e => e⟩

theorem State.repairQueue_thins (s : State) (r : Rst) (bad : List Cell) : s.Thins (s.repairQueue r bad) :=
  s.queue_thins _ fun _ => dropPlaces_sublist _ _

@[simp] theorem State.repairSchedule_places (s : State) (bad : List Cell) : (s.repairSchedule bad).rst.places = s.rst.places := by
  simp only [State.repairSchedule, State.noteSchedule_rst]; rfl

@[simp] theorem State.repairLogPlace_places (s : State) (bad : List Cell) (p j : Nat) :
    (s.repairLogPlace bad p j).rst.places = s.rst.places := by
  unfold State.repairLogPlace
  dsimp only
  split_ifs <;> simp only [State.rewriteCells_places] <;> rfl

@[simp] theorem State.repairLogControl_places (s : State) (bad : List Cell) :
    (s.repairLogControl bad).rst.places = s.rst.places := rfl

@[simp] theorem State.repairRouting_places (s : State) (i : Nat) : (s.repairRouting i).rst.places = s.rst.places := rfl

@[simp] theorem State.repairBudget_places (s : State) (i : Nat) : (s.repairBudget i).rst.places = s.rst.places := by
  unfold State.repairBudget; dsimp only; split <;> simp [Rst.places]

theorem State.repairCell_thins (bad : List Cell) (b : Bool) (s : State) (c : Cell) : s.Thins (State.repairCell bad b s c) := by
  refine (State.Thins.of_places (s.noteDamaged_places c)).trans ?_
  unfold State.repairCell
  dsimp only
  cases c.region with
  | geometry =>
    dsimp only
    split
    · exact (State.repairBothGeometry_thins _ _).trans (.of_places (by rw [State.configRepaired_rst]))
    · exact .of_places (by rw [State.configRepaired_rst])
  | positionTracking => exact State.repairTracking_thins _ _ _ _
  | palletSlot => exact State.repairSlot_thins _ _ _ _
  | log => dsimp only; split <;> exact .of_places (by simp)
  | transfer | positionConfig | orderDetail | returnQueue | schedule | routing | budget | window => exact .of_places (by simp)

theorem State.afterRepairs_thins (s : State) (r : Rst) (bad : List Cell) : s.Thins (s.afterRepairs r bad) := by
  refine (s.repairQueue_thins r bad).trans (.of_places ?_)
  unfold State.afterRepairs
  dsimp only
  split <;> simp

/-- What a grant's reading of cells does to the places: repairs may take pallets from them (R12, R161, R162, R164). -/
theorem State.readCells_thins (s : State) (cells : List Cell) (b : Bool) : s.Thins (s.readCells cells b) := by
  unfold State.readCells
  split
  · exact .refl s
  · dsimp only
    refine State.Thins.trans ?_ ((State.Thins.foldl (State.repairCell_thins _ b) _ _).trans (State.afterRepairs_thins _ _ _))
    exact .of_places (foldl_keeps (g := fun u : State => u.rst.places) State.noteCorrected_places _ s)

theorem State.readStages_thins (s : State) (stages : List (State → List Cell)) (b : Bool) : s.Thins (s.readStages stages b) :=
  s.readCells_thins _ b

/-- The collection test of a grant places no pallet. -/
theorem State.collect_thins (s : State) (g : Gate) : s.Thins (s.collect g) := by
  unfold State.collect
  dsimp only
  split_ifs
  · exact ((s.readStages_thins _ _).trans (State.readCells_thins _ _ _)).trans (.of_places (State.testCollection_places _ g))
  · exact s.readStages_thins _ _
  · exact .refl s

/-! ### The operations that place a pallet, or give a slot a number -/

/-- A pallet that is no position's occupant by R22 stands at none. -/
theorem State.PalletsStandOnce.absent {s : State} (h : s.PalletsStandOnce) {n : Nat} (e : s.positionOf n = none) (i : Nat) :
    s.palletAt i ≠ some n := by
  intro c
  have hi : i < 16 := h.entries ▸ State.palletAt_lt c
  simpa [(s.palletAt_eq_some i n).mp c] using List.find?_eq_none.mp e i (List.mem_range.mpr hi)

/-- A pallet in location OUT stands neither at a position nor in the return queue (R22). -/
theorem State.out_of_location {s : State} {n : Nat} (h : s.location n = .out) : s.positionOf n = none ∧ n ∉ s.rst.returnQueue := by
  unfold State.location at h
  split at h
  · simp at h
  · next hp =>
    split at h
    · simp at h
    · next hq => exact ⟨hp, fun c => by simpa using List.findIdx?_eq_none_iff.mp hq n c⟩

/-- A position takes a pallet that stands nowhere else. -/
theorem State.PalletsStandOnce.setOccupant {s : State} (h : s.PalletsStandOnce) {k n : Nat}
    (free : ∀ i, s.palletAt i = some n → i = k) (out : n ∉ s.rst.returnQueue) : (s.setOccupant k (.pallet n)).PalletsStandOnce := by
  obtain ⟨entries, positions, queue, apart, numbers⟩ := s.palletsStandOnce_iff.mp h
  have at_k : ∀ i m, (s.setOccupant k (.pallet n)).palletAt i = some m → (i = k ∧ m = n) ∨ (i ≠ k ∧ s.palletAt i = some m) := by
    intro i m e
    have hi := State.palletAt_lt e
    rw [State.palletAt_eq_some] at e
    by_cases c : i = k
    · subst c
      rw [State.setOccupant, s.pos_onPos_self _ (by simpa [State.setOccupant] using hi)] at e
      exact .inl ⟨rfl, by simpa using e.symm⟩
    · rw [State.setOccupant, s.pos_onPos_ne _ c] at e
      exact .inr ⟨c, (s.palletAt_eq_some i m).mpr e⟩
  refine State.palletsStandOnce_iff _ |>.mpr ⟨by simpa [State.setOccupant] using entries, fun i j m hi hj => ?_, queue, fun i m hi => ?_, numbers⟩
  · rcases at_k i m hi with ⟨rfl, rfl⟩ | ⟨hk, a⟩ <;> rcases at_k j m hj with ⟨rfl, e⟩ | ⟨hk', b⟩
    · rfl
    · exact (free j b).symm
    · exact free i (e ▸ a)
    · exact positions i j m a b
  · rcases at_k i m hi with ⟨rfl, rfl⟩ | ⟨-, a⟩
    · exact out
    · exact apart i m a

/-- A pallet that stands nowhere joins the tail of the return queue (R95). -/
theorem State.PalletsStandOnce.append {s t : State} (h : s.PalletsStandOnce) {n : Nat} (away : ∀ i, s.palletAt i ≠ some n)
    (out : n ∉ s.rst.returnQueue) (e : t.rst.places = { s.rst.places with queue := s.rst.returnQueue ++ [n] }) :
    t.PalletsStandOnce := by
  obtain ⟨entries, positions, queue, apart, numbers⟩ := s.palletsStandOnce_iff.mp h
  have at_t : ∀ i, t.palletAt i = s.palletAt i := fun i => by simp only [State.palletAt_eq_places, e]
  have in_t : ∀ i, t.numberIn i = s.numberIn i := fun i => by simp only [State.numberIn, e]
  have q : t.rst.returnQueue = s.rst.returnQueue ++ [n] := congrArg Places.queue e
  have len : t.rst.positions.length = s.rst.positions.length := by simpa [Rst.places] using congrArg (·.occupants.length) e
  refine t.palletsStandOnce_iff.mpr ⟨len.trans entries, by simpa only [at_t] using positions, ?_, fun i m hi => ?_, by simpa only [in_t] using numbers⟩
  · rw [q]; exact List.nodup_append.mpr ⟨queue, List.nodup_singleton n, by rintro a ha _ hb rfl; exact out (List.mem_singleton.mp hb ▸ ha)⟩
  · rw [at_t] at hi
    rw [q, List.mem_append, List.mem_singleton]
    rintro (c | rfl)
    · exact apart i m hi c
    · exact away i hi

/-- The table holds no record of a number that no slot holds. -/
theorem State.numberIn_ne_of_pallet {s : State} {n : Nat} (h : s.pallet n = none) (i : Nat) : s.numberIn i ≠ some n := by
  intro c
  obtain ⟨p, hp, e⟩ := (s.numberIn_eq_some i n).mp c
  cases hf : s.rst.slots.find? fun o => o.any fun p => p.number == n with
  | none => simpa [e] using List.find?_eq_none.mp hf _ (List.mem_of_getElem? hp)
  | some o =>
    have ho := List.find?_some hf
    cases o with
    | none => simp at ho
    | some q => simp [State.pallet, hf] at h

/-- The record of a pallet carries its number. -/
theorem State.pallet_number {s : State} {n : Nat} {p : Pallet} (h : s.pallet n = some p) : p.number = n := by
  obtain ⟨o, ho, rfl⟩ : ∃ o, s.rst.slots.find? (fun o => o.any fun p => p.number == n) = some o ∧ o = some p := by
    simpa [State.pallet, Option.join_eq_some_iff] using h
  simpa using List.find?_some ho

/-- A slot takes a record whose number no slot holds (R34). -/
theorem State.PalletsStandOnce.register {s : State} (h : s.PalletsStandOnce) {p : Pallet} (new : s.pallet p.number = none) (i : Nat) :
    (s.onRst fun r => { r with slots := r.slots.set i (some p) }).PalletsStandOnce := by
  obtain ⟨entries, positions, queue, apart, numbers⟩ := s.palletsStandOnce_iff.mp h
  have in_t : ∀ j m, (s.onRst fun r => { r with slots := r.slots.set i (some p) }).numberIn j = some m →
      (j = i ∧ m = p.number) ∨ (j ≠ i ∧ s.numberIn j = some m) := by
    intro j m e
    obtain ⟨q, hq, e⟩ := (State.numberIn_eq_some _ j m).mp e
    subst e
    simp only [State.onRst_rst, List.getElem?_set] at hq
    split at hq
    · next c => split at hq <;> simp_all
    · next c => exact .inr ⟨Ne.symm c, (s.numberIn_eq_some j _).mpr ⟨q, hq, rfl⟩⟩
  refine State.palletsStandOnce_iff _ |>.mpr ⟨entries, positions, queue, apart, fun j l m hj hl => ?_⟩
  rcases in_t j m hj with ⟨rfl, e⟩ | ⟨-, a⟩ <;> rcases in_t l m hl with ⟨rfl, e'⟩ | ⟨-, b⟩
  · rfl
  · exact absurd (e ▸ b) (State.numberIn_ne_of_pallet new l)
  · exact absurd (e' ▸ a) (State.numberIn_ne_of_pallet new j)
  · exact numbers j l m a b

/-! ### The advance: the pallet that leaves position N−1 and the shift (R56, R57) -/

theorem State.count_of_geometry {s t : State} (h : t.rst.geometry = s.rst.geometry) : t.count = s.count := by
  simp only [State.count, h]

/-- What the pallet that leaves the line changes of the places: it may join the return queue. -/
theorem State.sendAway_places (s : State) :
    s.sendAway.rst.geometry = s.rst.geometry ∧ (s.sendAway.rst.places = s.rst.places ∨
      ∃ n, s.count ≠ 0 ∧ s.palletAt (s.count - 1) = some n ∧
        s.sendAway.rst.places = { s.rst.places with queue := s.rst.returnQueue ++ [n] }) := by
  unfold State.sendAway
  split
  · exact ⟨rfl, .inl rfl⟩
  · next p hp =>
    dsimp only
    obtain ⟨n, hn, hp⟩ := Option.bind_eq_some_iff.mp hp
    have hc : s.count ≠ 0 := fun c => by simp [c] at hn
    split
    · have e := s.onPallet_places p.number (fun q => { q with divert := false }) fun _ => rfl
      split
      · exact ⟨rfl, .inl e⟩
      · exact ⟨rfl, .inl e⟩
    · refine ⟨rfl, .inr ⟨n, hc, by simpa [hc] using hn, ?_⟩⟩
      rw [← s.pallet_number hp]; rfl

/-- The occupants after the shift (R57). -/
theorem State.palletAt_shift {s : State} {k n : Nat} (h : s.shift.palletAt k = some n) :
    (s.count ≤ k ∧ s.palletAt k = some n) ∨ (0 < k ∧ k < s.count ∧ s.palletAt (k - 1) = some n) := by
  have hk := State.palletAt_lt h
  rw [State.palletAt_eq_some] at h
  have e : s.shift.pos k = if s.count ≤ k then s.pos k else
      { s.pos k with occupant := if k = 0 then .empty else (s.pos (k - 1)).occupant } :=
    getD_mapIdx _ _ _ _ _ (by simpa [State.shift] using hk)
  rw [e] at h
  split at h
  · next c => exact .inl ⟨c, (s.palletAt_eq_some k n).mpr h⟩
  · next c =>
    have h0 : k ≠ 0 := fun z => by simp [z] at h
    exact .inr ⟨by omega, by omega, (s.palletAt_eq_some _ n).mpr (by simpa [h0] using h)⟩

/-- The advance keeps each pallet at one place: the one at N−1 has left it when the others move up. -/
theorem State.PalletsStandOnce.shift {s : State} (h : s.PalletsStandOnce) : s.sendAway.shift.PalletsStandOnce := by
  obtain ⟨entries, positions, queue, apart, numbers⟩ := s.palletsStandOnce_iff.mp h
  obtain ⟨geometry, away⟩ := s.sendAway_places
  have count : s.sendAway.count = s.count := State.count_of_geometry geometry
  have len : s.sendAway.rst.positions.length = s.rst.positions.length := by
    rcases away with e | ⟨_, _, _, e⟩ <;> simpa [Rst.places] using congrArg (·.occupants.length) e
  have occupants : ∀ k, s.sendAway.palletAt k = s.palletAt k := fun k => by
    rcases away with e | ⟨_, _, _, e⟩ <;> simp only [State.palletAt_eq_places, e]
  have number : ∀ i, s.sendAway.shift.numberIn i = s.numberIn i := fun i => by
    change s.sendAway.numberIn i = _
    rcases away with e | ⟨_, _, _, e⟩ <;> simp only [State.numberIn, e]
  have shifted : ∀ k n, s.sendAway.shift.palletAt k = some n →
      (s.count ≤ k ∧ s.palletAt k = some n) ∨ (0 < k ∧ k < s.count ∧ s.palletAt (k - 1) = some n) := fun k n e => by
    simpa only [count, occupants] using State.palletAt_shift e
  refine State.palletsStandOnce_iff _ |>.mpr ⟨by simpa [State.shift, len] using entries, fun i j n hi hj => ?_, ?_, fun i n hi => ?_,
    by simpa only [number] using numbers⟩
  · rcases shifted i n hi with ⟨a, x⟩ | ⟨a, b, x⟩ <;> rcases shifted j n hj with ⟨c, y⟩ | ⟨c, d, y⟩ <;>
      have := positions _ _ n x y <;> omega
  · change s.sendAway.rst.returnQueue.Nodup
    rcases away with e | ⟨m, _, hm, e⟩
    · rwa [show s.sendAway.rst.returnQueue = _ from congrArg Places.queue e]
    · rw [show s.sendAway.rst.returnQueue = _ from congrArg Places.queue e]
      exact List.nodup_append.mpr ⟨queue, List.nodup_singleton m, by rintro a ha _ hb rfl; exact apart _ m hm (List.mem_singleton.mp hb ▸ ha)⟩
  · change n ∉ s.sendAway.rst.returnQueue
    obtain ⟨j, hj, gone⟩ : ∃ j, s.palletAt j = some n ∧ (s.count ≠ 0 → j ≠ s.count - 1) := by
      rcases shifted i n hi with ⟨a, x⟩ | ⟨a, b, x⟩
      · exact ⟨i, x, by omega⟩
      · exact ⟨i - 1, x, by omega⟩
    rcases away with e | ⟨m, hc, hm, e⟩
    · rw [show s.sendAway.rst.returnQueue = _ from congrArg Places.queue e]; exact apart j n hj
    · rw [show s.sendAway.rst.returnQueue = _ from congrArg Places.queue e, List.mem_append, List.mem_singleton]
      rintro (c | rfl)
      · exact apart j n hj c
      · exact gone hc (positions j _ n hj hm)

/-! ### Grants and events keep the law where their operations do -/

theorem State.place_rst (s : State) (l : Link) (tag : Byte) (v : Except Reason Instr) : (s.place l tag v).1.rst = s.rst := by
  unfold State.place
  split_ifs
  · rfl
  · rfl
  · cases v <;> rfl

theorem State.offer_rst (s : State) (i : Instr) (p : Permit) (l : Link) (tag : Byte) : (s.offer i p l tag).1.rst = s.rst := by
  unfold State.offer; split <;> [rfl; exact s.place_rst _ _ _]

theorem State.closeGrant_rst (s : State) (l : Link) (tag : Byte) (r : State × Reply) :
    (State.closeGrant s l tag r).rst = r.1.rst := by
  unfold State.closeGrant; dsimp only; split <;> rfl

theorem State.PalletsStandOnce.of_rst {s t : State} (h : s.PalletsStandOnce) (e : t.rst = s.rst) : t.PalletsStandOnce :=
  h.of_places (by rw [e])

/-- A grant keeps the law where its operation does. -/
theorem State.PalletsStandOnce.grant {s t : State} {i : Instr} {p : Permit} {l : Link} {tag : Byte} {cells : List (State → List Cell)}
    {op : State → State × Reply} (h : s.PalletsStandOnce) (hop : ∀ u : State, u.PalletsStandOnce → (op u).1.PalletsStandOnce)
    (e : s.grant i p l tag cells op = .next t) : t.PalletsStandOnce := by
  unfold State.grant at e
  dsimp only at e
  split_ifs at e
  · exact Host.Outcome.next.inj e ▸ h
  · rw [← Host.Outcome.next.inj e, State.serve]
    refine .of_rst (hop _ ((State.readStages_thins _ _ _).keeps ?_)) (State.closeGrant_rst _ _ _ _)
    exact h.of_rst (s.offer_rst i p l tag)
  · exact Host.Outcome.next.inj e ▸ h.of_rst (s.offer_rst i p l tag)

/-- A grant whose operation places no pallet keeps the law. -/
theorem State.PalletsStandOnce.grant_of_thins {s t : State} {i : Instr} {p : Permit} {l : Link} {tag : Byte}
    {cells : List (State → List Cell)} {op : State → State × Reply} (h : s.PalletsStandOnce) (hop : ∀ u : State, u.Thins (op u).1)
    (e : s.grant i p l tag cells op = .next t) : t.PalletsStandOnce :=
  h.grant (fun u hu => (hop u).keeps hu) e

/-- An event keeps the law where its change does. -/
theorem State.PalletsStandOnce.event {s t : State} {f : State → State} (h : s.PalletsStandOnce)
    (hf : s.PalletsStandOnce → (f s).PalletsStandOnce) (e : s.event f = .next t) : t.PalletsStandOnce := by
  unfold State.event at e
  split at e
  · exact Host.Outcome.next.inj e ▸ h
  · exact Host.Outcome.next.inj e ▸ (hf h).of_rst (State.closeEvent_rst _ _)

/-- An event that leaves the places as they are keeps the law. -/
theorem State.PalletsStandOnce.event_of_places {s t : State} {f : State → State} (h : s.PalletsStandOnce)
    (hf : (f s).rst.places = s.rst.places) (e : s.event f = .next t) : t.PalletsStandOnce :=
  h.event (fun h => h.of_places hf) e

/-! ### Entries to COLLECT and the ends of motions -/

theorem State.enterCollect_thins (s : State) (test : State → State) (h : ∀ u : State, u.Thins (test u)) :
    s.Thins (s.enterCollect test) := by
  have home : (if s.pins.home then s.onIxc fun i => { i with state := .collect }
      else (s.onIxc fun i => { i with state := .collect }).startHomeTimer).rst = s.rst := by split <;> rfl
  unfold State.enterCollect
  dsimp only
  split
  · exact .of_places (by rw [State.enterFault_rst, home])
  · exact .after_places (h _) (congrArg Rst.places home)

theorem State.endMotion_thins (s : State) (test : State → State) (h : ∀ u : State, u.Thins (test u)) : s.Thins (s.endMotion test) := by
  unfold State.endMotion
  dsimp only
  split
  · exact .of_places rfl
  · exact .after_places (State.enterCollect_thins _ test h) rfl

theorem State.endSettle_thins (s : State) (test : State → State) (h : ∀ u : State, u.Thins (test u)) : s.Thins (s.endSettle test) := by
  unfold State.endSettle
  split
  · exact .refl s
  · next m _ =>
    split_ifs
    · exact .of_places (by simp)
    · exact .of_places (by simp)
    · unfold State.motionSucceeded
      cases m.kind with
      | back =>
        exact .after_places (State.endMotion_thins _ test h) rfl
      | index | learn | forward => exact .of_places rfl

/-! ### Requests of the stations -/

/-- An operation at a station keeps the law where it does at every position. -/
theorem State.PalletsStandOnce.atStation {s : State} (h : s.PalletsStandOnce) (l : Link) {op : Nat → State → State × Reply}
    (hop : ∀ k, (op k s).1.PalletsStandOnce) : (s.atStation l op).1.PalletsStandOnce := by
  unfold State.atStation; split <;> [exact h; exact hop _]

theorem State.atStation_thins (s : State) (l : Link) {op : Nat → State → State × Reply} (hop : ∀ k, s.Thins (op k s).1) :
    s.Thins (s.atStation l op).1 := by
  unfold State.atStation; split <;> [exact .refl s; exact hop _]

theorem State.joinOrder_places (s : State) (k : Nat) (t : SelfTest) : (s.joinOrder k t).rst.places = s.rst.places := by
  cases t <;> simp [State.joinOrder]

theorem State.joinStation_thins (s : State) (m : Mask) (t : Option SelfTest) (k : Nat) : s.Thins (s.joinStation m t k).1 := by
  unfold State.joinStation
  split <;> [exact .refl s; split] <;> [exact .refl s; skip]
  cases t with
  | none => exact .refl s
  | some t =>
    dsimp only
    split
    · exact .refl s
    · refine .after_places (State.collect_thins _ _) ?_
      rw [State.postOrder_rst]
      split <;> simp [State.joinOrder_places]

theorem State.leaveStation_thins (s : State) (k : Nat) : s.Thins (s.leaveStation k).1 := by
  unfold State.leaveStation; split <;> [exact .refl s; split] <;> [exact .refl s; exact .of_places (by simp [ok])]

theorem State.holdStation_thins (s : State) (k : Nat) : s.Thins (s.holdStation k).1 := by
  unfold State.holdStation
  split
  · exact .refl s
  · dsimp only [ok]; split <;> [exact .of_places (by simp); exact .refl s]

theorem State.unholdStation_thins (s : State) (k : Nat) : s.Thins (s.unholdStation k).1 := by
  unfold State.unholdStation
  split
  · exact .refl s
  · exact .after_places (State.collect_thins _ _) (by simp)

theorem State.startWork_places (s : State) (k : Nat) : (s.startWork k).rst.places = s.rst.places := by
  have clamp : ∀ t : State, (t.countClamp k).rst.places = t.rst.places := fun t => by
    unfold State.countClamp; split <;> [rfl; exact t.onPallet_places _ _ fun _ => rfl]
  unfold State.startWork
  dsimp only
  split <;> simp [clamp]

theorem State.startReport_thins (s : State) (o k : Nat) : s.Thins (s.startReport o k).1 := by
  unfold State.startReport
  split <;> [exact .refl s; split] <;> [exact .of_places (s.startWork_places k); exact .refl s]

theorem State.faultReport_thins (s : State) (c k : Nat) : s.Thins (s.faultReport c k).1 := by
  have fault : ∀ t : State, (t.faultPosition k c).rst.places = t.rst.places := fun t => by
    unfold State.faultPosition; split <;> simp
  unfold State.faultReport
  split
  · exact .refl s
  · split
    · exact .refl s
    · refine .of_places ?_
      dsimp only [ok]
      split <;> simp [fault]

theorem State.recoveredReport_thins (s : State) (k : Nat) : s.Thins (s.recoveredReport k).1 := by
  unfold State.recoveredReport
  split
  · exact .refl s
  · split
    · exact .after_places (State.collect_thins _ _) (by simp)
    · exact .refl s

theorem State.finishOrder_thins (s : State) (k : Nat) (r : Result) : s.Thins (s.finishOrder k r) :=
  .after_places (State.collect_thins _ _) (by simp)

theorem State.clearReport_thins (s : State) (o : Nat) (b : Bool) (r : Result) (fits : Nat → State → Bool)
    (op : Nat → State → State × Reply) (body : State → List Byte) (k : Nat) (h : s.Thins (op k s).1) :
    s.Thins (s.clearReport o b r fits op body k).1 := by
  unfold State.clearReport
  cases s.reportRefusal k o b with
  | some x => exact .refl s
  | none =>
    dsimp only
    cases (s.pos k).phase with
    | working => dsimp only; split <;> [exact h; exact .refl s]
    | done => dsimp only; split <;> exact .refl s
    | idle | ordered | fault => exact .refl s

theorem State.clearPlain_thins (s : State) (o : Nat) (r : Option PlainResult) (k : Nat) : s.Thins (s.clearPlain o r k).1 := by
  cases r with
  | none => exact s.clearReport_thins _ _ _ _ _ _ _ (.refl s)
  | some r =>
    refine s.clearReport_thins _ _ _ _ _ _ _ (.after_places (State.finishOrder_thins _ _ _) ?_)
    split <;> simp

theorem State.loadedResult_thins (s : State) (cs : List Byte) (k : Nat) : s.Thins (State.loadedResult cs k s).1 := by
  have create : ∀ n v, (s.createWorkpiece n v cs).rst.places = s.rst.places := fun n v => by
    have e := fun w : Workpiece => s.onPallet_places n (fun p => { p with workpiece := some w }) fun _ => rfl
    unfold State.createWorkpiece
    dsimp only
    split <;> simp [e]
  have decrement : ∀ (t : State) v, (t.decrementHead v).rst.places = t.rst.places := fun t v => by
    rw [State.decrementHead, State.noteSchedule_rst]; rfl
  unfold State.loadedResult
  split
  · split_ifs
    · exact .refl s
    · exact .refl s
    · exact .refl s
    · exact .after_places (State.finishOrder_thins _ _ _) (by rw [decrement, create])
  · exact .refl s

theorem State.readyResult_thins (s : State) (k : Nat) : s.Thins (State.readyResult k s).1 := by
  refine .after_places (State.finishOrder_thins _ _ _) ?_
  split <;> simp

theorem State.completeResult_thins (s : State) (x : LogLane) (r : Result) (k : Nat) : s.Thins (s.completeResult x r k).1 := by
  unfold State.completeResult
  split
  · exact .of_places rfl
  · refine .after_places (State.finishOrder_thins _ _ _) ?_
    split <;> simp

theorem State.unloadedResult_thins (s : State) (k : Nat) : s.Thins (State.unloadedResult k s).1 := by
  unfold State.unloadedResult; split <;> [exact .refl s; exact s.completeResult_thins _ _ k]

theorem State.stuckResult_thins (s : State) (k : Nat) : s.Thins (State.stuckResult k s).1 := by
  refine .after_places (State.finishOrder_thins _ _ _) ?_
  split
  · rfl
  · next n _ => simpa using s.onPallet_places n (fun p => { p with divert := true }) fun _ => rfl

theorem State.arriveNone_thins (s : State) (o k : Nat) : s.Thins (s.arriveNone o k).1 := by
  unfold State.arriveNone
  split
  · exact .refl s
  · split_ifs
    · exact .refl s
    · exact .refl s
    · exact .after_places (State.collect_thins _ _) (by simp)

/-- The pallet that arrives leaves its place in the return queue, which holds it no longer (R105). -/
theorem State.PalletsStandOnce.takeFromQueue {s : State} (h : s.PalletsStandOnce) (n : Nat) :
    (s.takeFromQueue n).PalletsStandOnce ∧ n ∉ (s.takeFromQueue n).rst.returnQueue ∧
      ∀ i, (s.takeFromQueue n).palletAt i = s.palletAt i := by
  unfold State.takeFromQueue
  cases hq : s.queuePlace n with
  | none => exact ⟨h, fun c => by simpa using List.findIdx?_eq_none_iff.mp hq n c, fun _ => rfl⟩
  | some i =>
    obtain ⟨hi, at_i, -⟩ := List.findIdx?_eq_some_iff_getElem.mp hq
    have e : s.rst.returnQueue[i] = n := by simpa using at_i
    have t : s.Thins (s.onRst fun r => { r with returnQueue := r.returnQueue.eraseIdx i }) :=
      s.queue_thins (·.eraseIdx i) fun q => q.eraseIdx_sublist i
    have gone : n ∉ s.rst.returnQueue.eraseIdx i := by
      rw [← h.queue.erase_getElem i hi, e]
      exact h.queue.not_mem_erase
    dsimp only
    split
    · exact ⟨t.keeps h, gone, fun _ => rfl⟩
    · exact ⟨(t.keeps h).of_rst rfl, gone, fun _ => rfl⟩

/-- An ARRIVED places its pallet at its position only where it stands at none, and takes it from the queue (R103, R105). -/
theorem State.PalletsStandOnce.arrive {s : State} (h : s.PalletsStandOnce) (o n k : Nat) : (s.arrive o n k).1.PalletsStandOnce := by
  unfold State.arrive
  split
  · exact h
  · split
    · exact h
    · split
      · exact h.of_places rfl
      · next p hp =>
        split
        · exact h
        · next away =>
          obtain ⟨taken, out, same⟩ := h.takeFromQueue p.number
          have free := h.absent (by simpa using away)
          have note : ∀ (t : State) i, (t.noteInstruction p.number i).rst = t.rst := fun t i => by
            unfold State.noteInstruction; split <;> rfl
          rw [← s.pallet_number hp] at free
          refine State.PalletsStandOnce.of_places (s := ((s.takeFromQueue p.number).noteInstruction p.number (s.loadDecision p)).setOccupant k
            (.pallet p.number)) (.setOccupant (taken.of_rst (note _ _)) ?_ (by rwa [note])) (by simp [State.acceptArrival, ok])
          intro i c
          rw [State.palletAt_eq_places, note, ← State.palletAt_eq_places, same] at c
          exact absurd c (free i)

/-! ### Requests of the drive -/

theorem State.joinDrive_thins (s : State) : s.Thins s.joinDrive.1 := by
  unfold State.joinDrive
  split <;> first
    | exact .refl s
    | exact .after_places (State.collect_thins _ _) rfl

theorem State.driveReport_thins (s : State) {op : State → State × Reply} (h : s.Thins (op s).1) :
    s.Thins (State.driveReport op s).1 := by
  unfold State.driveReport; split <;> [exact h; exact .refl s]

theorem State.lift_thins (s : State) : s.Thins s.lift.1 := by
  unfold State.lift; split <;> [exact .of_places (by simp [ok]); exact .refl s]

theorem State.endLowering_thins (s u : State) (b : Bool) (h : u.rst = s.rst) :
    s.Thins (if b then u.endSettle (·.collect .drive) else u) := by
  cases b with
  | false => exact .of_places (congrArg Rst.places h)
  | true => exact .after_places (u.endSettle_thins _ fun v => v.collect_thins .drive) (congrArg Rst.places h)

theorem State.lower_thins (s : State) : s.Thins s.lower.1 := by
  unfold State.lower
  split
  · refine s.endLowering_thins _ _ ?_
    rw [State.checkEntry_rst]
    split <;> rfl
  · exact .refl s

theorem State.faultDrive_thins (s : State) : s.Thins s.faultDrive.1 := .of_places (by simp [State.faultDrive, ok])

theorem State.recoverDrive_thins (s : State) : s.Thins s.recoverDrive.1 := .after_places (State.collect_thins _ _) rfl

/-! ### Requests of the supervisor -/

/-- SET GEOMETRY leaves no pallet at a position (R5). -/
theorem State.rebuild_thins (s : State) (g : Geometry) : s.Thins (s.onRst fun r =>
    { r with geometry := some g, unconfirmed := false, positions := r.positions.mapIdx fun k p => p.rebuild g k
             transfer := some (Transfer.rebuild g r.transfer) }) := by
  refine .of_mapIdx (fun k p => p.rebuild g k) rfl rfl rfl fun k p => .inl ?_
  unfold Position.rebuild
  dsimp only
  split <;> rfl

theorem State.writeGeometry_thins (s : State) (g : Geometry) : s.Thins (s.writeGeometry g) := by
  have cleared : (s.clearOrders.rewriteCells s.geometryWrites).rst.places = s.rst.places := by
    rw [State.rewriteCells_places, State.clearOrders_places]
  refine .then_places (.after_places (State.rebuild_thins _ g) cleared) ?_
  unfold State.writeGeometry
  rw [State.onBtk_rst, State.discardHeld_rst, State.emptyWindows_places]

theorem State.setGeometry_thins (s : State) (g : Option Geometry) : s.Thins (s.setGeometry g).1 := by
  unfold State.setGeometry
  split
  · exact .refl s
  · cases g <;> [exact .refl s; exact s.writeGeometry_thins _]

theorem State.setTransfer_thins (s : State) (xs : List (Nat × Int)) : s.Thins (s.setTransfer xs).1 := by
  unfold State.setTransfer
  split
  · split
    · exact .refl s
    · dsimp only [ok]
      split
      · exact .after_places (.of_places (congrArg Rst.places (State.directWritten_rst _))) rfl
      · exact .of_places rfl
  · exact .refl s

theorem State.enterBypass_places (s : State) (k : Nat) : (s.enterBypass k).rst.places = s.rst.places := by
  unfold State.enterBypass; dsimp only; split <;> simp

theorem State.leaveBypass_places (s : State) (k : Nat) : (s.leaveBypass k).rst.places = s.rst.places := by
  simp [State.leaveBypass]

theorem State.setMode_thins (s : State) (k : Nat) (m : Option Mode) : s.Thins (s.setMode k m).1 := by
  cases m with
  | none => exact .refl s
  | some m =>
    unfold State.setMode
    dsimp only
    split <;> [exact .refl s; split] <;> [exact .refl s; skip]
    cases m with
    | bypass => exact .after_places (State.collect_thins _ _) (s.enterBypass_places k)
    | active => exact .after_places (State.collect_thins _ _) (s.leaveBypass_places k)

/-- A SET OCCUPANT that is taken names no pallet, or one in location OUT, or the one that stands there (R16). -/
theorem State.occupantRefusal_none {s : State} {k n : Nat} (h : s.occupantRefusal k (.pallet n) = none) :
    s.location n = .out ∨ (s.pos k).occupant = .pallet n := by
  unfold State.occupantRefusal at h
  split_ifs at h with _ _ _ _ _ _ _ c
  by_contra x
  exact c (by simpa [Occupant.number] using x)

theorem State.PalletsStandOnce.nameOccupant {s : State} (h : s.PalletsStandOnce) (k : Nat) (o : Occupant) :
    (s.nameOccupant k o).1.PalletsStandOnce := by
  unfold State.nameOccupant
  split
  · exact h
  · next hr =>
    cases o with
    | unknown | empty => exact (s.onPos_thins k _ fun _ => .inl rfl).keeps h
    | pallet n =>
      rcases State.occupantRefusal_none hr with out | same
      · obtain ⟨away, out⟩ := State.out_of_location out
        exact h.setOccupant (fun i c => absurd c (h.absent away i)) out
      · have here := (s.palletAt_eq_some k n).mpr same
        exact h.setOccupant (fun i c => h.positions i k n c here) (h.apart k n here)

theorem State.surveyLine_thins (s : State) : s.Thins s.surveyLine.1 := by
  unfold State.surveyLine
  split <;> [exact .refl s; split] <;> [exact .refl s; skip]
  refine .of_mapIdx (fun k p => p.survey (s.surveyRow k)) rfl rfl rfl fun k p => ?_
  cases s.surveyRow k <;> first
    | exact .inl rfl
    | exact .inr rfl

/-- An operation on a registered pallet keeps the law where it does on its record. -/
theorem State.PalletsStandOnce.atPallet {s : State} (h : s.PalletsStandOnce) (n : Nat) {op : Pallet → State → State × Reply}
    (hop : ∀ p, (op p s).1.PalletsStandOnce) : (s.atPallet n op).1.PalletsStandOnce := by
  unfold State.atPallet
  split <;> [exact h; split] <;> [exact h; exact hop _]

theorem State.PalletsStandOnce.registerPallet {s : State} (h : s.PalletsStandOnce) (n : Nat) (m : Mask) :
    (s.registerPallet n m).1.PalletsStandOnce := by
  unfold State.registerPallet
  split_ifs with _ new
  · exact h
  · exact h
  · split
    · exact h
    · next i _ =>
      have new : s.pallet (Pallet.fresh n m).number = none := by simpa [Pallet.fresh] using new
      exact .of_places (h.register new i) rfl

theorem State.retirePallet_thins (s : State) (n : Nat) (p : Pallet) : s.Thins (State.retirePallet n p s).1 := by
  unfold State.retirePallet
  split
  · exact .refl s
  · refine ⟨rfl, fun _ _ e => e, .refl _, fun i m e => ?_⟩
    obtain ⟨q, hq, rfl⟩ := (State.numberIn_eq_some _ i m).mp e
    refine (s.numberIn_eq_some i _).mpr ⟨q, ?_, rfl⟩
    simp only [ok, State.onRst_rst, List.getElem?_map, Option.map_eq_some_iff] at hq
    obtain ⟨o, ho, e⟩ := hq
    split at e
    · simp at e
    · rwa [e] at ho

theorem State.markOut_places (s : State) (n : Nat) (p : Pallet) : (State.markOut n p s).1.rst.places = s.rst.places :=
  s.onPallet_places n (fun p => { p with divert := true }) fun _ => rfl

theorem State.resetClamps_thins (s : State) (n : Nat) (m : Option Mask) (p : Pallet) : s.Thins (State.resetClamps n m p s).1 := by
  unfold State.resetClamps
  split <;> [exact .refl s; exact .of_places (s.onPallet_places n _ fun _ => rfl)]

theorem State.setDisposition_thins (s : State) (n : Nat) (d : Disposition) (p : Pallet) :
    s.Thins (State.setDisposition n d p s).1 := by
  unfold State.setDisposition
  split <;> [exact .refl s; split] <;> [exact .refl s; exact .of_places (s.onWorkpiece_places n _)]

theorem State.runLine_thins (s : State) (m : Option RunMode) : s.Thins (s.runLine m).1 := by
  cases m with
  | none => exact .refl s
  | some m =>
    unfold State.runLine
    dsimp only
    split <;> try exact .refl s
    · split
      · exact .refl s
      · dsimp only [accepted]
        exact .after_places (State.enterCollect_thins _ _ fun u => u.collect_thins .supervisor) rfl
    · exact .after_places (State.collect_thins _ _) rfl

theorem State.haltLine_thins (s : State) : s.Thins s.haltLine.1 := by
  unfold State.haltLine; split <;> exact .of_places rfl

theorem State.indexLine_thins (s : State) : s.Thins s.indexLine.1 := by
  unfold State.indexLine; split <;> [exact .after_places (State.collect_thins _ _) rfl; exact .refl s]

theorem State.abortLine_thins (s : State) : s.Thins s.abortLine.1 := .of_places (by simp [State.abortLine, ok])

theorem State.clearFaultLine_thins (s : State) : s.Thins s.clearFaultLine.1 := by
  unfold State.clearFaultLine; split <;> exact .of_places rfl

theorem State.recover_places (s : State) (k : MotionKind) (m : Mask) : (s.recover k m).1.rst.places = s.rst.places := by
  simp [State.recover]

theorem State.recoverForwards_thins (s : State) : s.Thins s.recoverForwards.1 := by
  unfold State.recoverForwards
  split <;> [exact .refl s; split] <;> [exact .refl s; exact .of_places (State.recover_places _ _ _)]

theorem State.recoverBackwards_thins (s : State) : s.Thins s.recoverBackwards.1 := by
  unfold State.recoverBackwards; split <;> [exact .refl s; exact .of_places (State.recover_places _ _ _)]

theorem State.loseOccupant_thins (s : State) (k : Nat) : s.Thins (s.loseOccupant k) := by
  unfold State.loseOccupant
  split <;> [exact .refl s; split] <;> [exact .refl s; skip]
  exact .after_places (State.setOccupant_unknown_thins _ k) (s.onWorkpiece_places _ _)

theorem State.clearHolds_places (s : State) : s.clearHolds.rst.places = s.rst.places := by
  simp [State.clearHolds, Rst.places]

theorem State.lineResetAll_thins (s : State) : s.Thins s.lineResetAll := by
  have cleared : s.clearOrders.clearHolds.rst.places = s.rst.places := by rw [State.clearHolds_places, State.clearOrders_places]
  have lost : s.Thins (if s.ixc.motion.isSome then (List.range 16).foldl State.loseOccupant s.clearOrders.clearHolds
      else s.clearOrders.clearHolds) := by
    split
    · exact .after_places (.foldl State.loseOccupant_thins _ _) cleared
    · exact .of_places cleared
  exact lost.then_places rfl

theorem State.setRouting_thins (s : State) (v k g : Nat) : s.Thins (s.setRouting v k g).1 := by
  unfold State.setRouting; split <;> exact .of_places rfl

/-- INSERT RETURN queues a pallet in location OUT only (R95). -/
theorem State.PalletsStandOnce.insertReturn {s : State} (h : s.PalletsStandOnce) (n : Nat) (p : Pallet) :
    (State.insertReturn n p s).1.PalletsStandOnce := by
  unfold State.insertReturn
  split
  · exact h
  · next c =>
    obtain ⟨away, out⟩ := State.out_of_location (by simpa using c)
    exact h.append (h.absent away) out rfl

theorem State.withdrawReturn_thins (s : State) (n : Nat) (p : Pallet) : s.Thins (State.withdrawReturn n p s).1 := by
  unfold State.withdrawReturn
  split
  · exact s.queue_thins _ fun q => q.eraseIdx_sublist _
  · exact .refl s
  · exact .refl s

theorem State.appendSchedule_thins (s : State) (v q : Nat) : s.Thins (s.appendSchedule v q).1 := by
  unfold State.appendSchedule; split_ifs <;> exact .of_places rfl

theorem State.clearScheduleAll_thins (s : State) : s.Thins s.clearScheduleAll.1 :=
  .after_places (.of_places (congrArg Rst.places (State.noteSchedule_rst s (s.onRst fun r => { r with schedule := [] })))) rfl

theorem State.fetchCompletion_thins (s : State) : s.Thins s.fetchCompletion.1 := by
  unfold State.fetchCompletion; split <;> exact .of_places rfl

theorem State.setTarget_thins (s : State) (x : Int) : s.Thins (s.setTarget x).1 := by
  unfold State.setTarget; split <;> exact .of_places rfl

theorem State.armLearn_thins (s : State) : s.Thins s.armLearn.1 := by
  unfold State.armLearn; split <;> exact .of_places rfl

theorem State.acceptLearn_thins (s : State) : s.Thins s.acceptLearn.1 := by
  unfold State.acceptLearn
  split_ifs
  · exact .refl s
  · exact .refl s
  · exact .of_places (by simp [ok])

theorem State.discardLearn_thins (s : State) : s.Thins s.discardLearn.1 := by
  unfold State.discardLearn; split <;> exact .of_places rfl

theorem State.setBudget_thins (s : State) (k g b : Nat) : s.Thins (s.setBudget k g b).1 := by
  unfold State.setBudget
  split
  · exact .refl s
  · dsimp only [ok]
    split
    · exact .after_places (.of_places (congrArg Rst.places (State.reformLimit_rst _ k))) rfl
    · exact .of_places rfl

theorem State.acknowledge_thins (s : State) (m : Mask) : s.Thins (s.acknowledge m).1 := by
  unfold State.acknowledge; split <;> exact .of_places rfl

/-! ### Reads -/

theorem State.readAt_thins (s : State) (k : Option Nat) (b : State → List Byte) : s.Thins (s.readAt k b).1 := by
  unfold State.readAt; split <;> exact .refl s

theorem State.readPallets_thins (s : State) (n : Option Nat) : s.Thins (s.readPallets n).1 := by
  unfold State.readPallets
  split <;> [exact .refl s; split] <;> [exact .refl s; split] <;> exact .refl s

/-! ### Grants of the Index Controller, the scrubber and the links -/

theorem State.writeNoStart_places (s : State) (k : Nat) : (s.writeNoStart k).rst.places = s.rst.places := by
  unfold State.writeNoStart; split <;> simp

theorem State.issueNext_places (s : State) (k : Nat) : (s.issueNext k).rst.places = s.rst.places := by
  unfold State.issueNext; dsimp only; repeat' split
  all_goals simp

theorem State.passBypass_places (s : State) (k : Nat) : (s.passBypass k).rst.places = s.rst.places := by
  unfold State.passBypass; dsimp only; split <;> simp

theorem State.orderNext_places (s : State) (k : Nat) : (s.orderNext k).rst.places = s.rst.places := by
  unfold State.orderNext
  dsimp only
  split_ifs
  · rfl
  · rw [State.postOrder_rst, State.issueNext_places]
  · exact s.issueNext_places k
  · exact s.passBypass_places k

/-- The writes of the advance keep each pallet at one place (R56 to R58). -/
theorem State.PalletsStandOnce.advanceLine {s : State} (h : s.PalletsStandOnce) : s.advanceLine.PalletsStandOnce := by
  refine (State.endMotion_thins _ _ fun u => u.collect_thins .drive).keeps (h.shift.of_places ?_)
  rw [State.onCtm_rst]
  exact foldl_keeps (g := fun u : State => u.rst.places) State.orderNext_places _ _

theorem State.PalletsStandOnce.advanceGrant {s : State} (h : s.PalletsStandOnce) : s.advanceGrant.PalletsStandOnce := by
  have opened := (s.readStages_thins advanceOpening true).keeps h
  unfold State.advanceGrant
  dsimp only
  split
  · exact opened.of_rst (State.enterFault_rst _ _ _)
  · exact ((State.readStages_thins _ [State.advanceCells] true).keeps opened).advanceLine

theorem State.enterReseat_rst (s : State) (t : Int) : (s.enterReseat t).rst = s.rst := by simp [State.enterReseat]

theorem State.writeLearn_places (s : State) (o : LearnOutcome) : (s.writeLearn o).rst.places = s.rst.places := by
  unfold State.writeLearn
  cases o <;> simp [State.enterReseat_rst]

theorem State.learnGrant_thins (s : State) : s.Thins s.learnGrant := by
  unfold State.learnGrant
  dsimp only
  split
  · exact (s.readCells_thins _ _).then_places (State.writeLearn_places _ _)
  · exact s.readCells_thins _ _

theorem State.handleFrame_rst (s : State) (l : Link) (k t : Byte) (b : List Byte) (c : BitVec 16) : (s.handleFrame l k t b c).rst = s.rst := by
  unfold State.handleFrame
  dsimp only
  split <;> [rfl; exact State.place_rst _ _ _ _]

theorem State.takeCharacter_rst (s : State) (l : Link) (c : Option Byte) : (s.takeCharacter l c).rst = s.rst := by
  have taken : ∀ bs, (s.frameBytesTaken l bs).rst = s.rst := fun bs => by
    cases bs with
    | nil => rfl
    | cons n rest =>
      unfold State.frameBytesTaken
      dsimp only
      split_ifs
      · rfl
      · exact s.handleFrame_rst _ _ _ _ _
      · rfl
  unfold State.takeCharacter
  split
  · rfl
  · split <;> rfl
  · rfl
  · exact taken _

/-! ### Wired inputs -/

theorem State.homeRises_places (s : State) : s.homeRises.rst.places = s.rst.places := by
  have drift : ∀ (t : State) e, (t.checkHomeDrift e).rst = t.rst := fun t e => by unfold State.checkHomeDrift; split <;> rfl
  simp [State.homeRises, drift]

theorem State.ipEdge_rst (s : State) (k : Nat) (r : Bool) : (s.ipEdge k r).rst = s.rst := by
  unfold State.ipEdge State.entryEdge State.captureEntry
  dsimp only
  repeat' split
  all_goals rfl

theorem State.encoderChange_rst (s : State) (c : EncoderChange) : (s.encoderChange c).rst = s.rst := by
  unfold State.encoderChange State.countEdge State.saturate
  dsimp only
  repeat' split
  all_goals simp

theorem State.reset_standOnce : State.reset.PalletsStandOnce := by
  have empty : ∀ i n, State.reset.palletAt i ≠ some n := fun i n h => by
    rw [State.palletAt_eq_places, show State.reset.rst.places.occupants = List.replicate 16 .empty from rfl,
      List.getElem?_replicate] at h
    split at h <;> simp [Occupant.number] at h
  have unused : ∀ i n, State.reset.numberIn i ≠ some n := fun i n h => by
    rw [State.numberIn, show State.reset.rst.places.numbers = List.replicate 64 none from rfl, List.getElem?_replicate] at h
    split at h <;> simp at h
  exact State.reset.palletsStandOnce_iff.mpr ⟨rfl, fun i _ n h => absurd h (empty i n), List.nodup_nil,
    fun i n h => absurd h (empty i n), fun i _ n h => absurd h (unused i n)⟩

/-! ### Every command, and every step -/

/-- LINE STOP and the encoder are followed in reset too, and change no place. -/
theorem State.PalletsStandOnce.lineStop {s t : State} (h : s.PalletsStandOnce) :
    (execLineStopActive s = .next t → t.PalletsStandOnce) ∧ (execLineStopInactive s = .next t → t.PalletsStandOnce) := by
  constructor <;> intro e
  · unfold execLineStopActive at e
    dsimp only at e
    split_ifs at e <;> rw [← Host.Outcome.next.inj e]
    · exact h.of_rst rfl
    · exact h
    · exact h.of_rst (by simp)
  · unfold execLineStopInactive at e
    dsimp only at e
    split_ifs at e <;> rw [← Host.Outcome.next.inj e]
    · exact h.of_rst rfl
    · exact h.of_places (by simp)
    · exact h

theorem State.PalletsStandOnce.encoderEdge {s t : State} (h : s.PalletsStandOnce) (c : EncoderChange)
    (e : execEncoderEdge c s = .next t) : t.PalletsStandOnce := by
  unfold execEncoderEdge at e
  dsimp only at e
  split at e <;> rw [← Host.Outcome.next.inj e]
  · exact h.of_rst rfl
  · exact h.of_rst (by rw [State.closeEvent_rst, State.encoderChange_rst, State.onPins_rst])

theorem State.PalletsStandOnce.resetComplete {s t : State} (h : s.PalletsStandOnce)
    (e : execDeviceResetComplete s = .next t) : t.PalletsStandOnce := by
  unfold execDeviceResetComplete at e
  split at e <;> rw [← Host.Outcome.next.inj e]
  · exact State.reset_standOnce.of_rst rfl
  · exact h

/-- Every command keeps each pallet at one place. The commands that place one are ARRIVED, SET OCCUPANT, INSERT RETURN and the
advance; REGISTER PALLET gives a slot a new number; all others leave the places, or take pallets from them. -/
theorem State.PalletsStandOnce.of_exec {s t : State} (h : s.PalletsStandOnce) (c : Instr) (e : exec c s = .next t) :
    t.PalletsStandOnce := by
  cases c with
  -- wired lines and timers
  | deviceReset => exact Host.Outcome.next.inj e ▸ h.of_rst rfl
  | deviceResetComplete => exact h.resetComplete e
  | homeRising =>
    rw [exec, execHomeRising] at e
    exact h.event_of_places (by split <;> [rfl; exact s.homeRises_places]) e
  | homeFalling => exact h.event_of_places (by split <;> [(dsimp only; split <;> rfl); rfl]) e
  | inPositionEdge k a =>
    rw [exec, execInPositionEdge] at e
    exact h.event_of_places (by split <;> [rfl; exact congrArg Rst.places (State.ipEdge_rst (s.onPins fun p => p.setIp k.val a) k.val a)]) e
  | lineStopActive => exact h.lineStop.1 e
  | lineStopInactive => exact h.lineStop.2 e
  | encoderEdge c => exact h.encoderEdge c e
  | liftTimeout | carryTimeout | sweepTimeout | homeTimeout => exact h.event_of_places (by split <;> simp) e
  | settleEnd =>
    refine h.event (fun h => ?_) e
    split
    · exact (s.endSettle_thins _ fun u => .of_places (u.testCollection_places _)).keeps h
    · exact h
  | startTimeout k => exact h.event_of_places (by split <;> simp) e
  | overrun k =>
    rw [exec, execOverrun] at e
    exact h.event_of_places (by simp) e
  -- grants of the Index Controller and of the scrubber
  | startTimeoutWrite k =>
    refine h.event (fun h => ?_) e
    split
    · exact ((s.popWork.readStages_thins _ _).then_places (State.writeNoStart_places _ _)).keeps (h.of_rst rfl)
    · exact h
  | advance =>
    refine h.event (fun h => ?_) e
    split
    · exact (h.of_rst (t := s.popWork) rfl).advanceGrant
    · exact h
  | learnWrite =>
    refine h.event (fun h => ?_) e
    split
    · exact (s.popWork.learnGrant_thins).keeps (h.of_rst rfl)
    · exact h
  | scrubberRead us =>
    rw [exec, execScrubberRead] at e
    refine h.event (fun h => ?_) e
    have upset : (s.upset us).PalletsStandOnce := h.of_places rfl
    split
    · exact (((s.upset us).readCells_thins _ _).keeps upset).of_places rfl
    · exact upset
  -- link events
  | frameReceived l k tag b c =>
    rw [exec, execFrameReceived] at e
    exact h.event_of_places (congrArg Rst.places (s.handleFrame_rst l k tag b c)) e
  | receiveGapTimeout l => exact h.event_of_places (by split <;> rfl) e
  | frameSent l =>
    rw [exec, execFrameSent] at e
    exact h.event_of_places rfl e
  | characterReceived l c =>
    rw [exec, execCharacterReceived] at e
    exact h.event_of_places (congrArg Rst.places (s.takeCharacter_rst l c)) e
  -- reads
  | readPosition l tag k | readOrder l tag k | readBudget l tag k | readTiming l tag k =>
    exact h.grant_of_thins (fun u => u.readAt_thins _ _) e
  | readPallet l tag n => exact h.grant_of_thins (fun u => u.readPallets_thins _) e
  | readRouting l tag v k => exact h.grant_of_thins (fun u => by split <;> exact .refl u) e
  | readIndex l tag | readReturn l tag | readSchedule l tag | readCompletion l tag | readTarget l tag | readLearn l tag
  | readStore l tag | readStatus l tag | readLinks l tag => exact h.grant_of_thins (fun u => .refl u) e
  -- stations
  | join l tag m x => exact h.grant_of_thins (fun u => u.atStation_thins l (u.joinStation_thins m x)) e
  | leave l tag => exact h.grant_of_thins (fun u => u.atStation_thins l u.leaveStation_thins) e
  | hold l tag => exact h.grant_of_thins (fun u => u.atStation_thins l u.holdStation_thins) e
  | unhold l tag => exact h.grant_of_thins (fun u => u.atStation_thins l u.unholdStation_thins) e
  | start l tag o => exact h.grant_of_thins (fun u => u.atStation_thins l (u.startReport_thins o)) e
  | clear l tag o r => exact h.grant_of_thins (fun u => u.atStation_thins l (u.clearPlain_thins o r)) e
  | clearLoaded l tag o cs =>
    exact h.grant_of_thins (fun u => u.atStation_thins l fun k => u.clearReport_thins _ _ _ _ _ _ k (u.loadedResult_thins cs k)) e
  | clearReady l tag o =>
    exact h.grant_of_thins (fun u => u.atStation_thins l fun k => u.clearReport_thins _ _ _ _ _ _ k (u.readyResult_thins k)) e
  | clearEmpty l tag o | clearKept l tag o =>
    exact h.grant_of_thins (fun u => u.atStation_thins l fun k => u.clearReport_thins _ _ _ _ _ _ k (u.finishOrder_thins k _)) e
  | clearRemoved l tag o =>
    exact h.grant_of_thins (fun u => u.atStation_thins l fun k => u.clearReport_thins _ _ _ _ _ _ k (u.completeResult_thins _ _ k)) e
  | clearUnloaded l tag o =>
    exact h.grant_of_thins (fun u => u.atStation_thins l fun k => u.clearReport_thins _ _ _ _ _ _ k (u.unloadedResult_thins k)) e
  | clearStuck l tag o =>
    exact h.grant_of_thins (fun u => u.atStation_thins l fun k => u.clearReport_thins _ _ _ _ _ _ k (u.stuckResult_thins k)) e
  | stationFault l tag c => exact h.grant_of_thins (fun u => u.atStation_thins l (u.faultReport_thins c)) e
  | recovered l tag => exact h.grant_of_thins (fun u => u.atStation_thins l u.recoveredReport_thins) e
  | arrivedNoPallet l tag o => exact h.grant_of_thins (fun u => u.atStation_thins l (u.arriveNone_thins o)) e
  | arrived l tag o n =>
    refine h.grant (fun u hu => hu.atStation l fun k => ?_) e
    split
    · exact (u.arriveNone_thins o k).keeps hu
    · exact hu.arrive o n k
  -- the drive
  | driveJoin l tag => exact h.grant_of_thins (fun u => u.joinDrive_thins) e
  | lifted l tag => exact h.grant_of_thins (fun u => u.driveReport_thins u.lift_thins) e
  | lowered l tag => exact h.grant_of_thins (fun u => u.driveReport_thins u.lower_thins) e
  | driveFault l tag => exact h.grant_of_thins (fun u => u.driveReport_thins u.faultDrive_thins) e
  | driveRecovered l tag => exact h.grant_of_thins (fun u => u.driveReport_thins u.recoverDrive_thins) e
  -- the supervisor: line, occupants and pallets
  | setGeometry l tag n ks p q v => exact h.grant_of_thins (fun u => u.setGeometry_thins _) e
  | setTransfer l tag xs => exact h.grant_of_thins (fun u => u.setTransfer_thins xs) e
  | setMode l tag k m => exact h.grant_of_thins (fun u => u.setMode_thins k m) e
  | setOccupant l tag k o => exact h.grant (fun u hu => hu.nameOccupant k o) e
  | survey l tag => exact h.grant_of_thins (fun u => u.surveyLine_thins) e
  | registerPallet l tag n m => exact h.grant (fun u hu => hu.registerPallet n m) e
  | retirePallet l tag n => exact h.grant (fun u hu => hu.atPallet n fun p => (u.retirePallet_thins n p).keeps hu) e
  | markOut l tag n => exact h.grant (fun u hu => hu.atPallet n fun _ => hu.of_places (u.markOut_places n _)) e
  | resetClamps l tag n m => exact h.grant (fun u hu => hu.atPallet n fun p => (u.resetClamps_thins n m p).keeps hu) e
  | setDisposition l tag n d =>
    refine h.grant (fun u hu => ?_) e
    cases d with
    | none => exact hu
    | some d => exact hu.atPallet n fun p => (u.setDisposition_thins n d p).keeps hu
  -- the supervisor: running the line
  | run l tag m => exact h.grant_of_thins (fun u => u.runLine_thins m) e
  | halt l tag => exact h.grant_of_thins (fun u => u.haltLine_thins) e
  | index l tag => exact h.grant_of_thins (fun u => u.indexLine_thins) e
  | abort l tag => exact h.grant_of_thins (fun u => u.abortLine_thins) e
  | clearFault l tag => exact h.grant_of_thins (fun u => u.clearFaultLine_thins) e
  | recoverForward l tag => exact h.grant_of_thins (fun u => u.recoverForwards_thins) e
  | recoverBack l tag => exact h.grant_of_thins (fun u => u.recoverBackwards_thins) e
  | holdLine l tag => exact h.grant_of_thins (fun u => .of_places rfl) e
  | releaseLine l tag =>
    refine h.grant_of_thins (fun u => ?_) e
    exact .after_places (State.collect_thins (u.onIxc fun i => { i with lineHold := false }) .supervisor) rfl
  | lineReset l tag => exact h.grant_of_thins (fun u => u.lineResetAll_thins) e
  -- the supervisor: tables and lists
  | setRouting l tag v k g => exact h.grant_of_thins (fun u => u.setRouting_thins v k g) e
  | insertReturn l tag n => exact h.grant (fun u hu => hu.atPallet n (hu.insertReturn n)) e
  | withdrawReturn l tag n => exact h.grant (fun u hu => hu.atPallet n fun p => (u.withdrawReturn_thins n p).keeps hu) e
  | appendSchedule l tag v q => exact h.grant_of_thins (fun u => u.appendSchedule_thins v q) e
  | clearSchedule l tag => exact h.grant_of_thins (fun u => u.clearScheduleAll_thins) e
  | fetchCompletion l tag => exact h.grant_of_thins (fun u => u.fetchCompletion_thins) e
  | setTarget l tag x => exact h.grant_of_thins (fun u => u.setTarget_thins x) e
  | learn l tag => exact h.grant_of_thins (fun u => u.armLearn_thins) e
  | acceptLearn l tag => exact h.grant_of_thins (fun u => u.acceptLearn_thins) e
  | discardLearn l tag => exact h.grant_of_thins (fun u => u.discardLearn_thins) e
  | setBudget l tag k g b => exact h.grant_of_thins (fun u => u.setBudget_thins k g b) e
  | clearTiming l tag => exact h.grant_of_thins (fun u => .of_places rfl) e
  | acknowledge l tag m => exact h.grant_of_thins (fun u => u.acknowledge_thins m) e

/-- What the block does on its own moves no pallet. -/
theorem State.idle_rst (s : State) : s.idle.rst = s.rst := by
  unfold State.idle
  split <;> [rfl; split] <;> rfl

/-- Settles O9: every step keeps each pallet at one place. -/
theorem palletsStandAtOnePlace : Obligations.PalletsStandAtOnePlace := by
  intro s t h e
  unfold step at e
  split at e
  · exact Host.Outcome.next.inj e ▸ h.of_rst s.idle_rst
  · next c rest _ => exact (h.of_rst (t := { s with pending := rest }) rfl).of_exec c e

end Sys2Proof.Machine
end

section
/-! SUPPORT. The READ requests (O33). -/

namespace Sys2Proof.Machine

/-- A grant whose operation leaves the state gives its answer and nothing else. -/
theorem State.grant_answers {s : State} {i : Instr} {p : Permit} {l : Link} {tag : Byte} {cells : List (State → List Cell)}
    {op : State → State × Reply} {r : ResponseResult} {d : List Byte} (hr : s.Ready l) (hp : p.refusal l = none)
    (hop : op (s.granted i l) = (s.granted i l, { result := r, data := d })) :
    s.grant i p l tag cells op = .next (s.answered l tag r d) := by
  rw [s.grant_ready i p l tag cells op hr hp, hop, State.closeGrant_answer]

/-- A READ with an optional position: every position 0 to 15 is answered, a greater number refused. -/
theorem State.readAt_ok (s : State) (k : Option Nat) (body : State → List Byte) (h : ∀ x, k = some x → x ≤ 15) :
    s.readAt k body = ok s (body s) := by
  cases k with
  | none => rfl
  | some k => simp [State.readAt, h k rfl]

theorem State.readAt_refused (s : State) (k : Nat) (body : State → List Byte) (h : 15 < k) :
    s.readAt (some k) body = refuse s .range := by simp [State.readAt, h]

/-- The READ requests with an optional position, by the body each of them sends. -/
theorem State.grant_readAt {s : State} {l : Link} (tag : Byte) (hr : s.Ready l) (c : Option Nat → Instr)
    (cells : Option Nat → List (State → List Cell)) (body : State → Option Nat → List Byte)
    (hb : ∀ k, body (s.granted (c k) l) k = body s k)
    (e : ∀ k, exec (c k) s = s.grant (c k) .all l tag (cells k) fun s => s.readAt k fun s => body s k) :
    exec (c none) s = .next (s.answered l tag .ok (body s none)) ∧
      (∀ k, k ≤ 15 → exec (c (some k)) s = .next (s.answered l tag .ok (body s (some k)))) ∧
      ∀ k, 15 < k → exec (c (some k)) s = .next (s.answered l tag (.refused .range) []) := by
  refine ⟨?_, fun k hk => ?_, fun k hk => ?_⟩ <;> rw [e]
  · exact State.grant_answers hr rfl (by rw [State.readAt_ok _ _ _ (by simp), hb]; rfl)
  · exact State.grant_answers hr rfl (by rw [State.readAt_ok _ _ _ (by simpa using hk), hb]; rfl)
  · exact State.grant_answers hr rfl (State.readAt_refused _ k _ hk)

/-- A pallet number outside 1 to 255 is out of range. -/
theorem badNumber_iff (n : Nat) : badNumber n = true ↔ n = 0 ∨ 255 < n := by simp [badNumber]

theorem badNumber_of_range {n : Nat} (h1 : 1 ≤ n) (h2 : n ≤ 255) : badNumber n = false := by
  simp [badNumber]; omega

theorem State.readPallets_refused (s : State) {n : Nat} (h : n = 0 ∨ 255 < n) : s.readPallets (some n) = refuse s .range := by
  simp [State.readPallets, (badNumber_iff n).mpr h]

theorem State.readPallets_unknown (s : State) {n : Nat} (h1 : 1 ≤ n) (h2 : n ≤ 255) (h : s.pallet n = none) :
    s.readPallets (some n) = refuse s .unknownPallet := by
  simp [State.readPallets, badNumber_of_range h1 h2, h]

theorem State.readPallets_known (s : State) {n : Nat} {p : Pallet} (h1 : 1 ≤ n) (h2 : n ≤ 255) (h : s.pallet n = some p) :
    s.readPallets (some n) = ok s (s.palletBody p) := by
  simp [State.readPallets, badNumber_of_range h1 h2, h]

/-- Settles O33: a READ answers its data, or is refused for its argument. -/
theorem readsAnswerAndChangeNothingElse : Obligations.ReadsAnswerAndChangeNothingElse := by
  intro l tag s hr
  refine ⟨State.grant_readAt tag hr _ _ State.positionBody (fun _ => rfl) fun _ => rfl,
    State.grant_readAt tag hr _ _ State.orderBody (fun _ => rfl) fun _ => rfl,
    State.grant_readAt tag hr _ _ State.budgetBody (fun _ => rfl) fun _ => rfl,
    State.grant_readAt tag hr _ _ State.timingBody (fun _ => rfl) fun _ => rfl,
    State.grant_answers hr rfl rfl, fun n hn => ?_, fun n h1 h2 hn => ?_, fun n p h1 h2 hp => ?_, fun v k h => ?_, fun v k hv hk => ?_,
    State.grant_answers hr rfl rfl, State.grant_answers hr rfl rfl, State.grant_answers hr rfl rfl, State.grant_answers hr rfl rfl,
    State.grant_answers hr rfl rfl, State.grant_answers hr rfl rfl, State.grant_answers hr rfl rfl, State.grant_answers hr rfl rfl,
    State.grant_answers hr rfl rfl⟩
  · exact State.grant_answers hr rfl (State.readPallets_refused _ hn)
  · exact State.grant_answers hr rfl (State.readPallets_unknown _ h1 h2 hn)
  · exact State.grant_answers hr rfl (State.readPallets_known _ h1 h2 hp)
  · refine State.grant_answers hr rfl (if_pos ?_)
    obtain ⟨x, rfl, hx⟩ | ⟨x, rfl, hx⟩ := h <;> simp [hx]
  · refine State.grant_answers hr rfl (if_neg ?_)
    have hv : (v.any fun v => v == 0 || decide (8 < v)) = false := by
      cases v with
      | none => rfl
      | some x => have := hv x rfl; simp; omega
    have hk : k.any (15 < ·) = false := by
      cases k with
      | none => rfl
      | some x => have := hk x rfl; simp; omega
    simp [hv, hk]

end Sys2Proof.Machine
end

section
/-! SUPPORT. SET MODE, SET OCCUPANT and SURVEY (O53): the answer of a grant that changes the state, what the collection test and the
end of an order leave as it was, and the three requests. -/

namespace Sys2Proof.Machine

/-! ### What a grant that changes the state answers -/

@[simp] theorem State.granted_rst (s : State) (i : Instr) (l : Link) : (s.granted i l).rst = s.rst := rfl
@[simp] theorem State.granted_ixc (s : State) (i : Instr) (l : Link) : (s.granted i l).ixc = s.ixc := rfl
@[simp] theorem State.granted_ctm (s : State) (i : Instr) (l : Link) : (s.granted i l).ctm = s.ctm := rfl

theorem State.link_onLink_cases (s : State) (a b : Link) (f : LinkRecord → LinkRecord) :
    (s.onLink b f).link a = s.link a ∨ (s.onLink b f).link a = f (s.link a) := by
  by_cases h : a = b
  · subst h
    by_cases c : a.place < s.liu.links.length
    · exact .inr (getD_modify_self _ _ _ _ c)
    · exact .inl (by simp [State.link, State.onLink, State.onLiu, List.getD_eq_getElem?_getD, Nat.not_lt.mp c])
  · exact .inl (s.link_onLink_ne f h)

theorem State.LinksKept.refl (s : State) : s.LinksKept s := ⟨rfl, fun _ => ⟨rfl, rfl, rfl, rfl, rfl, rfl⟩⟩

theorem State.LinksKept.of_links {s t : State} (h : t.liu.links = s.liu.links) : s.LinksKept t := by
  have e : ∀ l, t.link l = s.link l := fun l => by rw [State.link, h]; rfl
  exact ⟨by rw [h], fun l => by simp [e]⟩

theorem State.LinksKept.trans {s t u : State} (a : s.LinksKept t) (b : t.LinksKept u) : s.LinksKept u :=
  ⟨b.length.trans a.length, fun l => by
    obtain ⟨a1, a2, a3, a4, a5, a6⟩ := a.kept l
    obtain ⟨b1, b2, b3, b4, b5, b6⟩ := b.kept l
    exact ⟨b1.trans a1, b2.trans a2, b3.trans a3, b4.trans a4, b5.trans a5, b6.trans a6⟩⟩

theorem State.LinksKept.post (s : State) (l : Link) (f : Unsolicited) : s.LinksKept (s.post l f) := by
  refine ⟨s.onLink_length l _, fun x => ?_⟩
  rcases s.link_onLink_cases x l fun r => { r with unsolicited := some f } with e | e <;> simp [State.post, e]

theorem State.LinksKept.postStatus (s : State) : s.LinksKept s.postStatus :=
  State.LinksKept.trans (t := s.onLiu fun u => { u with sequence := nextSequence u.sequence }) (.of_links rfl) (.post _ _ _)

/-- The end of a grant: the response, and possibly a STATUS frame; the blocks other than the LIU are as the operation left them. -/
theorem State.closeGrant_blocks (s u : State) (l : Link) (tag : Byte) (r : Reply) :
    (State.closeGrant s l tag (u, r)).rst = u.rst ∧ (State.closeGrant s l tag (u, r)).ixc = u.ixc ∧
    (State.closeGrant s l tag (u, r)).btk = u.btk ∧ (State.closeGrant s l tag (u, r)).wlu = u.wlu ∧
    (State.closeGrant s l tag (u, r)).ctm = u.ctm ∧ (State.closeGrant s l tag (u, r)).aar = u.aar ∧
    (State.closeGrant s l tag (u, r)).pins = u.pins ∧ (State.closeGrant s l tag (u, r)).pending = u.pending ∧
    (State.closeGrant s l tag (u, r)).liu.attentions = u.liu.attentions := by
  unfold State.closeGrant; dsimp only; split <;> exact ⟨rfl, rfl, rfl, rfl, rfl, rfl, rfl, rfl, rfl⟩

/-- A grant whose operation touches no link but their unsolicited slots gives its answer (R154, R155, R184). -/
theorem State.closeGrant_answered {s u : State} {i : Instr} {l : Link} {tag : Byte} {r : Reply} (h : s.liu.links.length = 18)
    (links : (s.granted i l).LinksKept u) (pointer : u.aar.pointer = l.next) (wires : u.pins = s.pins) (queue : u.pending = s.pending) :
    s.Answered (State.closeGrant s l tag (u, r)) l tag r.result r.data := by
  obtain ⟨-, -, -, -, -, aar, pins, pending, -⟩ := State.closeGrant_blocks s u l tag r
  have before : ∀ x, (s.granted i l).link x = if x = l then { s.link x with slot := some i } else s.link x := fun x => by
    split
    · next e => subst e; exact s.link_onLink_self x _ h
    · next e => exact s.link_onLink_ne _ e
  have closing : (u.onLink l fun x => { x with slot := none, responses := x.responses ++ [{ tag := tag, result := r.result, data := r.data }] }).LinksKept
      (State.closeGrant s l tag (u, r)) := by
    unfold State.closeGrant; dsimp only; split
    · exact .refl _
    · exact .postStatus _
  have here := u.link_onLink_self l (fun x => { x with slot := none, responses := x.responses ++ [{ tag := tag, result := r.result, data := r.data }] })
    (by rw [links.length]; simpa [State.granted] using h)
  have there := fun x (e : x ≠ l) => u.link_onLink_ne (a := x) (fun x => { x with slot := none, responses := x.responses ++ [{ tag := tag, result := r.result, data := r.data }] }) e
  constructor
  case response =>
    rw [(closing.kept l).2.2.1, here, (links.kept l).2.2.1, before]; simp
  case slot => rw [(closing.kept l).2.1, here]
  case pointer => rw [aar, pointer]
  case others =>
    intro x e
    rw [(closing.kept x).2.2.1, (closing.kept x).2.1, there x e, (links.kept x).2.2.1, (links.kept x).2.1, before]
    simp [e]
  case kept =>
    intro x
    obtain ⟨a1, -, -, a2, a3, a4⟩ := closing.kept x
    obtain ⟨b1, -, -, b2, b3, b4⟩ := links.kept x
    rw [a1, a2, a3, a4]
    by_cases e : x = l
    · subst e; rw [here]; simp [b1, b2, b3, b4, before]
    · rw [there x e, b1, b2, b3, b4, before]; simp [e]
  case wires => rw [pins, wires]
  case queue => rw [pending, queue]

/-- A grant whose operation writes the store and leaves the status content posts nothing. -/
theorem State.closeGrant_onRst {s : State} {f : Rst → Rst} (i : Instr) (l : Link) (tag : Byte) (r : ResponseResult) (d : List Byte)
    (same : (s.onRst f).statusContent = s.statusContent) :
    State.closeGrant s l tag ((s.granted i l).onRst f, { result := r, data := d }) = (s.onRst f).answered l tag r d := by
  refine Eq.trans (if_pos ?_) (congrArg (State.onRst · f) (State.granted_answer s i l _))
  have e : ((s.granted i l).onRst f).statusContent = s.statusContent := same
  simp [e]

/-! ### What the collection test leaves as it was -/

/-- A collection, and a fault on its entry, change of the store the transfer settings and the errors alone; the links keep all but
their unsolicited slots. -/
structure State.Collects (s t : State) : Prop where
  store : ∃ x e, t.rst = { s.rst with transfer := x, errors := e }
  work : t.ctm.work = s.ctm.work
  startTimers : t.ctm.startTimers = s.ctm.startTimers
  pointer : t.aar.pointer = s.aar.pointer
  wires : t.pins = s.pins
  queue : t.pending = s.pending
  links : s.LinksKept t

theorem State.Collects.refl (s : State) : s.Collects s := ⟨⟨_, _, rfl⟩, rfl, rfl, rfl, rfl, rfl, .refl s⟩

theorem State.Collects.trans {s t u : State} (a : s.Collects t) (b : t.Collects u) : s.Collects u := by
  obtain ⟨x, e, ha⟩ := a.store
  obtain ⟨y, f, hb⟩ := b.store
  exact ⟨⟨y, f, by rw [hb, ha]⟩, b.work.trans a.work, b.startTimers.trans a.startTimers, b.pointer.trans a.pointer,
    b.wires.trans a.wires, b.queue.trans a.queue, a.links.trans b.links⟩

theorem State.enterFault_collects (s : State) (c : Cause) (x : Option SeatCheck) : s.Collects (s.enterFault c x) := by
  unfold State.enterFault
  dsimp only
  split_ifs <;> exact ⟨⟨_, _, rfl⟩, rfl, rfl, rfl, rfl, rfl, .of_links rfl⟩

theorem State.checkEntry_collects (s : State) : s.Collects s.checkEntry := by
  unfold State.checkEntry
  split_ifs
  · exact .refl s
  · exact s.enterFault_collects _ _
  · exact s.enterFault_collects _ _
  · exact .refl s

theorem State.postMotion_collects (s : State) (x : MotionStep) : s.Collects (s.postMotion x) := by
  unfold State.postMotion
  split
  · exact .refl s
  · exact ⟨⟨_, _, rfl⟩, rfl, rfl, rfl, rfl, rfl, .post s _ _⟩

theorem State.beginMotion_collects (s : State) (k : MotionKind) (m : Mask) : s.Collects (s.beginMotion k m) := by
  refine .trans ?_ (State.postMotion_collects _ _)
  cases k <;> exact ⟨⟨_, _, rfl⟩, rfl, rfl, rfl, rfl, rfl, .of_links rfl⟩

theorem State.recordGate_collects (s : State) (g : Gate) : s.Collects (s.recordGate g) := by
  cases g <;> exact ⟨⟨_, _, rfl⟩, rfl, rfl, rfl, rfl, rfl, .of_links rfl⟩

theorem State.startIndexTimer_collects (s : State) : s.Collects s.startIndexTimer :=
  ⟨⟨_, _, rfl⟩, rfl, rfl, rfl, rfl, rfl, .of_links rfl⟩

theorem State.testCollection_collects (s : State) (g : Gate) : s.Collects (s.testCollection g) := by
  unfold State.testCollection
  split
  · refine .trans ?_ (State.checkEntry_collects _)
    refine .trans ?_ (State.startIndexTimer_collects _)
    refine .trans ?_ (State.recordGate_collects _ g)
    refine .trans ?_ (State.beginMotion_collects _ _ _)
    exact ⟨⟨_, _, rfl⟩, rfl, rfl, rfl, rfl, rfl, .of_links rfl⟩
  · exact .refl s

/-- The conditions of R46 look at the controller, the positions, the geometry and the wires. -/
theorem State.released_congr {s t : State} (ixc : t.ixc = s.ixc) (positions : ∀ k, t.pos k = s.pos k)
    (geometry : t.rst.geometry = s.rst.geometry) (wires : t.pins = s.pins) : t.Released ↔ s.Released := by
  have e : t.collected = s.collected := by simp only [State.collected, ixc, wires, positions, State.count_of_geometry geometry]
  rw [State.released_iff, State.released_iff, e]

/-! ### Pallet records after a result -/

/-- The record of a pallet after an update of pallet `m`'s. -/
theorem State.pallet_onPallet (s : State) (m : Nat) (f : Pallet → Pallet) (h : ∀ p, (f p).number = p.number) (n : Nat) :
    (s.onPallet m f).pallet n = if n = m then (s.pallet n).map f else s.pallet n := by
  have e : (fun o : Option Pallet => o.any fun p => p.number == n) ∘ (fun o : Option Pallet => o.map fun p => if p.number = m then f p else p) =
      fun o => o.any fun p => p.number == n := by
    funext o
    cases o with
    | none => rfl
    | some p => by_cases c : p.number = m <;> simp [c, h]
  simp only [State.pallet, State.onPallet, State.onRst_rst, List.find?_map, e]
  cases hf : s.rst.slots.find? fun o => o.any fun p => p.number == n with
  | none => simp
  | some o =>
    cases o with
    | none => simp
    | some p =>
      have hn : p.number = n := by simpa using List.find?_some hf
      by_cases c : n = m <;> simp [hn, c]

theorem State.pallet_recordResult (s : State) (k g : Nat) (r : HistoryResult) (w : Option Nat) (n : Nat) :
    (s.recordResult k g r w).pallet n =
      if s.palletAt k = some n then (s.pallet n).map fun p => { p with workpiece := p.workpiece.map fun x => x.record k g r w }
      else s.pallet n := by
  unfold State.recordResult
  cases s.palletAt k with
  | none => simp
  | some m =>
    simp only [State.onWorkpiece, Option.some.injEq, eq_comm (a := m)]
    exact s.pallet_onPallet m (fun p => { p with workpiece := p.workpiece.map fun x => x.record k g r w }) (fun _ => rfl) n

theorem OrderKind.recorded_iff (o : OrderKind) : o.recorded = true ↔ o = .process ∨ o = .check := by cases o <;> simp [OrderKind.recorded]

/-- A WITHDRAWN order leaves no result (R88). -/
theorem State.pallet_cancel_withdrawn (s : State) (k n : Nat) : (s.cancelOrder k .withdrawn).pallet n = s.pallet n := rfl

/-- The records after the cancellation of an outstanding order (R88). -/
theorem State.pallet_cancelOutstanding (s : State) (k n : Nat) : (s.cancelOutstanding k).pallet n = s.afterCancel k n := by
  have cancel : ∀ (c : Cancellation) (r : HistoryResult), c.result = some r → (s.cancelOrder k c).pallet n =
      if s.palletAt k = some n ∧ ((s.pos k).orderKind = .process ∨ (s.pos k).orderKind = .check) then
        (s.pallet n).map fun p => { p with workpiece := p.workpiece.map fun w => w.record k ((s.pos k).program.getD 0) r none }
      else s.pallet n := by
    intro c r hc
    have e : (s.cancelOrder k c).pallet n =
        (if (s.pos k).orderKind.recorded then s.recordResult k ((s.pos k).program.getD 0) r none else s).pallet n := by
      simp only [State.cancelOrder, hc]; rfl
    simp only [e, ← OrderKind.recorded_iff]
    by_cases x : (s.pos k).orderKind.recorded = true
    · simp [x, State.pallet_recordResult]
    · simp [x]
  unfold State.cancelOutstanding State.afterCancel
  cases (s.pos k).phase with
  | ordered => exact cancel .missed .missed rfl
  | working => exact cancel .abandoned .abandoned rfl
  | idle | done | fault => simp

/-! ### What an order's end leaves as it was -/

/-- Of the store only positions, order details and pallet records may differ, and beside the store only timers of the CTM. -/
structure State.OrdersOnly (s t : State) : Prop where
  store : ∃ m ps ds, t.rst = { s.rst with slots := m, positions := ps, details := ds }
  positions : t.rst.positions.length = s.rst.positions.length
  details : t.rst.details.length = s.rst.details.length
  startTimers : t.ctm.startTimers.length = s.ctm.startTimers.length
  work : t.ctm.work.length = s.ctm.work.length
  ixc : t.ixc = s.ixc
  btk : t.btk = s.btk
  wlu : t.wlu = s.wlu
  aar : t.aar = s.aar
  liu : t.liu = s.liu
  pins : t.pins = s.pins
  pending : t.pending = s.pending

theorem State.OrdersOnly.refl (s : State) : s.OrdersOnly s :=
  ⟨⟨_, _, _, rfl⟩, rfl, rfl, rfl, rfl, rfl, rfl, rfl, rfl, rfl, rfl, rfl⟩

theorem State.OrdersOnly.trans {s t u : State} (a : s.OrdersOnly t) (b : t.OrdersOnly u) : s.OrdersOnly u := by
  obtain ⟨m, ps, ds, ha⟩ := a.store
  obtain ⟨m', ps', ds', hb⟩ := b.store
  exact ⟨⟨m', ps', ds', by rw [hb, ha]⟩, b.positions.trans a.positions, b.details.trans a.details,
    b.startTimers.trans a.startTimers, b.work.trans a.work, b.ixc.trans a.ixc, b.btk.trans a.btk, b.wlu.trans a.wlu,
    b.aar.trans a.aar, b.liu.trans a.liu, b.pins.trans a.pins, b.pending.trans a.pending⟩

theorem State.onPos_orders (s : State) (k : Nat) (f : Position → Position) : s.OrdersOnly (s.onPos k f) :=
  ⟨⟨_, _, _, rfl⟩, s.onPos_length k f, rfl, rfl, rfl, rfl, rfl, rfl, rfl, rfl, rfl, rfl⟩

theorem State.onDetail_orders (s : State) (k : Nat) (f : OrderDetail → OrderDetail) : s.OrdersOnly (s.onDetail k f) :=
  ⟨⟨_, _, _, rfl⟩, rfl, s.onDetail_length k f, rfl, rfl, rfl, rfl, rfl, rfl, rfl, rfl, rfl⟩

theorem State.stopTimers_orders (s : State) (k : Nat) : s.OrdersOnly (s.stopTimers k) :=
  ⟨⟨_, _, _, rfl⟩, rfl, rfl, by simp [State.stopTimers, State.setStartTimer, State.onWork],
    by simp [State.stopTimers, State.setStartTimer, State.onWork], rfl, rfl, rfl, rfl, rfl, rfl, rfl⟩

theorem State.recordResult_orders (s : State) (k g : Nat) (r : HistoryResult) (w : Option Nat) :
    s.OrdersOnly (s.recordResult k g r w) := by
  unfold State.recordResult
  split <;> exact ⟨⟨_, _, _, rfl⟩, rfl, rfl, rfl, rfl, rfl, rfl, rfl, rfl, rfl, rfl, rfl⟩

/-- The state in which a cancelled order's result has been recorded (R88): `cancelOrder` then writes closing and stops the
timers. -/
def State.closeHistory (s : State) (k : Nat) (c : Cancellation) : State :=
  match c.result with
  | none => s
  | some r => if (s.pos k).orderKind.recorded then s.recordResult k ((s.pos k).program.getD 0) r none else s

theorem State.cancelOrder_eq (s : State) (k : Nat) (c : Cancellation) :
    s.cancelOrder k c = ((s.closeHistory k c).onDetail k fun d => { d with closing := c.closing }).stopTimers k := rfl

theorem State.closeHistory_orders (s : State) (k : Nat) (c : Cancellation) : s.OrdersOnly (s.closeHistory k c) := by
  unfold State.closeHistory
  cases c.result with
  | none => exact .refl s
  | some r => dsimp only; split <;> [exact s.recordResult_orders _ _ _ _; exact .refl s]

theorem State.cancelOrder_orders (s : State) (k : Nat) (c : Cancellation) : s.OrdersOnly (s.cancelOrder k c) :=
  (s.closeHistory_orders k c).trans ((State.onDetail_orders _ k _).trans (State.stopTimers_orders _ k))

theorem State.cancelOutstanding_orders (s : State) (k : Nat) : s.OrdersOnly (s.cancelOutstanding k) := by
  unfold State.cancelOutstanding
  cases (s.pos k).phase with
  | ordered | working => exact s.cancelOrder_orders k _
  | idle | done | fault => exact .refl s

theorem State.writeOrder_orders (s : State) (k n : Nat) (o : OrderKind) (g : Option Nat) (i : Option Instruction) :
    s.OrdersOnly (s.writeOrder k n o g i) := (s.onPos_orders k _).trans (State.onDetail_orders _ k _)

/-! ### Positions other than the one that is written -/

theorem State.SameElsewhere.refl (s : State) (k : Nat) : s.SameElsewhere s k := fun _ _ => ⟨rfl, rfl, rfl, rfl⟩

theorem State.SameElsewhere.trans {s t u : State} {k : Nat} (a : s.SameElsewhere t k) (b : t.SameElsewhere u k) :
    s.SameElsewhere u k := fun j hj => by
  obtain ⟨a1, a2, a3, a4⟩ := a j hj
  obtain ⟨b1, b2, b3, b4⟩ := b j hj
  exact ⟨b1.trans a1, b2.trans a2, b3.trans a3, b4.trans a4⟩

theorem State.onPos_elsewhere (s : State) (k : Nat) (f : Position → Position) : s.SameElsewhere (s.onPos k f) k := fun _ hj =>
  ⟨s.pos_onPos_ne f hj, rfl, rfl, rfl⟩

theorem State.onDetail_elsewhere (s : State) (k : Nat) (f : OrderDetail → OrderDetail) : s.SameElsewhere (s.onDetail k f) k :=
  fun _ hj => ⟨rfl, s.detail_onDetail_ne f hj, rfl, rfl⟩

theorem State.stopTimers_elsewhere (s : State) (k : Nat) : s.SameElsewhere (s.stopTimers k) k := fun _ hj =>
  ⟨rfl, rfl, State.work_onWork_ne (s.setStartTimer k none) _ hj, s.startTimer_set_ne none hj⟩

/-- A result changes no position, no order detail and no timer. -/
theorem State.recordResult_same (s : State) (k g : Nat) (r : HistoryResult) (w : Option Nat) (j : Nat) :
    (s.recordResult k g r w).pos j = s.pos j ∧ (s.recordResult k g r w).detail j = s.detail j ∧
      (s.recordResult k g r w).ctm = s.ctm := by
  unfold State.recordResult
  split <;> exact ⟨rfl, rfl, rfl⟩

theorem State.closeHistory_same (s : State) (k : Nat) (c : Cancellation) (j : Nat) :
    (s.closeHistory k c).pos j = s.pos j ∧ (s.closeHistory k c).detail j = s.detail j ∧ (s.closeHistory k c).ctm = s.ctm := by
  unfold State.closeHistory
  cases c.result with
  | none => exact ⟨rfl, rfl, rfl⟩
  | some r => dsimp only; split <;> [exact s.recordResult_same _ _ _ _ _; exact ⟨rfl, rfl, rfl⟩]

/-- A cancellation leaves every position's entry: the phase is the caller's (R88). -/
theorem State.cancelOrder_pos (s : State) (k : Nat) (c : Cancellation) (j : Nat) : (s.cancelOrder k c).pos j = s.pos j :=
  (s.closeHistory_same k c j).1

theorem State.cancelOrder_detail (s : State) {k : Nat} (c : Cancellation) (h : k < s.rst.details.length) :
    (s.cancelOrder k c).detail k = { s.detail k with closing := c.closing } := by
  have e := (s.closeHistory k c).detail_onDetail_self (fun d => { d with closing := c.closing })
    (by rwa [(s.closeHistory_orders k c).details])
  rw [(s.closeHistory_same k c k).2.1] at e
  exact e

theorem State.cancelOrder_elsewhere (s : State) (k : Nat) (c : Cancellation) : s.SameElsewhere (s.cancelOrder k c) k := by
  have h : s.SameElsewhere (s.closeHistory k c) k := fun j _ => by
    obtain ⟨a, b, e⟩ := s.closeHistory_same k c j
    exact ⟨a, b, by rw [State.work, e]; rfl, by rw [State.startTimer, e]; rfl⟩
  exact h.trans ((State.onDetail_elsewhere _ k _).trans (State.stopTimers_elsewhere _ k))

/-- Both timers of a position are stopped. -/
theorem State.stopTimers_timers (s : State) {k : Nat} (h : k < s.ctm.startTimers.length) (hw : k < s.ctm.work.length) :
    (s.stopTimers k).startTimer k = none ∧ (s.stopTimers k).work k = { s.work k with running := none, limit := none } :=
  ⟨s.startTimer_set_self none h, (s.setStartTimer k none).work_onWork_self _ hw⟩

theorem State.cancelOrder_timers (s : State) {k : Nat} (c : Cancellation) (h : k < s.ctm.startTimers.length)
    (hw : k < s.ctm.work.length) :
    (s.cancelOrder k c).startTimer k = none ∧ ((s.cancelOrder k c).work k).running = none := by
  have e : ((s.closeHistory k c).onDetail k fun d => { d with closing := c.closing }).ctm = s.ctm := (s.closeHistory_same k c k).2.2
  obtain ⟨a, b⟩ := State.stopTimers_timers ((s.closeHistory k c).onDetail k fun d => { d with closing := c.closing }) (k := k)
    (by rwa [e]) (by rwa [e])
  exact ⟨a, congrArg WorkTimer.running b⟩

theorem State.cancelOutstanding_pos (s : State) (k j : Nat) : (s.cancelOutstanding k).pos j = s.pos j := by
  unfold State.cancelOutstanding
  cases (s.pos k).phase with
  | ordered | working => exact s.cancelOrder_pos k _ j
  | idle | done | fault => rfl

theorem State.cancelOutstanding_elsewhere (s : State) (k : Nat) : s.SameElsewhere (s.cancelOutstanding k) k := by
  unfold State.cancelOutstanding
  cases (s.pos k).phase with
  | ordered | working => exact s.cancelOrder_elsewhere k _
  | idle | done | fault => exact .refl s k

theorem State.writeOrder_elsewhere (s : State) (k n : Nat) (o : OrderKind) (g : Option Nat) (i : Option Instruction) :
    s.SameElsewhere (s.writeOrder k n o g i) k := (s.onPos_elsewhere k _).trans (State.onDetail_elsewhere _ k _)

/-- An order that is written: the entry and the order copy (R75). -/
theorem State.writeOrder_at (s : State) {k : Nat} (n : Nat) (o : OrderKind) (g : Option Nat) (i : Option Instruction)
    (h : k < s.rst.positions.length) (hd : k < s.rst.details.length) :
    (s.writeOrder k n o g i).pos k = { s.pos k with orderNumber := n, orderKind := o, program := g, instruction := i } ∧
      (s.writeOrder k n o g i).detail k = { s.detail k with copyNumber := n, copyKind := o } :=
  ⟨s.pos_onPos_self _ h, State.detail_onDetail_self (s.onPos k _) _ hd⟩

/-! ### SET MODE (R14, R15, R90) -/

/-- A position with the mode and the empty order that a SET MODE leaves (R15, R90). -/
def Position.withMode (p : Position) (m : Mode) : Position :=
  { p with mode := m, phase := .idle, faultCode := none, orderKind := .noOrder, program := none, instruction := none
           hold := if m = .bypass then false else p.hold }

/-- What has become of the order of a position whose mode is changed (R15, R90). -/
def Closing.withMode (c : Closing) : Mode → Phase → Closing
  | .active, _ => .noOrder
  | .bypass, .ordered => .withdrawn
  | .bypass, .working => .abandoned
  | .bypass, .idle | .bypass, .done | .bypass, .fault => c

/-- The change of mode of a taken SET MODE. -/
def State.changeMode (s : State) (k : Nat) (m : Mode) : State := match m with | .bypass => s.enterBypass k | .active => s.leaveBypass k

/-- The order of a position that enters BYPASS is ended before the entry is written (R90). -/
def State.endForBypass (s : State) (k : Nat) : State :=
  match (s.pos k).phase with
  | .ordered => s.cancelOrder k .withdrawn
  | .working => s.cancelOrder k .abandoned
  | .idle | .done | .fault => s

theorem State.endForBypass_orders (s : State) (k : Nat) : s.OrdersOnly (s.endForBypass k) := by
  unfold State.endForBypass
  cases (s.pos k).phase with
  | ordered | working => exact s.cancelOrder_orders k _
  | idle | done | fault => exact .refl s

theorem State.endForBypass_elsewhere (s : State) (k : Nat) : s.SameElsewhere (s.endForBypass k) k := by
  unfold State.endForBypass
  cases (s.pos k).phase with
  | ordered | working => exact s.cancelOrder_elsewhere k _
  | idle | done | fault => exact .refl s k

theorem State.endForBypass_pos (s : State) (k j : Nat) : (s.endForBypass k).pos j = s.pos j := by
  unfold State.endForBypass
  cases (s.pos k).phase with
  | ordered | working => exact s.cancelOrder_pos k _ j
  | idle | done | fault => rfl

theorem State.endForBypass_detail (s : State) {k : Nat} (h : k < s.rst.details.length) :
    (s.endForBypass k).detail k = { s.detail k with closing := (s.detail k).closing.withMode .bypass (s.pos k).phase } := by
  unfold State.endForBypass
  cases (s.pos k).phase with
  | ordered | working => exact s.cancelOrder_detail _ h
  | idle | done | fault => rfl

theorem State.endForBypass_pallet (s : State) (k n : Nat) :
    (s.endForBypass k).pallet n = if (s.pos k).phase = .working then s.afterCancel k n else s.pallet n := by
  have e := s.pallet_cancelOutstanding k n
  unfold State.endForBypass State.cancelOutstanding at *
  cases hp : (s.pos k).phase with
  | working => simpa [hp] using e
  | ordered => simpa using s.pallet_cancel_withdrawn k n
  | idle | done | fault => simp

theorem State.changeMode_orders (s : State) (k : Nat) (m : Mode) : s.OrdersOnly (s.changeMode k m) := by
  cases m with
  | bypass => exact (s.endForBypass_orders k).trans ((State.writeOrder_orders _ k _ _ _ _).trans (State.onPos_orders _ k _))
  | active => exact ((State.writeOrder_orders _ k _ _ _ _).trans (State.onPos_orders _ k _)).trans (State.onDetail_orders _ k _)

theorem State.changeMode_elsewhere (s : State) (k : Nat) (m : Mode) : s.SameElsewhere (s.changeMode k m) k := by
  cases m with
  | bypass => exact (s.endForBypass_elsewhere k).trans ((State.writeOrder_elsewhere _ k _ _ _ _).trans (State.onPos_elsewhere _ k _))
  | active => exact ((State.writeOrder_elsewhere _ k _ _ _ _).trans (State.onPos_elsewhere _ k _)).trans (State.onDetail_elsewhere _ k _)

theorem State.changeMode_pallet (s : State) (k n : Nat) (m : Mode) :
    (s.changeMode k m).pallet n = if m = .bypass ∧ (s.pos k).phase = .working then s.afterCancel k n else s.pallet n := by
  cases m with
  | bypass =>
    have e : (s.changeMode k .bypass).pallet n = (s.endForBypass k).pallet n := rfl
    simpa [e] using s.endForBypass_pallet k n
  | active => rfl

/-- The position and its order detail after the change of mode. -/
theorem State.changeMode_at (s : State) {k : Nat} (m : Mode) (h : k < s.rst.positions.length) (hd : k < s.rst.details.length) :
    (s.changeMode k m).pos k = (s.pos k).withMode m ∧
      (s.changeMode k m).detail k = { s.detail k with
        copyNumber := (s.pos k).orderNumber, copyKind := .noOrder, closing := (s.detail k).closing.withMode m (s.pos k).phase } := by
  cases m with
  | bypass =>
    have o := s.endForBypass_orders k
    have hk : k < (s.endForBypass k).rst.positions.length := by rwa [o.positions]
    obtain ⟨p, d⟩ := (s.endForBypass k).writeOrder_at (k := k) ((s.endForBypass k).pos k).orderNumber .noOrder none none hk
      (by rwa [o.details])
    have x := State.pos_onPos_self ((s.endForBypass k).writeOrder k ((s.endForBypass k).pos k).orderNumber .noOrder none none)
      (fun p => { p with mode := .bypass, phase := .idle, faultCode := none, hold := false })
      (by rwa [(State.writeOrder_orders _ k _ _ _ _).positions])
    rw [p] at x
    refine ⟨x.trans ?_, d.trans ?_⟩
    · rw [s.endForBypass_pos]; rfl
    · rw [s.endForBypass_pos, s.endForBypass_detail hd]
  | active =>
    obtain ⟨p, d⟩ := s.writeOrder_at (k := k) (s.pos k).orderNumber .noOrder none none h hd
    have x := State.pos_onPos_self (s.writeOrder k (s.pos k).orderNumber .noOrder none none)
      (fun p => { p with mode := .active, phase := .idle, faultCode := none }) (by rwa [(State.writeOrder_orders _ k _ _ _ _).positions])
    have y := State.detail_onDetail_self ((s.writeOrder k (s.pos k).orderNumber .noOrder none none).onPos k
      fun p => { p with mode := .active, phase := .idle, faultCode := none }) (fun d => { d with closing := .noOrder })
      (by simpa using by rwa [(State.writeOrder_orders _ k _ _ _ _).details])
    rw [p] at x
    rw [State.onPos_detail, d] at y
    exact ⟨x, y⟩

/-- An order that a SET MODE to BYPASS ends stops the timers (R86, R88). -/
theorem State.changeMode_timers (s : State) {k : Nat} (h : k < s.ctm.startTimers.length) (hw : k < s.ctm.work.length)
    (hp : (s.pos k).phase = .ordered ∨ (s.pos k).phase = .working) :
    (s.changeMode k .bypass).startTimer k = none ∧ ((s.changeMode k .bypass).work k).running = none := by
  have e : (s.changeMode k .bypass).ctm = (s.endForBypass k).ctm := rfl
  rw [State.startTimer, State.work, e]
  unfold State.endForBypass
  rcases hp with hp | hp <;> simp only [hp] <;> exact s.cancelOrder_timers _ h hw

/-- The refusals of SET MODE in their order (R14). -/
theorem State.modeRefusal_cases (s : State) (k : Nat) (m : Mode) :
    (15 < k → s.modeRefusal k m = some .range) ∧
    (k ≤ 15 → s.rst.geometry = none → s.modeRefusal k m = some .geometryAbsent) ∧
    (k ≤ 15 → s.rst.geometry.isSome = true → (s.pos k).kind = .unused → s.modeRefusal k m = some .notInLine) ∧
    (k ≤ 15 → s.rst.geometry.isSome = true → (s.pos k).kind ≠ .unused →
      (m = .bypass → (s.pos k).kind = .load ∨ (s.pos k).kind = .unload → s.modeRefusal k m = some .range) ∧
      (m = .active ∨ ((s.pos k).kind ≠ .load ∧ (s.pos k).kind ≠ .unload) →
        s.modeRefusal k m = if s.ixc.state.abortable then some .wrongState else none)) := by
  refine ⟨fun h => if_pos h, fun h g => ?_, fun h g u => ?_, fun h g u => ⟨fun hm e => ?_, fun e => ?_⟩⟩ <;>
    rw [State.modeRefusal, if_neg (by omega)]
  · simp [g]
  · have : s.rst.geometry.isNone = false := by simpa using g
    simp [this, State.unused, u]
  · have : s.rst.geometry.isNone = false := by simpa using g
    simp [this, State.unused, u, hm, e]
  · have : s.rst.geometry.isNone = false := by simpa using g
    have c : (m == .bypass && ((s.pos k).kind == .load || (s.pos k).kind == .unload)) = false := by
      rcases e with rfl | ⟨a, b⟩
      · rfl
      · simp [a, b]
    simp [this, State.unused, u, c]

/-- A grant whose operation ends an order and then tests the collection: what its answer, the records and the frame are. -/
theorem State.grant_orders_collect {s u : State} {i : Instr} {p : Permit} {l : Link} {tag : Byte} {cells : List (State → List Cell)}
    {op : State → State × Reply} {g : Gate} {d : List Byte} (hr : s.Ready l) (hp : p.refusal l = none)
    (ho : (s.granted i l).OrdersOnly u) (hop : op (s.granted i l) = (u.collect g, { result := .ok, data := d })) :
    ∃ t, s.grant i p l tag cells op = .next t ∧ s.Answered t l tag .ok d ∧
      (∀ j, t.pos j = u.pos j ∧ t.detail j = u.detail j ∧ t.work j = u.work j ∧ t.startTimer j = u.startTimer j) ∧
      (∀ n, t.pallet n = u.pallet n) ∧ s.SameTables t ∧ s.SameLists t ∧ (¬u.Released → s.SameMotion t) := by
  obtain ⟨m, ps, ds, store⟩ := ho.store
  have sound : u.rst.errors = [] := by rw [store]; exact hr.1.2
  rw [u.collect_sound g sound] at hop
  have c := u.testCollection_collects g
  obtain ⟨x, e, kept⟩ := c.store
  obtain ⟨rst, ixc, btk, wlu, ctm, aar, -, -, -⟩ := State.closeGrant_blocks s (u.testCollection g) l tag { result := .ok, data := d }
  refine ⟨_, (s.grant_ready i p l tag cells op hr hp).trans (by rw [hop]), ?_, fun j => ?_, fun n => ?_, ?_, ?_, fun w => ?_⟩
  · refine State.closeGrant_answered hr.2.1 (.trans (.of_links (congrArg Liu.links ho.liu)) c.links) ?_ ?_ ?_
    · rw [c.pointer, ho.aar]; rfl
    · rw [c.wires, ho.pins]; rfl
    · rw [c.queue, ho.pending]; rfl
  · simp only [State.pos, State.detail, State.work, State.startTimer, rst, ctm, kept, c.work, c.startTimers, and_self]
  · simp only [State.pallet, rst, kept]
  · constructor <;> simp only [rst, kept, store] <;> rfl
  · refine ⟨?_, ?_, ?_, ?_⟩ <;> simp only [rst, kept, store] <;> rfl
  · rw [u.testCollection_waits g w] at rst ixc btk wlu aar ⊢
    exact ⟨ixc.trans ho.ixc, btk.trans ho.btk, wlu.trans ho.wlu, (congrArg Aar.workList (aar.trans ho.aar)).trans rfl, by rw [rst, store]; rfl⟩

/-- A SET MODE that is taken and changes the mode (R15, R90). -/
theorem State.setMode_changes (tag : Byte) {k : Nat} {m : Mode} {s : State} (hr : s.Ready .supl) (hk : k ≤ 15)
    (taken : s.modeRefusal k m = none) (other : (s.pos k).mode ≠ m) (hs : s.Shaped) :
    ∃ t, exec (.setMode .supl tag k (some m)) s = .next t ∧ s.Answered t .supl tag .ok [] ∧ t.pos k = (s.pos k).withMode m ∧
      t.detail k = { s.detail k with
        copyNumber := (s.pos k).orderNumber, copyKind := .noOrder, closing := (s.detail k).closing.withMode m (s.pos k).phase } ∧
      (∀ n, t.pallet n = if m = .bypass ∧ (s.pos k).phase = .working then s.afterCancel k n else s.pallet n) ∧
      (m = .bypass → (s.pos k).phase = .ordered ∨ (s.pos k).phase = .working → t.startTimer k = none ∧ (t.work k).running = none) ∧
      s.SameElsewhere t k ∧ s.SameTables t ∧ s.SameLists t ∧ (¬(s.onPos k fun _ => t.pos k).Released → s.SameMotion t) := by
  obtain ⟨positions, details, startTimers, work, -, -⟩ := hs
  let g := s.granted (.setMode .supl tag k (some m)) .supl
  have ho : g.OrdersOnly (g.changeMode k m) := g.changeMode_orders k m
  have hop : g.setMode k (some m) = ((g.changeMode k m).collect .supervisor, { result := .ok, data := [] }) := by
    have taken : g.modeRefusal k m = none := taken
    have other : (g.pos k).mode ≠ m := other
    simp only [State.setMode, taken, if_neg other]
    cases m <;> rfl
  obtain ⟨t, ht, answered, reads, pallets, tables, lists, rests⟩ := State.grant_orders_collect (tag := tag)
    (cells := [fun _ => geometryCell ++ positionCells k, fun s => s.occupantCells k]) (op := (·.setMode k (some m))) (p := .supervisor) hr rfl ho hop
  obtain ⟨at_k, detail_k⟩ := g.changeMode_at m (k := k) (by rw [show g.rst.positions.length = 16 from positions]; omega)
    (by rw [show g.rst.details.length = 16 from details]; omega)
  have pos_k : t.pos k = (s.pos k).withMode m := (reads k).1.trans at_k
  refine ⟨t, ht, answered, pos_k, ?_, fun n => ?_, ?_, fun j hj => ?_, tables, lists, fun w => rests fun c => w ?_⟩
  · exact (reads k).2.1.trans detail_k
  · exact (pallets n).trans (g.changeMode_pallet k n m)
  · rintro rfl hp
    rw [(reads k).2.2.1, (reads k).2.2.2]
    exact g.changeMode_timers (by rw [show g.ctm.startTimers.length = 16 from startTimers]; omega)
      (by rw [show g.ctm.work.length = 16 from work]; omega) hp
  · obtain ⟨a, b, c, d⟩ := g.changeMode_elsewhere k m j hj
    rw [(reads j).1, (reads j).2.1, (reads j).2.2.1, (reads j).2.2.2]
    exact ⟨a, b, c, d⟩
  · obtain ⟨_, ps, _, store⟩ := ho.store
    refine (State.released_congr ?_ ?_ ?_ ?_).mpr c
    · exact ho.ixc.symm
    · intro j
      by_cases hj : j = k
      · subst hj
        rw [s.pos_onPos_self _ (by omega)]
        exact (reads j).1
      · rw [s.pos_onPos_ne _ hj]
        exact (g.changeMode_elsewhere k m j hj).1.symm
    · rw [store]; rfl
    · exact ho.pins.symm

/-! ### SET OCCUPANT (R16) -/

theorem IxcState.abortable_iff (x : IxcState) : x.abortable = true ↔ x.moving = true ∨ x = .advance := by
  simp [IxcState.abortable]

theorem Phase.outstanding_iff (p : Phase) : p.outstanding = true ↔ p = .ordered ∨ p = .working := by
  simp [Phase.outstanding]

/-- The states in which R16 lets an occupant be written. -/
def State.Placing (s : State) : Prop :=
  s.ixc.state = .halt ∨ s.ixc.state = .fault ∧ (s.ixc.motion.isSome = true → ∃ f, s.ixc.currentFault = some f ∧ f.cause = .tracking)

theorem State.placing_iff (s : State) : s.Placing ↔
    ¬((s.ixc.state != .halt && s.ixc.state != .fault) = true) ∧
      ¬((s.ixc.state == .fault && s.ixc.motion.isSome && !(s.ixc.currentFault.any fun f => f.cause == .tracking)) = true) := by
  unfold State.Placing
  by_cases h : s.ixc.state = .halt
  · simp [h]
  · by_cases f : s.ixc.state = .fault
    · cases s.ixc.motion <;> cases s.ixc.currentFault <;> simp [f]
    · simp [h, f]

/-- A number that an occupant names is out of range (R16). -/
theorem Occupant.badNumber_iff (o : Occupant) : (Occupant.number o).any badNumber = true ↔ ∃ n, o = .pallet n ∧ ¬(n ≠ 0 ∧ n ≤ 255) := by
  cases o with
  | unknown | empty => simp [Occupant.number]
  | pallet n => simp [Occupant.number, badNumber]; omega

/-- The refusals of SET OCCUPANT up to the pallet's own, in their order (R16). -/
theorem State.occupantRefusal_cases (s : State) (k : Nat) (o : Occupant) :
    (15 < k ∨ (∃ n, o = .pallet n ∧ ¬(n ≠ 0 ∧ n ≤ 255)) → s.occupantRefusal k o = some .range) ∧
    (k ≤ 15 → (∀ n, o = .pallet n → n ≠ 0 ∧ n ≤ 255) →
      (s.rst.geometry = none → s.occupantRefusal k o = some .geometryAbsent) ∧
      (s.rst.geometry.isSome = true → (s.pos k).kind = .unused → s.occupantRefusal k o = some .notInLine) ∧
      (s.rst.geometry.isSome = true → (s.pos k).kind ≠ .unused →
        (¬s.Placing ∨ (s.pos k).phase = .ordered ∨ (s.pos k).phase = .working → s.occupantRefusal k o = some .wrongState) ∧
        (s.Placing → (s.pos k).phase ≠ .ordered → (s.pos k).phase ≠ .working →
          s.occupantRefusal k o =
            if (Occupant.number o).any fun n => (s.pallet n).isNone then some .unknownPallet
            else if (Occupant.number o).any fun n => s.location n != .out && (s.pos k).occupant != o then some .wrongState
            else none))) := by
  refine ⟨fun h => if_pos (by rwa [Occupant.badNumber_iff]), fun hk hn => ?_⟩
  have inRange : ¬(15 < k ∨ (Occupant.number o).any badNumber = true) := by
    rw [Occupant.badNumber_iff]
    rintro (h | ⟨n, rfl, h⟩)
    · omega
    · exact h (hn n rfl)
  rw [State.occupantRefusal, if_neg inRange]
  refine ⟨fun g => by simp [g], fun g u => ?_, fun g u => ⟨fun h => ?_, fun h a b => ?_⟩⟩ <;>
    have g : ¬(s.rst.geometry.isNone = true) := by simpa [Option.isSome_iff_ne_none] using g
  · rw [if_neg g, if_pos (by simp [State.unused, u])]
  · rw [if_neg g, if_neg (by simp [State.unused, u])]
    rw [s.placing_iff, ← Phase.outstanding_iff] at h
    split_ifs with moving untracked outstanding
    · rfl
    · rfl
    · rfl
    all_goals exact absurd ⟨moving, untracked⟩ (h.resolve_right outstanding)
  · obtain ⟨h1, h2⟩ := s.placing_iff.mp h
    have h3 : ¬((s.pos k).phase.outstanding = true) := by rw [Phase.outstanding_iff]; tauto
    rw [if_neg g, if_neg (by simp [State.unused, u]), if_neg h1, if_neg h2, if_neg h3]

/-- The occupant is no part of the status content (R187). -/
theorem State.positions_content {s : State} {f : Rst → Rst} (geometry : (f s.rst).geometry = s.rst.geometry) (log : (f s.rst).log = s.rst.log)
    (phase : ∀ k, ((s.onRst f).pos k).phase = (s.pos k).phase) : (s.onRst f).statusContent = s.statusContent := by
  have count : (s.onRst f).count = s.count := State.count_of_geometry geometry
  simp only [State.statusContent, State.positionFaultMask, State.logPending, State.onRst_rst, log, phase, count]
  rfl

theorem State.setOccupant_phase (s : State) (k : Nat) (o : Occupant) (j : Nat) : ((s.setOccupant k o).pos j).phase = (s.pos j).phase := by
  by_cases h : j = k ∧ k < s.rst.positions.length
  · obtain ⟨rfl, h⟩ := h
    rw [State.setOccupant, s.pos_onPos_self _ h]
  · by_cases e : j = k
    · subst e
      have h : s.rst.positions.length ≤ j := by omega
      simp [State.setOccupant, State.pos, State.onPos, h]
    · rw [State.setOccupant, s.pos_onPos_ne _ e]

/-- A SET OCCUPANT that is taken writes the occupant and nothing else (R16). -/
theorem State.setOccupant_taken (tag : Byte) {k : Nat} {o : Occupant} {s : State} (hr : s.Ready .supl)
    (taken : s.occupantRefusal k o = none) :
    exec (.setOccupant .supl tag k o) s =
      .next ((s.setOccupant k o).answered .supl tag .ok ((s.setOccupant k o).positionEntry k)) := by
  refine (s.grant_ready _ .supervisor .supl tag _ _ hr rfl).trans (congrArg _ ?_)
  have e : (s.granted (.setOccupant .supl tag k o) .supl).occupantRefusal k o = none := taken
  simp only [State.nameOccupant, e]
  exact State.closeGrant_onRst _ _ _ _ _ (State.positions_content rfl rfl (s.setOccupant_phase k o))

/-! ### SURVEY (R17) -/

theorem State.pos_surveyed (s : State) {j : Nat} (h : j < s.rst.positions.length) :
    s.surveyed.pos j = (s.pos j).survey (s.surveyRow j) := getD_mapIdx _ _ _ _ _ h

theorem State.surveyed_phase (s : State) (j : Nat) : (s.surveyed.pos j).phase = (s.pos j).phase := by
  by_cases h : j < s.rst.positions.length
  · rw [s.pos_surveyed h]; cases s.surveyRow j <;> rfl
  · simp [State.pos, State.surveyed, Nat.not_lt.mp h]

/-- What the first fitting row of R17 says. -/
theorem State.surveyRow_spec (s : State) (j : Nat) :
    let held := (s.pos j).phase = .ordered ∨ (s.pos j).phase = .working
    ((s.pos j).survey (s.surveyRow j) = { s.pos j with occupant := if j < s.count ∧ ¬held then
        (match (s.pos j).occupant, member s.pins.ip j with | .empty, true => .unknown | o, true => o | _, false => .empty)
        else (s.pos j).occupant }) ∧
    (s.surveyRow j = .emptied ↔ j < s.count ∧ ¬held ∧ (s.pos j).occupant ≠ .empty ∧ member s.pins.ip j = false) ∧
    (s.surveyRow j = .marked ↔ j < s.count ∧ ¬held ∧ (s.pos j).occupant = .empty ∧ member s.pins.ip j = true) ∧
    (s.surveyRow j = .skipped ↔ j < s.count ∧ held) := by
  intro held
  by_cases hc : j < s.count
  · by_cases ho : held
    · have row : s.surveyRow j = .skipped := by
        rw [State.surveyRow, if_neg (by omega), if_pos ((Phase.outstanding_iff _).mpr ho)]
      simp [row, hc, ho, Position.survey]
    · have here : ¬(s.count ≤ j) := by omega
      have free : ¬((s.pos j).phase.outstanding = true) := by rwa [Phase.outstanding_iff]
      rw [State.surveyRow, if_neg here, if_neg free]
      simp only [hc, ho, not_false_eq_true, and_self, if_true, true_and, iff_false]
      generalize s.pos j = p
      obtain ⟨_, _, _, o, _, _, _, _, _, _, _⟩ := p
      cases o <;> cases member s.pins.ip j <;> simp [Position.survey]
  · have row : s.surveyRow j = .unchanged := if_pos (by omega)
    simp [row, hc, Position.survey]

/-- A SURVEY that is taken (R17). -/
theorem State.survey_taken (tag : Byte) {s : State} (hr : s.Ready .supl) (present : s.rst.geometry.isSome = true) (halt : s.ixc.state = .halt) :
    exec (.survey .supl tag) s = .next (s.surveyed.answered .supl tag .ok
      (maskBytes (s.surveyMask .emptied) ++ maskBytes (s.surveyMask .marked) ++ maskBytes (s.surveyMask .skipped) ++
        maskBytes s.surveyed.unknownMask)) := by
  refine (s.grant_ready _ .supervisor .supl tag _ _ hr rfl).trans (congrArg _ ?_)
  have g : ¬((s.granted (.survey .supl tag) .supl).rst.geometry.isNone = true) := by
    simpa [Option.isSome_iff_ne_none] using present
  have h : ¬(((s.granted (.survey .supl tag) .supl).ixc.state != .halt) = true) := by
    simpa using halt
  rw [State.surveyLine, if_neg g, if_neg h]
  exact State.closeGrant_onRst _ _ _ _ _ (State.positions_content rfl rfl s.surveyed_phase)

/-- Settles O53: SET MODE, SET OCCUPANT and SURVEY, their refusals in order and what they write. -/
theorem modesAndOccupantsAreSet : Obligations.ModesAndOccupantsAreSet := by
  intro tag k s hr refused p mode place named placing
  have mode_refused : ∀ {m r}, s.modeRefusal k m = some r → mode m = refused r := fun {m r} h =>
    State.grant_answers hr rfl (by
      have h : (s.granted (.setMode .supl tag k (some m)) .supl).modeRefusal k m = some r := h
      simp only [State.setMode, h]; rfl)
  have place_refused : ∀ {o r}, s.occupantRefusal k o = some r → place o = refused r := fun {o r} h =>
    State.grant_answers hr rfl (by
      have h : (s.granted (.setOccupant .supl tag k o) .supl).occupantRefusal k o = some r := h
      simp only [State.nameOccupant, h]; rfl)
  refine ⟨State.grant_answers hr rfl rfl, fun m => ?_, fun o => ?_, fun g => ?_, fun g h => ?_, fun g h hs => ?_⟩
  · obtain ⟨range, absent, notInLine, inLine⟩ := s.modeRefusal_cases k m
    refine ⟨fun h => mode_refused (range h), fun h g => mode_refused (absent h g), fun h g u => mode_refused (notInLine h g u),
      fun h g u => ?_⟩
    obtain ⟨ends, others⟩ := inLine h g u
    refine ⟨fun hm e => mode_refused (ends hm e), fun e => ⟨fun busy => ?_, fun rest => ?_⟩⟩
    · exact mode_refused ((others e).trans (if_pos ((IxcState.abortable_iff _).mpr busy)))
    · have taken : s.modeRefusal k m = none := by
        rw [others e]
        rcases rest with x | x | x <;> rw [x] <;> rfl
      refine ⟨fun same => State.grant_answers hr rfl ?_, fun other hs => ?_⟩
      · have taken : (s.granted (.setMode .supl tag k (some m)) .supl).modeRefusal k m = none := taken
        have same : ((s.granted (.setMode .supl tag k (some m)) .supl).pos k).mode = m := same
        simp only [State.setMode, taken, if_pos same]; rfl
      · obtain ⟨t, ht, answered, pos_k, detail_k, rest⟩ := State.setMode_changes tag hr h taken other hs
        refine ⟨t, ht, answered, pos_k, detail_k.trans ?_, rest⟩
        cases m <;> cases (s.pos k).phase <;> rfl
  · obtain ⟨range, inRange⟩ := s.occupantRefusal_cases k o
    refine ⟨fun h => place_refused (range h), fun hk hn => ?_⟩
    obtain ⟨absent, notInLine, inLine⟩ := inRange hk hn
    refine ⟨fun g => place_refused (absent g), fun g u => place_refused (notInLine g u), fun g u => ?_⟩
    obtain ⟨wrong, free⟩ := inLine g u
    refine ⟨fun h => place_refused (wrong h), fun h a b => ?_⟩
    have free := free h a b
    refine ⟨?_, ?_, fun known => ?_⟩
    · rintro n rfl hp
      exact place_refused (free.trans (if_pos (by simp [Occupant.number, hp])))
    · rintro n rfl hp away other
      refine place_refused (free.trans ((if_neg ?_).trans (if_pos ?_)))
      · simpa [Occupant.number, Option.isSome_iff_ne_none] using hp
      · simp [Occupant.number, away, show (s.pos k).occupant ≠ _ from other]
    · refine State.setOccupant_taken tag hr (free.trans ((if_neg ?_).trans (if_neg ?_)))
      · cases o with
        | unknown | empty => simp [Occupant.number]
        | pallet n => simpa [Occupant.number, Option.isSome_iff_ne_none] using (known n rfl).1
      · cases o with
        | unknown | empty => simp [Occupant.number]
        | pallet n =>
          simp only [Occupant.number, Option.any_some, Bool.and_eq_true, bne_iff_ne, ne_eq, not_and, not_not]
          exact (known n rfl).2.resolve_left
  · exact State.grant_answers hr rfl (if_pos (by simpa using g))
  · refine State.grant_answers hr rfl ((if_neg ?_).trans (if_pos ?_))
    · simpa [Option.isSome_iff_ne_none] using g
    · simpa using h
  · refine ⟨_, _, _, _, _, State.survey_taken tag hr g h, fun j hj => ?_⟩
    have at_j := s.pos_surveyed (j := j) (by rw [hs.1]; exact hj)
    obtain ⟨survey, emptied, marked, skipped⟩ := s.surveyRow_spec j
    refine ⟨at_j.trans survey, ?_, ?_, ?_, ?_⟩
    · rw [State.surveyMask, member_maskOf _ j hj, beq_iff_eq]; exact emptied
    · rw [State.surveyMask, member_maskOf _ j hj, beq_iff_eq]; exact marked
    · rw [State.surveyMask, member_maskOf _ j hj, beq_iff_eq]; exact skipped
    · rw [State.unknownMask, member_maskOf _ j hj, Bool.and_eq_true, decide_eq_true_iff, beq_iff_eq]; rfl

end Sys2Proof.Machine
end

section
/-! SUPPORT. SET GEOMETRY (O51): steps that each write one position, the orders and the windows it clears, the tables it rebuilds. -/

namespace Sys2Proof.Machine

/-! ### Steps that each write one position -/

/-- A fold of steps that each write one entry: every entry is written once, by its own step. -/
theorem foldl_pointwise {σ β : Type} {step : σ → Nat → σ} (P : σ → Prop) (g : σ → Nat → β) (c : Nat → β → β)
    (keep : ∀ u k, P u → P (step u k)) (self : ∀ u k, k < 16 → P u → g (step u k) k = c k (g u k))
    (other : ∀ u j k, j ≠ k → g (step u k) j = g u j) (xs : List Nat) (nodup : xs.Nodup) (small : ∀ x ∈ xs, x < 16) (s : σ) (hs : P s)
    (j : Nat) : g (xs.foldl step s) j = if j ∈ xs then c j (g s j) else g s j := by
  induction xs generalizing s with
  | nil => rfl
  | cons x xs ih =>
    obtain ⟨fresh, nodup⟩ := List.nodup_cons.mp nodup
    rw [List.foldl_cons, ih nodup (fun y hy => small y (.tail x hy)) _ (keep s x hs)]
    by_cases e : j = x
    · subst e
      rw [if_neg fresh, if_pos (.head xs), self s j (small j (.head xs)) hs]
    · simp [e, other s j x e]

/-! ### The orders that SET GEOMETRY and LINE RESET clear (R91) -/

/-- An entry without order (R91). -/
def Position.cleared (p : Position) : Position :=
  { p with orderKind := .noOrder, program := none, instruction := none, phase := .idle, faultCode := none }

/-- An order detail record without order, of a position with the order number (R91). -/
def OrderDetail.cleared (d : OrderDetail) (number : Nat) : OrderDetail :=
  { d with copyNumber := number, copyKind := .noOrder, closing := .noOrder, resultTaken := none }

theorem State.clearOrder_orders (s : State) (k : Nat) : s.OrdersOnly (s.clearOrder k) := by
  refine .trans ?_ (State.stopTimers_orders _ k)
  refine .trans ?_ (State.onDetail_orders _ k _)
  refine .trans ?_ (State.onPos_orders _ k _)
  exact (s.cancelOutstanding_orders k).trans (State.writeOrder_orders _ k _ _ _ _)

theorem State.clearOrder_elsewhere (s : State) (k : Nat) : s.SameElsewhere (s.clearOrder k) k := by
  refine .trans ?_ (State.stopTimers_elsewhere _ k)
  refine .trans ?_ (State.onDetail_elsewhere _ k _)
  refine .trans ?_ (State.onPos_elsewhere _ k _)
  exact (s.cancelOutstanding_elsewhere k).trans (State.writeOrder_elsewhere _ k _ _ _ _)

theorem State.cancelOutstanding_detail (s : State) {k : Nat} (h : k < s.rst.details.length) :
    ∃ c, (s.cancelOutstanding k).detail k = { s.detail k with closing := c } := by
  unfold State.cancelOutstanding
  cases (s.pos k).phase with
  | ordered | working => exact ⟨_, s.cancelOrder_detail _ h⟩
  | idle | done | fault => exact ⟨_, rfl⟩

/-- The position, its order detail and its timers after R91. -/
theorem State.clearOrder_at (s : State) {k : Nat} (h : k < s.rst.positions.length) (hd : k < s.rst.details.length)
    (ht : k < s.ctm.startTimers.length) (hw : k < s.ctm.work.length) :
    (s.clearOrder k).pos k = (s.pos k).cleared ∧ (s.clearOrder k).detail k = (s.detail k).cleared (s.pos k).orderNumber ∧
      (s.clearOrder k).startTimer k = none ∧ ((s.clearOrder k).work k).running = none := by
  obtain ⟨c, hc⟩ := s.cancelOutstanding_detail hd
  have o := s.cancelOutstanding_orders k
  let t := s.cancelOutstanding k
  let w := t.writeOrder k (t.pos k).orderNumber .noOrder none none
  have ow : s.OrdersOnly w := o.trans (State.writeOrder_orders t k _ _ _ _)
  obtain ⟨p, d⟩ := t.writeOrder_at (k := k) (t.pos k).orderNumber .noOrder none none (by rwa [o.positions]) (by rwa [o.details])
  have x := w.pos_onPos_self (k := k) (fun p => { p with phase := .idle, faultCode := none }) (by rwa [ow.positions])
  let v := w.onPos k fun p => { p with phase := .idle, faultCode := none }
  have y := v.detail_onDetail_self (k := k) (fun d => { d with closing := .noOrder, resultTaken := none })
    (by rw [show v.rst.details.length = w.rst.details.length from rfl]; rwa [ow.details])
  have ov : s.OrdersOnly (v.onDetail k fun d => { d with closing := .noOrder, resultTaken := none }) :=
    ow.trans ((w.onPos_orders k _).trans (v.onDetail_orders k _))
  obtain ⟨a, b⟩ := State.stopTimers_timers (v.onDetail k fun d => { d with closing := .noOrder, resultTaken := none }) (k := k)
    (by rwa [ov.startTimers]) (by rwa [ov.work])
  refine ⟨x.trans ?_, y.trans ?_, a, congrArg WorkTimer.running b⟩
  · rw [p, s.cancelOutstanding_pos]; rfl
  · rw [State.onPos_detail, d, s.cancelOutstanding_pos, hc]; rfl

theorem State.clearOrder_pallet (s : State) (k n : Nat) : (s.clearOrder k).pallet n = s.afterCancel k n :=
  s.pallet_cancelOutstanding k n

theorem State.clearOrder_palletAt (s : State) (k j : Nat) : (s.clearOrder k).palletAt j = s.palletAt j := by
  rw [State.palletAt_eq_places, State.clearOrder_places, ← State.palletAt_eq_places]

theorem State.afterCancel_of_ne (s : State) {k n : Nat} (h : s.palletAt k ≠ some n) : s.afterCancel k n = s.pallet n := by
  simp [State.afterCancel, h]

/-- The record of a pallet that is no occupant of the positions cleared. -/
theorem State.foldl_clearOrder_pallet_other (xs : List Nat) (s : State) (n : Nat) (h : ∀ k ∈ xs, s.palletAt k ≠ some n) :
    (xs.foldl State.clearOrder s).pallet n = s.pallet n := by
  induction xs generalizing s with
  | nil => rfl
  | cons x xs ih =>
    rw [List.foldl_cons, ih _ fun k hk => by rw [s.clearOrder_palletAt]; exact h k (.tail x hk), s.clearOrder_pallet,
      s.afterCancel_of_ne (h x (.head xs))]

/-- The record of a pallet that is the occupant of one of the positions cleared. -/
theorem State.foldl_clearOrder_pallet_at (xs : List Nat) (s : State) (n j : Nat) (nodup : xs.Nodup) (hj : j ∈ xs)
    (h : ∀ k ∈ xs, k ≠ j → s.palletAt k ≠ some n) : (xs.foldl State.clearOrder s).pallet n = s.afterCancel j n := by
  induction xs generalizing s with
  | nil => simp at hj
  | cons x xs ih =>
    obtain ⟨fresh, nodup⟩ := List.nodup_cons.mp nodup
    rw [List.foldl_cons]
    by_cases e : j = x
    · subst e
      rw [State.foldl_clearOrder_pallet_other xs _ n fun k hk => ?_, s.clearOrder_pallet]
      rw [s.clearOrder_palletAt]
      exact h k (.tail j hk) fun c => fresh (c ▸ hk)
    · have away := s.afterCancel_of_ne (h x (.head xs) (Ne.symm e))
      rw [ih _ nodup ((List.mem_cons.mp hj).resolve_left e) fun k hk hne => by rw [s.clearOrder_palletAt]; exact h k (.tail x hk) hne]
      simp only [State.afterCancel, s.clearOrder_palletAt, s.clearOrder_pallet x n, (s.clearOrder_elsewhere x j e).1] at away ⊢
      rw [away]

theorem State.clearOrders_orders (s : State) : s.OrdersOnly s.clearOrders := by
  have h : ∀ (xs : List Nat) (u : State), u.OrdersOnly (xs.foldl State.clearOrder u) := by
    intro xs
    induction xs with
    | nil => exact fun u => .refl u
    | cons x xs ih => exact fun u => (u.clearOrder_orders x).trans (ih _)
  exact h _ s

/-- Every position, its order detail and its timers after R91. -/
theorem State.clearOrders_at (s : State) (hs : s.Shaped) {k : Nat} (hk : k < 16) :
    s.clearOrders.pos k = (s.pos k).cleared ∧ s.clearOrders.detail k = (s.detail k).cleared (s.pos k).orderNumber ∧
      s.clearOrders.startTimer k = none ∧ (s.clearOrders.work k).running = none := by
  obtain ⟨positions, details, startTimers, work, -, -⟩ := hs
  have e := foldl_pointwise (step := State.clearOrder) (s.OrdersOnly ·)
    (fun u j => (u.pos j, u.detail j, u.startTimer j, (u.work j).running))
    (fun _ x => (x.1.cleared, x.2.1.cleared x.1.orderNumber, none, none)) (fun u k h => h.trans (u.clearOrder_orders k))
    (fun u k hk h => by
      obtain ⟨a, b, c, d⟩ := u.clearOrder_at (k := k) (by rw [h.positions]; omega) (by rw [h.details]; omega)
        (by rw [h.startTimers]; omega) (by rw [h.work]; omega)
      rw [a, b, c, d])
    (fun u j k h => by obtain ⟨a, b, c, d⟩ := u.clearOrder_elsewhere k j h; rw [a, b, c, d])
    (List.range 16) List.nodup_range (fun x hx => List.mem_range.mp hx) s (.refl s) k
  rw [if_pos (List.mem_range.mpr hk)] at e
  obtain ⟨a, b, c, d⟩ : _ ∧ _ ∧ _ ∧ _ := by simpa only [Prod.mk.injEq] using e
  exact ⟨a, b, c, d⟩

/-! ### The windows that SET GEOMETRY empties (R6, R151) -/

/-- Emptying windows one by one: of the store the windows alone, of the Bar Tracker the largest drifts. -/
theorem State.foldl_setWindow (xs : List Nat) (s : State) :
    xs.foldl (fun t i => t.setWindow (i + 1) none) s =
      (s.onRst fun r => { r with windows := xs.foldl (fun w i => w.set i none) r.windows }).onBtk
        fun b => { b with captures := xs.foldl (fun c i => c.modify i fun e => { e with largest := 0 }) b.captures } := by
  induction xs generalizing s with
  | nil => rfl
  | cons x xs ih => rw [List.foldl_cons, ih]; rfl

theorem getD_set_none {α : Type} (w : List (Option α)) (x j : Nat) :
    (w.set x none).getD j none = if j = x then none else w.getD j none := by
  by_cases e : j = x
  · subst e
    by_cases h : j < w.length
    · rw [getD_set_self _ _ _ _ h, if_pos rfl]
    · simp [List.getD_eq_getElem?_getD, Nat.not_lt.mp h]
  · rw [getD_set_ne _ _ _ e, if_neg e]

/-- A place that is emptied, or is empty already, is empty after all have been. -/
theorem getD_foldl_set_none {α : Type} (xs : List Nat) (w : List (Option α)) (j : Nat) (h : j ∈ xs ∨ w.getD j none = none) :
    (xs.foldl (fun w i => w.set i none) w).getD j none = none := by
  induction xs generalizing w with
  | nil => simpa using h
  | cons x xs ih =>
    refine ih _ ?_
    rw [getD_set_none]
    by_cases e : j = x
    · exact .inr (if_pos e)
    · rw [if_neg e]
      exact h.imp_left fun c => (List.mem_cons.mp c).resolve_left e

theorem length_foldl_modify {α : Type} (f : α → α) (xs : List Nat) (c : List α) : (xs.foldl (fun c i => c.modify i f) c).length = c.length :=
  foldl_keeps (g := List.length) (fun c i => List.length_modify f c i) xs c

/-- The windows, the captures and the errors alone change when windows are emptied. -/
theorem State.foldl_setWindow_rewriteCells (xs : List Nat) (cells : List Cell) (s : State) :
    (xs.foldl (fun t i => t.setWindow (i + 1) none) s).rewriteCells cells =
      { s with
        rst := { s.rst with
          windows := xs.foldl (fun w i => w.set i none) s.rst.windows
          errors := s.rst.errors.filter fun e => !cells.contains e.1 }
        btk := { s.btk with captures := xs.foldl (fun c i => c.modify i fun e => { e with largest := 0 }) s.btk.captures } } := by
  rw [State.foldl_setWindow]
  rfl

/-- What remains after the windows are emptied: no window, the other tables, and the captures in number. -/
theorem State.emptyWindows_frame (s : State) : ∃ w c e, c.length = s.btk.captures.length ∧ (∀ j, j < 15 → w.getD j none = none) ∧
    s.emptyWindows = { s with rst := { s.rst with windows := w, errors := e }, btk := { s.btk with captures := c } } :=
  ⟨_, _, _, length_foldl_modify _ _ _, fun j hj => getD_foldl_set_none _ _ j (.inl (List.mem_range.mpr hj)),
    s.foldl_setWindow_rewriteCells (List.range 15) windowCells⟩

/-! ### SET GEOMETRY (R4 to R6) -/

theorem kindsOf_eq_some (ks : List (Option WorkKind)) (as : List WorkKind) : kindsOf ks = some as ↔ as.map some = ks := by
  induction ks generalizing as with
  | nil => cases as <;> simp [kindsOf]
  | cons k ks ih =>
    have e : kindsOf (k :: ks) = match k, kindsOf ks with | some a, some bs => some (a :: bs) | _, _ => none := rfl
    rw [e]
    cases k with
    | none => cases as <;> simp
    | some a =>
      cases h : kindsOf ks with
      | none =>
        cases as with
        | nil => simp
        | cons b bs => simpa using fun _ c => by simp [(ih bs).mpr c] at h
      | some bs =>
        have := (ih bs).mp h
        subst this
        cases as with
        | nil => simp
        | cons b cs => simp [eq_comm, List.map_inj_right fun _ _ => Option.some.inj]

/-- The fields of a SET GEOMETRY lie in their ranges (R3, R4). -/
def GeometryFits (n : Nat) (ks : List (Option WorkKind)) (p q : Nat) (v : Option Nat) : Prop :=
  3 ≤ n ∧ n ≤ 16 ∧ ks.length = n - 2 ∧ (∀ k, k ∈ ks → k.isSome = true) ∧ 1000 ≤ p ∧ p ≤ 200000 ∧ 1 ≤ q ∧ q ≤ 64 ∧
    (∀ x, v = some x → 1 ≤ x ∧ x ≤ 65535)

theorem service_fits (v : Option Nat) : (1 ≤ v.getD Config.defaultService ∧ v.getD Config.defaultService ≤ 65535) ↔
    ∀ x, v = some x → 1 ≤ x ∧ x ≤ 65535 := by
  cases v <;> simp [Config.defaultService]

theorem geometryOf_refused {n p q : Nat} {ks : List (Option WorkKind)} {v : Option Nat} (h : ¬GeometryFits n ks p q v) :
    geometryOf n ks p q v = none := by
  unfold geometryOf
  cases hk : kindsOf ks with
  | none => rfl
  | some as =>
    obtain rfl := (kindsOf_eq_some ks as).mp hk
    refine if_neg fun ⟨a, b, c, d, e, f, g, x⟩ => h ?_
    exact ⟨a, b, by simpa using c, by simp, d, e, f, g, (service_fits v).mp x⟩

theorem geometryOf_taken {n p q : Nat} {ks : List (Option WorkKind)} {v : Option Nat} (h : GeometryFits n ks p q v) :
    ∃ g, geometryOf n ks p q v = some g ∧ g.count = n ∧ g.kinds.map some = ks ∧ g.pitch = p ∧ g.resolution = q ∧ g.service = v.getD 20000 := by
  obtain ⟨a, b, c, named, d, e, f, g, x⟩ := h
  obtain ⟨as, rfl⟩ : ∃ as : List WorkKind, as.map some = ks := by
    refine ⟨ks.filterMap id, ?_⟩
    rw [List.map_filterMap_some_eq_filter_map_isSome, List.map_id, List.filter_eq_self]
    exact named
  have hk := (kindsOf_eq_some _ as).mpr rfl
  refine ⟨{ count := n, kinds := as, pitch := p, resolution := q, service := v.getD 20000 }, ?_, rfl, rfl, rfl, rfl, rfl⟩
  rw [geometryOf, hk]
  exact if_pos ⟨a, b, by simpa using c, d, e, f, g, (service_fits v).mpr x⟩

/-- The kinds of the line as R5 gives them, from the kinds that the request names. -/
theorem kindOf_of_kinds {g : Geometry} {ks : List (Option WorkKind)} (h : g.kinds.map some = ks) (k : Nat) : kindOf (some g) k =
    if g.count ≤ k then .unused else if k = 0 then .load else if k + 1 = g.count then .unload
      else if ks.getD (k - 1) none = some .check then .check else .process := by
  subst h
  unfold kindOf
  simp only [List.getD_eq_getElem?_getD, List.getElem?_map]
  rcases g.kinds[k - 1]? with _ | _ | _ <;> simp

/-- What SET GEOMETRY writes over a line whose orders are cleared (R5, R6, R131). -/
def State.rebuildLine (u : State) (cells : List Cell) (g : Geometry) : State :=
  let t := (u.rewriteCells cells).onRst fun r =>
    { r with geometry := some g, unconfirmed := false, positions := r.positions.mapIdx fun k p => p.rebuild g k
             transfer := some (Transfer.rebuild g r.transfer) }
  (t.emptyWindows.discardHeld).onBtk fun b => { b with captures := b.captures.map fun _ => EntryCapture.reset }

theorem State.writeGeometry_eq (s : State) (g : Geometry) : s.writeGeometry g = s.clearOrders.rebuildLine s.geometryWrites g := rfl

theorem State.discardHeld_eq (s : State) : s.discardHeld = { s with wlu := { s.wlu with record := { s.wlu.record with
    state := if s.wlu.record.state = .held then .discarded else s.wlu.record.state } } } := by
  unfold State.discardHeld State.onWlu
  by_cases h : s.wlu.record.state = .held <;> simp [h]

theorem State.rebuildLine_eq (u : State) (cells : List Cell) (g : Geometry) : ∃ w e, (∀ j, j < 15 → w.getD j none = none) ∧
    u.rebuildLine cells g =
      { u with
        rst := { u.rst with
          geometry := some g, unconfirmed := false, positions := u.rst.positions.mapIdx fun k p => p.rebuild g k
          transfer := some (Transfer.rebuild g u.rst.transfer), windows := w, errors := e }
        btk := { u.btk with captures := u.btk.captures.map fun _ => EntryCapture.reset }
        wlu := { u.wlu with record := { u.wlu.record with
          state := if u.wlu.record.state = .held then .discarded else u.wlu.record.state } } } := by
  obtain ⟨w, c, e, length, empty, he⟩ := ((u.rewriteCells cells).onRst fun r =>
    { r with geometry := some g, unconfirmed := false, positions := r.positions.mapIdx fun k p => p.rebuild g k
             transfer := some (Transfer.rebuild g r.transfer) }).emptyWindows_frame
  have captures : c.map (fun _ => EntryCapture.reset) = u.btk.captures.map fun _ => EntryCapture.reset := by
    rw [List.map_const', List.map_const', length]; rfl
  refine ⟨w, e, empty, ?_⟩
  rw [State.rebuildLine, State.discardHeld_eq, he, ← captures]
  rfl

/-- The entry of a position that SET GEOMETRY leaves (R5, R91). -/
theorem Position.rebuild_cleared (g : Geometry) (k : Nat) (p : Position) : p.cleared.rebuild g k =
    { kind := kindOf (some g) k, mode := .active, joined := if k < g.count then p.joined else none
      occupant := if k < g.count then .unknown else .empty, phase := .idle, faultCode := none, orderNumber := p.orderNumber
      orderKind := .noOrder, program := none, instruction := none, hold := false } := rfl

theorem State.pallet_clearOrders_other (s : State) (n : Nat) (h : ∀ k, k < 16 → s.palletAt k ≠ some n) :
    s.clearOrders.pallet n = s.pallet n :=
  s.foldl_clearOrder_pallet_other _ n fun k hk => h k (List.mem_range.mp hk)

theorem State.pallet_clearOrders_at (s : State) (n j : Nat) (hj : j < 16) (h : ∀ k, k < 16 → k ≠ j → s.palletAt k ≠ some n) :
    s.clearOrders.pallet n = s.afterCancel j n :=
  s.foldl_clearOrder_pallet_at _ n j List.nodup_range (List.mem_range.mpr hj) fun k hk => h k (List.mem_range.mp hk)

theorem State.setGeometry_some {s : State} (h : s.ixc.state = .halt) (g : Geometry) :
    s.setGeometry (some g) = (s.writeGeometry g, { result := .ok, data := (s.writeGeometry g).geometryBody }) := by
  simp [State.setGeometry, h, ok]

/-- What an accepted SET GEOMETRY leaves: of the line whose orders are cleared, everything but what R5, R6 and R131 name. -/
structure State.Rebuilt (s t : State) (g : Geometry) : Prop where
  positions : ∀ k, k < 16 → t.pos k = (s.pos k).cleared.rebuild g k
  details : ∀ k, k < 16 → t.detail k = (s.detail k).cleared (s.pos k).orderNumber
  timers : ∀ k, k < 16 → t.startTimer k = none ∧ (t.work k).running = none
  pallets : ∀ n, t.pallet n = s.clearOrders.pallet n
  geometry : t.rst.geometry = some g ∧ t.rst.unconfirmed = false
  transfer : t.rst.transfer = some (Transfer.rebuild g s.rst.transfer)
  windows : ∀ k, k ≤ 15 → t.window k = none
  lists : s.SameLists t
  routing : t.rst.routing = s.rst.routing
  budgets : t.rst.budgets = s.rst.budgets
  wlu : t.wlu = { s.wlu with record := { s.wlu.record with
    state := if s.wlu.record.state = .held then .discarded else s.wlu.record.state } }
  btk : t.btk = { s.btk with captures := s.btk.captures.map fun _ => EntryCapture.reset }
  ixc : t.ixc = s.ixc
  liu : t.liu = s.liu
  aar : t.aar = s.aar
  pins : t.pins = s.pins
  pending : t.pending = s.pending

theorem State.writeGeometry_rebuilds (s : State) (g : Geometry) (hs : s.Shaped) : s.Rebuilt (s.writeGeometry g) g := by
  have cleared := fun k (hk : k < 16) => s.clearOrders_at (k := k) hs hk
  have o := s.clearOrders_orders
  obtain ⟨w, e, empty, written⟩ := s.clearOrders.rebuildLine_eq s.geometryWrites g
  rw [s.writeGeometry_eq, written]
  generalize hu : s.clearOrders = u at *
  obtain ⟨m, ps, ds, store⟩ := o.store
  constructor
  case positions =>
    intro k hk
    rw [← (cleared k hk).1]
    exact getD_mapIdx _ _ _ _ _ (by rw [o.positions, hs.1]; exact hk)
  case details => exact fun k hk => (cleared k hk).2.1
  case timers => exact fun k hk => (cleared k hk).2.2
  case pallets => rw [hu]; exact fun _ => rfl
  case geometry => exact ⟨rfl, rfl⟩
  case transfer => simp only [store]
  case windows =>
    intro k hk
    cases k with
    | zero => rfl
    | succ k => exact empty k (by omega)
  case lists => simp only [State.SameLists, store, and_self]
  case routing => simp only [store]
  case budgets => simp only [store]
  case wlu => simp only [o.wlu]
  case btk => simp only [o.btk]
  case ixc => exact o.ixc
  case liu => exact o.liu
  case aar => exact o.aar
  case pins => exact o.pins
  case pending => exact o.pending

/-- Settles O51: SET GEOMETRY is refused outside HALT and out of range, and otherwise rebuilds the line. -/
theorem geometryRebuildsTheLine : Obligations.GeometryRebuildsTheLine := by
  intro tag n p q ks v s hr c refused fits
  refine ⟨fun h => ?_, fun h bad => ?_, fun h good hs => ?_⟩
  · refine State.grant_answers hr rfl (if_pos ?_)
    rw [State.granted_ixc]
    simpa using h
  · refine State.grant_answers hr rfl ((if_neg ?_).trans ?_)
    · rw [State.granted_ixc]
      simpa using h
    · rw [geometryOf_refused bad]
      rfl
  · obtain ⟨g, taken, rfl, kinds, rfl, rfl, service⟩ := geometryOf_taken good
    have op := State.setGeometry_some (s := s.granted c .supl) h g
    have r := (s.granted c .supl).writeGeometry_rebuilds g hs
    have others := (s.granted c .supl).pallet_clearOrders_other
    have there := (s.granted c .supl).pallet_clearOrders_at
    generalize (s.granted c .supl).writeGeometry g = u at op r
    obtain ⟨rst, ixc, btk, wlu, ctm, aar, -, -, attentions⟩ := State.closeGrant_blocks s u .supl tag { result := .ok, data := u.geometryBody }
    refine ⟨_, g, _, (s.grant_ready c .supervisor .supl tag _ _ hr rfl).trans (by rw [taken, op]),
      State.closeGrant_answered hr.2.1 (i := c) (.of_links ?_) ?_ ?_ ?_, ?_⟩
    · rw [r.liu]
    · rw [r.aar]; rfl
    · rw [r.pins]; rfl
    · rw [r.pending]; rfl
    generalize State.closeGrant s .supl tag (u, _) = t at *
    have pos : ∀ k, t.pos k = u.pos k := fun k => by rw [State.pos, rst]; rfl
    have pallet : ∀ m, t.pallet m = u.pallet m := fun m => by simp only [State.pallet, rst]
    refine ⟨by rw [rst, r.geometry.1], rfl, kinds, rfl, rfl, service, by rw [rst, r.geometry.2], fun k hk => ?_, fun k hk => ?_,
      fun k hk => ?_, fun m away => ?_, fun m j hj _ away => ?_, fun absent => ?_, fun x present => ?_, fun k hk => ?_, ?_, ?_, ?_,
      ?_, ?_, ?_, ?_⟩
    · rw [pos, r.positions k hk, Position.rebuild_cleared, kindOf_of_kinds kinds]
      rfl
    · rw [State.detail, rst]
      exact r.details k hk
    · rw [State.startTimer, State.work, ctm]
      exact r.timers k hk
    · rw [pallet, r.pallets]
      exact others m away
    · rw [pallet, r.pallets]
      exact there m j hj away
    · rw [rst, r.transfer, State.granted_rst, absent]
      rfl
    · rw [rst, r.transfer, State.granted_rst, present]
      rfl
    · rw [State.window, rst]
      exact r.windows k hk
    · rw [State.SameLists, rst]
      exact r.lists
    · rw [rst, r.routing, State.granted_rst]
    · rw [rst, r.budgets, State.granted_rst]
    · rw [wlu, r.wlu]
      rfl
    · rw [btk, r.btk]
      rfl
    · rw [ixc, r.ixc, State.granted_ixc]
    · rw [attentions, r.liu]
      rfl

end Sys2Proof.Machine
end

section
/-! SUPPORT. SET TRANSFER and SET TARGET (O52): writing one setting and all of them, the effects of a direct setting, the two requests. -/

namespace Sys2Proof.Machine

/-! ### Writing one setting (R7, R8) -/

/-- A setting that R8 refuses: no place of the table that may be written, or an EXTEND that is neither ON nor OFF. -/
def BadSetting (x : Nat × Int) : Prop := x.1 < 2 ∨ 17 < x.1 ∨ (x.1 = 10 ∧ x.2 ≠ 1 ∧ x.2 ≠ 2)

/-- A staged setting that R8 takes. -/
def StagedSetting (x : Nat × Int) : Prop := 2 ≤ x.1 ∧ x.1 ≤ 15 ∧ (x.1 = 10 → x.2 = 1 ∨ x.2 = 2)

theorem Transfer.write_bad (g : Geometry) (t : Transfer) {x : Nat × Int} (h : BadSetting x) : Transfer.write g t x.1 x.2 = none := by
  obtain ⟨p, v⟩ := x
  rcases h with low | high | ⟨extend, off, on⟩ <;> dsimp only at *
  · interval_cases p <;> rfl
  · obtain ⟨n, rfl⟩ := Nat.exists_eq_add_of_lt high
    rw [show 17 + n + 1 = n + 18 by omega]
    rfl
  · subst extend
    exact (if_neg off).trans (if_neg on)

/-- The pending copy after one staged setting is written. -/
def Staged.written (g : Geometry) (y : Staged) (x : Nat × Int) : Staged :=
  ((Transfer.write g { pending := y, working := y, startTimeout := 0, budgetTolerance := 0 } x.1 x.2).map (·.pending)).getD y

/-- A staged setting goes into the pending copy, and only there. -/
theorem Transfer.write_staged (g : Geometry) (t : Transfer) {x : Nat × Int} (h : StagedSetting x) :
    Transfer.write g t x.1 x.2 = some { t with pending := t.pending.written g x } := by
  obtain ⟨p, v⟩ := x
  obtain ⟨low, high, extend⟩ := h
  dsimp only at low high extend ⊢
  by_cases e : p = 10
  · subst e
    rcases extend rfl with rfl | rfl <;> rfl
  · rcases Nat.lt_or_gt_of_ne e with below | above <;> interval_cases p <;> rfl

theorem Transfer.write_startTimeout (g : Geometry) (t : Transfer) (v : Int) :
    Transfer.write g t 16 v = some { t with startTimeout := clampNat 100 60000 v } := rfl

theorem Transfer.write_budgetTolerance (g : Geometry) (t : Transfer) (v : Int) :
    Transfer.write g t 17 v = some { t with budgetTolerance := clampNat 0 100 v } := rfl

/-- A setting is bad, staged, or one of the two direct ones. -/
theorem setting_cases (x : Nat × Int) : BadSetting x ∨ StagedSetting x ∨ x.1 = 16 ∨ x.1 = 17 := by
  unfold BadSetting StagedSetting
  omega

/-! ### Writing all settings, or none (R8) -/

theorem Transfer.writeAll_cons (g : Geometry) (t : Transfer) (x : Nat × Int) (xs : List (Nat × Int)) :
    Transfer.writeAll g t (x :: xs) = (Transfer.write g t x.1 x.2).bind fun u => Transfer.writeAll g u xs := by
  have none_stays : ∀ ys : List (Nat × Int), ys.foldl (fun r x => r.bind fun t => Transfer.write g t x.1 x.2) none = none := by
    intro ys
    induction ys with
    | nil => rfl
    | cons y ys ih => exact ih
  rw [Transfer.writeAll, List.foldl_cons, Option.bind_some]
  cases Transfer.write g t x.1 x.2 with
  | none => exact none_stays xs
  | some u => rfl

theorem Transfer.writeAll_append (g : Geometry) (t : Transfer) (xs ys : List (Nat × Int)) :
    Transfer.writeAll g t (xs ++ ys) = (Transfer.writeAll g t xs).bind fun u => Transfer.writeAll g u ys := by
  induction xs generalizing t with
  | nil => rfl
  | cons x xs ih =>
    rw [List.cons_append, Transfer.writeAll_cons, Transfer.writeAll_cons, Option.bind_assoc]
    exact congrArg _ (funext ih)

/-- One bad setting, and none is written. -/
theorem Transfer.writeAll_bad (g : Geometry) (t : Transfer) {x : Nat × Int} {xs : List (Nat × Int)} (hx : x ∈ xs) (h : BadSetting x) :
    Transfer.writeAll g t xs = none := by
  obtain ⟨ys, zs, rfl⟩ := List.append_of_mem hx
  rw [Transfer.writeAll_append]
  cases Transfer.writeAll g t ys with
  | none => rfl
  | some u => rw [Option.bind_some, Transfer.writeAll_cons, Transfer.write_bad g u h]; rfl

/-- What one write leaves as it was. -/
theorem Transfer.write_keeps (g : Geometry) {t u : Transfer} {x : Nat × Int} (h : Transfer.write g t x.1 x.2 = some u) :
    u.working = t.working ∧ (x.1 ≠ 16 → u.startTimeout = t.startTimeout) ∧ (x.1 ≠ 17 → u.budgetTolerance = t.budgetTolerance) ∧
      (16 ≤ x.1 → u.pending = t.pending) := by
  rcases setting_cases x with bad | staged | direct | direct
  · rw [Transfer.write_bad g t bad] at h
    contradiction
  · obtain rfl := Option.some.inj ((Transfer.write_staged g t staged).symm.trans h)
    exact ⟨rfl, fun _ => rfl, fun _ => rfl, fun c => absurd c (by have := staged.2.1; omega)⟩
  · rw [direct, Transfer.write_startTimeout] at h
    obtain rfl := Option.some.inj h
    exact ⟨rfl, fun c => absurd direct c, fun _ => rfl, fun _ => rfl⟩
  · rw [direct, Transfer.write_budgetTolerance] at h
    obtain rfl := Option.some.inj h
    exact ⟨rfl, fun _ => rfl, fun c => absurd direct c, fun _ => rfl⟩

/-- The first of the named settings is written, then the others. -/
theorem Transfer.writeAll_cons_some {g : Geometry} {t z : Transfer} {x : Nat × Int} {xs : List (Nat × Int)}
    (h : Transfer.writeAll g t (x :: xs) = some z) : ∃ u, Transfer.write g t x.1 x.2 = some u ∧ Transfer.writeAll g u xs = some z := by
  rwa [Transfer.writeAll_cons, Option.bind_eq_some_iff] at h

/-- What the writes leave as it was: the working copy, and a direct setting that is not named. -/
theorem Transfer.writeAll_keeps {g : Geometry} {t z : Transfer} {xs : List (Nat × Int)} (h : Transfer.writeAll g t xs = some z) :
    z.working = t.working ∧ ((∀ e, e ∈ xs → e.1 ≠ 16) → z.startTimeout = t.startTimeout) ∧
      ((∀ e, e ∈ xs → e.1 ≠ 17) → z.budgetTolerance = t.budgetTolerance) := by
  induction xs generalizing t with
  | nil => obtain rfl := Option.some.inj h; exact ⟨rfl, fun _ => rfl, fun _ => rfl⟩
  | cons x xs ih =>
    obtain ⟨u, first, rest⟩ := Transfer.writeAll_cons_some h
    obtain ⟨w1, s1, b1, -⟩ := Transfer.write_keeps g first
    obtain ⟨w2, s2, b2⟩ := ih rest
    exact ⟨w2.trans w1, fun c => (s2 fun e he => c e (.tail x he)).trans (s1 (c x (.head xs))),
      fun c => (b2 fun e he => c e (.tail x he)).trans (b1 (c x (.head xs)))⟩

/-- Of settings named more than once the last value stands. -/
theorem Transfer.writeAll_last {g : Geometry} {t z : Transfer} {x : Nat × Int} {ys zs : List (Nat × Int)}
    (h : Transfer.writeAll g t (ys ++ x :: zs) = some z) :
    ∃ u v, Transfer.write g u x.1 x.2 = some v ∧ Transfer.writeAll g v zs = some z := by
  rw [Transfer.writeAll_append, Option.bind_eq_some_iff] at h
  obtain ⟨u, -, h⟩ := h
  obtain ⟨v, h⟩ := Transfer.writeAll_cons_some h
  exact ⟨u, v, h⟩

theorem Transfer.writeAll_last_startTimeout {g : Geometry} {t z : Transfer} {v : Int} {ys zs : List (Nat × Int)}
    (h : Transfer.writeAll g t (ys ++ (16, v) :: zs) = some z) (last : ∀ e, e ∈ zs → e.1 ≠ 16) :
    z.startTimeout = clampNat 100 60000 v := by
  obtain ⟨u, w, first, rest⟩ := Transfer.writeAll_last h
  obtain rfl := Option.some.inj first
  exact (Transfer.writeAll_keeps rest).2.1 last

theorem Transfer.writeAll_last_budgetTolerance {g : Geometry} {t z : Transfer} {v : Int} {ys zs : List (Nat × Int)}
    (h : Transfer.writeAll g t (ys ++ (17, v) :: zs) = some z) (last : ∀ e, e ∈ zs → e.1 ≠ 17) :
    z.budgetTolerance = clampNat 0 100 v := by
  obtain ⟨u, w, first, rest⟩ := Transfer.writeAll_last h
  obtain rfl := Option.some.inj first
  exact (Transfer.writeAll_keeps rest).2.2 last

/-- Settings of which none is bad are all written; their pending copy is the one that the staged ones alone would write. -/
theorem Transfer.writeAll_good (g : Geometry) (t : Transfer) {xs : List (Nat × Int)} (h : ∀ e, e ∈ xs → ¬BadSetting e) :
    ∃ z, Transfer.writeAll g t xs = some z ∧ ∀ u, u.pending = t.pending →
      Transfer.writeAll g u (xs.filter fun e => e.1 < 16) = some { u with pending := z.pending } := by
  induction xs generalizing t with
  | nil => exact ⟨t, rfl, fun u e => by rw [← e]; rfl⟩
  | cons x xs ih =>
    have good := fun v => ih v fun e he => h e (.tail x he)
    have direct : ∀ v, 16 ≤ x.1 → Transfer.write g t x.1 x.2 = some v → v.pending = t.pending →
        ∃ z, Transfer.writeAll g t (x :: xs) = some z ∧ ∀ u, u.pending = t.pending →
          Transfer.writeAll g u ((x :: xs).filter fun e => e.1 < 16) = some { u with pending := z.pending } := by
      intro v large first pending
      obtain ⟨z, hz, staged⟩ := good v
      refine ⟨z, by rw [Transfer.writeAll_cons, first, Option.bind_some, hz], fun u e => ?_⟩
      rw [List.filter_cons_of_neg (by simpa using large)]
      exact staged u (e.trans pending.symm)
    rcases (setting_cases x).resolve_left (h x (.head xs)) with staged | e | e
    · obtain ⟨z, hz, rest⟩ := good { t with pending := t.pending.written g x }
      refine ⟨z, by rw [Transfer.writeAll_cons, Transfer.write_staged g t staged, Option.bind_some, hz], fun u e => ?_⟩
      rw [List.filter_cons_of_pos (by have := staged.2.1; simp; omega), Transfer.writeAll_cons, Transfer.write_staged g u staged,
        Option.bind_some, e]
      exact rest _ rfl
    · exact direct { t with startTimeout := clampNat 100 60000 x.2 } (by omega) (by rw [e]; rfl) rfl
    · exact direct { t with budgetTolerance := clampNat 0 100 x.2 } (by omega) (by rw [e]; rfl) rfl

/-! ### The effects of a direct setting (R9, R171, R172) -/

/-- What forming limits and expiring start timers leaves as it was; of the links nothing changes. -/
structure State.DirectOnly (s t : State) : Prop where
  rst : t.rst = s.rst
  ixc : t.ixc = s.ixc
  btk : t.btk = s.btk
  wlu : t.wlu = s.wlu
  pins : t.pins = s.pins
  pending : t.pending = s.pending
  links : t.liu.links = s.liu.links
  pointer : t.aar.pointer = s.aar.pointer
  work : t.ctm.work.length = s.ctm.work.length
  startTimers : t.ctm.startTimers.length = s.ctm.startTimers.length

theorem State.DirectOnly.refl (s : State) : s.DirectOnly s := ⟨rfl, rfl, rfl, rfl, rfl, rfl, rfl, rfl, rfl, rfl⟩

theorem State.DirectOnly.trans {s t u : State} (a : s.DirectOnly t) (b : t.DirectOnly u) : s.DirectOnly u :=
  ⟨b.rst.trans a.rst, b.ixc.trans a.ixc, b.btk.trans a.btk, b.wlu.trans a.wlu, b.pins.trans a.pins, b.pending.trans a.pending,
    b.links.trans a.links, b.pointer.trans a.pointer, b.work.trans a.work, b.startTimers.trans a.startTimers⟩

theorem State.DirectOnly.foldl {f : State → Nat → State} (h : ∀ u k, State.DirectOnly u (f u k)) (xs : List Nat) (s : State) :
    s.DirectOnly (xs.foldl f s) := by
  induction xs generalizing s with
  | nil => exact .refl s
  | cons x xs ih => exact (h s x).trans (ih _)

theorem State.onWork_direct (s : State) (k : Nat) (f : WorkTimer → WorkTimer) : s.DirectOnly (s.onWork k f) :=
  ⟨rfl, rfl, rfl, rfl, rfl, rfl, rfl, rfl, List.length_modify _ _ _, rfl⟩

theorem State.checkOverrun_direct (s : State) (k : Nat) : s.DirectOnly (s.checkOverrun k) := by
  have raise : s.DirectOnly (s.raiseOverrun k) := by
    unfold State.raiseOverrun
    split
    · exact .refl s
    · exact .trans (s.onWork_direct k _) ⟨rfl, rfl, rfl, rfl, rfl, rfl, rfl, rfl, rfl, rfl⟩
  unfold State.checkOverrun
  split
  · split
    · exact raise
    · exact .refl s
  · exact .refl s

theorem State.reformLimit_direct (s : State) (k : Nat) : s.DirectOnly (s.reformLimit k) := by
  unfold State.reformLimit
  split
  · exact (s.onWork_direct k _).trans (State.checkOverrun_direct _ k)
  · exact .refl s

theorem State.expireStart_direct (s : State) (k : Nat) : s.DirectOnly (s.expireStart k) :=
  ⟨rfl, rfl, rfl, rfl, rfl, rfl, rfl, rfl, rfl, List.length_set⟩

theorem State.expireLate_direct (s : State) (k : Nat) : s.DirectOnly (s.expireLate k) := by
  unfold State.expireLate
  split
  · split
    · exact s.expireStart_direct k
    · exact .refl s
  · exact .refl s

theorem State.directWritten_direct (s : State) : s.DirectOnly s.directWritten :=
  (State.DirectOnly.foldl State.reformLimit_direct _ s).trans (State.DirectOnly.foldl State.expireLate_direct _ _)

/-! #### The limits of the work timers -/

/-- Whether a running work time is greater than a limit (R172). -/
def exceeds : Option Nat → Option Nat → Bool
  | some a, some b => decide (b < a)
  | _, _ => false

theorem exceeds_iff (running limit : Option Nat) : exceeds running limit = true ↔ ∃ a b, running = some a ∧ limit = some b ∧ b < a := by
  cases running <;> cases limit <;> simp [exceeds]

/-- A running work timer with its limit formed afresh, its overrun taken where the time exceeds the limit (R171, R172). -/
def WorkTimer.reformed (w : WorkTimer) (limit : Option Nat) : WorkTimer :=
  if w.running.isSome then
    { w with limit := limit, overrunTaken := w.overrunTaken || exceeds w.running limit }
  else w

theorem State.checkOverrun_work (s : State) {k : Nat} (h : k < s.ctm.work.length) : (s.checkOverrun k).work k = { s.work k with
    overrunTaken := (s.work k).overrunTaken || exceeds (s.work k).running (s.work k).limit } := by
  have raise : (s.raiseOverrun k).work k = { s.work k with overrunTaken := true } := by
    unfold State.raiseOverrun
    split
    · next e => rw [← e]
    · exact s.work_onWork_self _ h
  unfold State.checkOverrun
  generalize hw : s.work k = w at raise
  obtain ⟨running, limit, taken⟩ := w
  cases running with
  | none => simp [exceeds, hw]
  | some a =>
    cases limit with
    | none => simp [exceeds, hw]
    | some b => by_cases c : b < a <;> simp [exceeds, c, raise, hw]

theorem State.reformLimit_work (s : State) {k : Nat} (h : k < s.ctm.work.length) :
    (s.reformLimit k).work k = (s.work k).reformed (s.orderLimit k) := by
  unfold State.reformLimit WorkTimer.reformed
  split
  · have e := s.work_onWork_self (fun w => { w with limit := s.orderLimit k }) h
    rw [State.checkOverrun_work _ (by rwa [(s.onWork_direct k _).work]), e]
  · rfl

theorem State.checkOverrun_work_ne (s : State) {j k : Nat} (h : j ≠ k) : (s.checkOverrun k).work j = s.work j := by
  have raise : (s.raiseOverrun k).work j = s.work j := by
    unfold State.raiseOverrun
    split
    · rfl
    · exact s.work_onWork_ne _ h
  unfold State.checkOverrun
  split
  · split
    · exact raise
    · rfl
  · rfl

theorem State.reformLimit_work_ne (s : State) {j k : Nat} (h : j ≠ k) : (s.reformLimit k).work j = s.work j := by
  unfold State.reformLimit
  split
  · exact (State.checkOverrun_work_ne _ h).trans (s.work_onWork_ne _ h)
  · rfl

theorem State.expireLate_work (s : State) (k : Nat) : (s.expireLate k).ctm.work = s.ctm.work := by
  unfold State.expireLate
  split
  · split <;> rfl
  · rfl

/-- The limit of an order looks at the store alone. -/
theorem State.orderLimit_congr {s t : State} (h : t.rst = s.rst) (k : Nat) : t.orderLimit k = s.orderLimit k := by
  simp only [State.orderLimit, State.pos, State.tolerance, State.budget, h]

theorem State.directWritten_work (s : State) (hs : s.Shaped) {k : Nat} (hk : k < 16) :
    s.directWritten.work k = (s.work k).reformed (s.orderLimit k) := by
  obtain ⟨-, -, -, work, -, -⟩ := hs
  have late : s.directWritten.work k = s.reformLimits.work k :=
    foldl_keeps (f := State.expireLate) (g := (State.work · k)) (fun u j => by rw [State.work, u.expireLate_work]; rfl) _ _
  have each := foldl_pointwise (step := State.reformLimit) (s.DirectOnly ·) State.work (fun k w => w.reformed (s.orderLimit k))
    (fun u k h => h.trans (u.reformLimit_direct k))
    (fun u k hk h => by rw [u.reformLimit_work (by rw [h.work]; omega), State.orderLimit_congr h.rst])
    (fun u j k h => u.reformLimit_work_ne h) (List.range 16) List.nodup_range (fun x hx => List.mem_range.mp hx) s (.refl s) k
  rw [if_pos (List.mem_range.mpr hk)] at each
  rw [late, State.reformLimits, each]

/-! #### The start timers -/

/-- A start timer that has run for longer than the start timeout is stopped (R9). -/
def lateStopped (timeout : Nat) (a : Option Nat) : Option Nat := if ∃ v, a = some v ∧ timeout < v then none else a

theorem State.expireLate_cases (s : State) {x : Transfer} (hx : s.rst.transfer = some x) (k : Nat) :
    s.expireLate k = if ∃ v, s.startTimer k = some v ∧ x.startTimeout < v then s.expireStart k else s := by
  unfold State.expireLate
  rw [hx]
  cases s.startTimer k with
  | none => simp
  | some v => simp

theorem State.expireLate_startTimer (s : State) {x : Transfer} (hx : s.rst.transfer = some x) {k : Nat} (h : k < s.ctm.startTimers.length) :
    (s.expireLate k).startTimer k = lateStopped x.startTimeout (s.startTimer k) := by
  rw [s.expireLate_cases hx, lateStopped]
  split
  · exact s.startTimer_set_self none h
  · rfl

theorem State.expireLate_startTimer_ne (s : State) {j k : Nat} (h : j ≠ k) : (s.expireLate k).startTimer j = s.startTimer j := by
  unfold State.expireLate
  split
  · split
    · exact s.startTimer_set_ne none h
    · rfl
  · rfl

theorem State.expireLate_workList (s : State) {x : Transfer} (hx : s.rst.transfer = some x) (k : Nat) (w : WorkItem) :
    w ∈ (s.expireLate k).aar.workList ↔
      w ∈ s.aar.workList ∨ ∃ v, s.startTimer k = some v ∧ x.startTimeout < v ∧ w = .startExpiry k := by
  rw [s.expireLate_cases hx]
  split
  · next e =>
    obtain ⟨v, running, late⟩ := e
    have queued : (s.expireStart k).aar.workList = s.aar.workList ++ [.startExpiry k] := rfl
    rw [queued, List.mem_append, List.mem_singleton]
    exact or_congr_right ⟨fun e => ⟨v, running, late, e⟩, fun ⟨_, _, _, e⟩ => e⟩
  · next e => exact ⟨.inl, fun c => c.resolve_right fun ⟨v, running, late, _⟩ => e ⟨v, running, late⟩⟩

theorem State.foldl_expireLate_workList (xs : List Nat) (nodup : xs.Nodup) (s : State) {x : Transfer} (hx : s.rst.transfer = some x)
    (w : WorkItem) : w ∈ (xs.foldl State.expireLate s).aar.workList ↔
      w ∈ s.aar.workList ∨ ∃ k v, k ∈ xs ∧ s.startTimer k = some v ∧ x.startTimeout < v ∧ w = .startExpiry k := by
  induction xs generalizing s with
  | nil => simp
  | cons y ys ih =>
    obtain ⟨fresh, nodup⟩ := List.nodup_cons.mp nodup
    have same : ∀ k, k ∈ ys → (s.expireLate y).startTimer k = s.startTimer k :=
      fun k hk => s.expireLate_startTimer_ne fun e => fresh (e ▸ hk)
    rw [List.foldl_cons, ih nodup (s.expireLate y) (by rwa [State.expireLate_rst]), s.expireLate_workList hx, or_assoc]
    refine or_congr_right ⟨?_, ?_⟩
    · rintro (⟨v, running, late, e⟩ | ⟨k, v, hk, running, late, e⟩)
      · exact ⟨y, v, .head ys, running, late, e⟩
      · exact ⟨k, v, .tail y hk, same k hk ▸ running, late, e⟩
    · rintro ⟨k, v, hk, running, late, e⟩
      rcases List.mem_cons.mp hk with rfl | hk
      · exact .inl ⟨v, running, late, e⟩
      · exact .inr ⟨k, v, hk, (same k hk).trans running, late, e⟩

/-- Forming limits leaves the start timers and the work list. -/
theorem State.reformLimit_startTimers (s : State) (k : Nat) :
    ((s.reformLimit k).ctm.startTimers, (s.reformLimit k).aar) = (s.ctm.startTimers, s.aar) := by
  have raise : ∀ u : State, ((u.raiseOverrun k).ctm.startTimers, (u.raiseOverrun k).aar) = (u.ctm.startTimers, u.aar) := fun u => by
    unfold State.raiseOverrun
    split <;> rfl
  unfold State.reformLimit State.checkOverrun
  split
  · split
    · split
      · exact raise _
      · rfl
    · rfl
  · rfl

theorem State.foldl_reformLimit_startTimers (xs : List Nat) (s : State) :
    ((xs.foldl State.reformLimit s).ctm.startTimers, (xs.foldl State.reformLimit s).aar) = (s.ctm.startTimers, s.aar) :=
  foldl_keeps (g := fun u : State => (u.ctm.startTimers, u.aar)) State.reformLimit_startTimers xs s

/-- The start timers, and the expiries that join the work list. -/
theorem State.directWritten_startTimers (s : State) (hs : s.Shaped) {x : Transfer} (hx : s.rst.transfer = some x) :
    (∀ k, k < 16 → s.directWritten.startTimer k = lateStopped x.startTimeout (s.startTimer k)) ∧
      ∀ w, w ∈ s.directWritten.aar.workList ↔
        w ∈ s.aar.workList ∨ ∃ k v, k < 16 ∧ s.startTimer k = some v ∧ x.startTimeout < v ∧ w = .startExpiry k := by
  obtain ⟨-, -, startTimers, -, -, -⟩ := hs
  obtain ⟨timers, aar⟩ := Prod.mk.inj (s.foldl_reformLimit_startTimers (List.range 16))
  have store := s.reformLimits_rst
  rw [State.directWritten]
  rw [← State.reformLimits] at timers aar
  generalize s.reformLimits = u at *
  have before : ∀ k, u.startTimer k = s.startTimer k := fun k => by rw [State.startTimer, timers]; rfl
  rw [← timers] at startTimers
  rw [← store] at hx
  simp only [← before, ← aar]
  constructor
  · intro k hk
    rw [foldl_pointwise (step := State.expireLate) (u.DirectOnly ·) State.startTimer (fun _ => lateStopped x.startTimeout)
      (fun v k h => h.trans (v.expireLate_direct k))
      (fun v k hk h => v.expireLate_startTimer (by rwa [h.rst]) (by rw [h.startTimers]; omega))
      (fun v j k h => v.expireLate_startTimer_ne h) (List.range 16) List.nodup_range (fun x hx => List.mem_range.mp hx) u (.refl u) k,
      if_pos (List.mem_range.mpr hk)]
  · intro w
    simpa only [List.mem_range] using State.foldl_expireLate_workList (List.range 16) List.nodup_range u hx w

/-! ### SET TRANSFER (R8, R9) -/

/-- The state with other settings in the store. -/
def State.withTransfer (s : State) (z : Transfer) : State := s.onRst fun r => { r with transfer := some z }

theorem State.withTransfer_self {s : State} {x : Transfer} (h : s.rst.transfer = some x) : s.withTransfer x = s := by
  rw [State.withTransfer, ← h]
  rfl

theorem namesDirect_iff (xs : List (Nat × Int)) : namesDirect xs = true ↔ ∃ e, e ∈ xs ∧ (e.1 = 16 ∨ e.1 = 17) := by
  simp [namesDirect]

/-- Settings that R8 does not take are refused. -/
theorem State.setTransfer_refused {s : State} (tag : Byte) (hr : s.Ready .supl) {g : Geometry} {x : Transfer} {xs : List (Nat × Int)}
    (hg : s.rst.geometry = some g) (hx : s.rst.transfer = some x) (h : Transfer.writeAll g x xs = none) :
    exec (.setTransfer .supl tag xs) s = .next (s.answered .supl tag (.refused .range) []) := by
  refine State.grant_answers hr rfl ?_
  simp only [State.setTransfer, State.granted_rst, hg, hx, h]
  rfl

/-- What SET TRANSFER makes of settings that R8 takes. -/
theorem State.setTransfer_taken {s : State} {g : Geometry} {x z : Transfer} {xs : List (Nat × Int)} (hg : s.rst.geometry = some g)
    (hx : s.rst.transfer = some x) (h : Transfer.writeAll g x xs = some z) :
    s.setTransfer xs = (if namesDirect xs then (s.withTransfer z).directWritten else s.withTransfer z,
      { result := .ok, data := (s.withTransfer z).settingsBytes }) := by
  simp only [State.setTransfer, hg, hx, h, ok]
  split
  · have e : (s.withTransfer z).directWritten.settingsBytes = (s.withTransfer z).settingsBytes := by
      simp only [State.settingsBytes, State.directWritten_rst]
    rw [← e]
    rfl
  · rfl

/-- Settings of which none is direct are written, and nothing else happens (R8). -/
theorem State.setTransfer_staged {s : State} (tag : Byte) (hr : s.Ready .supl) {g : Geometry} {x z : Transfer} {xs : List (Nat × Int)}
    (hg : s.rst.geometry = some g) (hx : s.rst.transfer = some x) (h : Transfer.writeAll g x xs = some z)
    (staged : ∀ e, e ∈ xs → e.1 ≤ 15) :
    exec (.setTransfer .supl tag xs) s = .next ((s.withTransfer z).answered .supl tag .ok (s.withTransfer z).settingsBytes) := by
  have direct : ¬namesDirect xs = true := by
    rw [namesDirect_iff]
    rintro ⟨e, he, c⟩
    have := staged e he
    omega
  refine (s.grant_ready _ .supervisor .supl tag _ _ hr rfl).trans (congrArg _ ?_)
  rw [State.setTransfer_taken (s := s.granted _ _) hg hx h, if_neg direct]
  exact State.closeGrant_onRst _ _ _ _ _ (State.positions_content rfl rfl fun _ => rfl)

/-- The limit of position `k`'s order under a budget tolerance (R170, R171). -/
def State.limitUnder (s : State) (tolerance k : Nat) : Option Nat :=
  match (s.pos k).program with
  | some n => if (s.pos k).orderKind = .process ∨ (s.pos k).orderKind = .check then budgetLimit (some tolerance) (s.budget k n) else none
  | none => none

theorem State.orderLimit_withTransfer (s : State) (z : Transfer) (k : Nat) :
    (s.withTransfer z).orderLimit k = s.limitUnder z.budgetTolerance k := by
  have e : (s.withTransfer z).pos k = s.pos k := rfl
  unfold State.orderLimit State.limitUnder
  rw [e]
  cases (s.pos k).program with
  | none => cases (s.pos k).orderKind <;> rfl
  | some n => cases (s.pos k).orderKind <;> rfl

/-- A direct setting acts from the grant on: start timers that are late expire, the limits are formed afresh (R9). -/
structure State.ActsFrom (s t : State) (z : Transfer) : Prop where
  store : t.rst = (s.withTransfer z).rst
  startTimers : ∀ k, k < 16 → t.startTimer k = lateStopped z.startTimeout (s.startTimer k)
  work : ∀ k, k < 16 → t.work k = (s.work k).reformed (s.limitUnder z.budgetTolerance k)
  workList : ∀ w, w ∈ t.aar.workList ↔
    w ∈ s.aar.workList ∨ ∃ k a, k < 16 ∧ s.startTimer k = some a ∧ z.startTimeout < a ∧ w = .startExpiry k
  ixc : t.ixc = s.ixc
  btk : t.btk = s.btk
  wlu : t.wlu = s.wlu

theorem State.setTransfer_direct {s : State} (tag : Byte) (hr : s.Ready .supl) (hs : s.Shaped) {g : Geometry} {x z : Transfer}
    {xs : List (Nat × Int)} (hg : s.rst.geometry = some g) (hx : s.rst.transfer = some x) (h : Transfer.writeAll g x xs = some z)
    (direct : ∃ e, e ∈ xs ∧ (e.1 = 16 ∨ e.1 = 17)) :
    ∃ t, exec (.setTransfer .supl tag xs) s = .next t ∧ s.Answered t .supl tag .ok (s.withTransfer z).settingsBytes ∧ s.ActsFrom t z := by
  let c := Instr.setTransfer .supl tag xs
  have taken := State.setTransfer_taken (s := s.granted c .supl) hg hx h
  rw [if_pos ((namesDirect_iff xs).mpr direct)] at taken
  have hv : ((s.granted c .supl).withTransfer z).Shaped := hs
  have o := ((s.granted c .supl).withTransfer z).directWritten_direct
  have work := fun k (hk : k < 16) => ((s.granted c .supl).withTransfer z).directWritten_work hv (k := k) hk
  obtain ⟨timers, workList⟩ := ((s.granted c .supl).withTransfer z).directWritten_startTimers hv (x := z) rfl
  generalize ((s.granted c .supl).withTransfer z).directWritten = u at *
  obtain ⟨rst, ixc, btk, wlu, ctm, aar, -, -, -⟩ := State.closeGrant_blocks s u .supl tag
    { result := .ok, data := ((s.granted c .supl).withTransfer z).settingsBytes }
  refine ⟨_, (s.grant_ready c .supervisor .supl tag _ _ hr rfl).trans (by rw [taken]),
    State.closeGrant_answered hr.2.1 (i := c) (.of_links o.links) o.pointer o.pins o.pending, ?_⟩
  generalize State.closeGrant s .supl tag (u, _) = t at *
  constructor
  case store => exact rst.trans o.rst
  case startTimers =>
    intro k hk
    rw [State.startTimer, ctm]
    exact timers k hk
  case work =>
    intro k hk
    rw [← s.orderLimit_withTransfer z k, State.work, ctm]
    exact (work k hk).trans rfl
  case workList => exact fun w => aar ▸ workList w
  case ixc => exact ixc.trans o.ixc
  case btk => exact btk.trans o.btk
  case wlu => exact wlu.trans o.wlu

/-- A work timer whose limit is formed afresh (R171, R172). -/
theorem WorkTimer.reformed_spec (w : WorkTimer) (limit : Option Nat) :
    (w.reformed limit).running = w.running ∧ (w.reformed limit).limit = (if w.running.isSome = true then limit else w.limit) ∧
      ((w.reformed limit).overrunTaken = true ↔
        w.overrunTaken = true ∨ ∃ a b, w.running = some a ∧ (w.reformed limit).limit = some b ∧ b < a) := by
  unfold WorkTimer.reformed
  split
  · exact ⟨rfl, rfl, by rw [Bool.or_eq_true, exceeds_iff]⟩
  · next stopped =>
    refine ⟨rfl, rfl, .inl, fun h => h.resolve_right ?_⟩
    rintro ⟨a, b, running, -⟩
    exact stopped (by rw [running]; rfl)

/-! ### SET TARGET (R125) -/

theorem Geometry.tlo_le_thi {g : Geometry} (pitch : 1000 ≤ g.pitch) (low : 1 ≤ g.resolution) (high : g.resolution ≤ 64) : g.tlo ≤ g.thi := by
  have up := Int.mul_ediv_self_le (x := (g.pitch : Int) - (g.pitch : Int) / 4 + ((g.resolution : Int) - 1)) (k := g.resolution) (by omega)
  have down := Int.lt_mul_ediv_self_add (x := (g.pitch : Int) + (g.pitch : Int) / 4) (k := g.resolution) (by omega)
  unfold Geometry.tlo Geometry.thi
  omega

/-- A placed target is a multiple of Q between Tlo and Thi (R124). -/
theorem Geometry.place_placed {g : Geometry} (pitch : 1000 ≤ g.pitch) (low : 1 ≤ g.resolution) (high : g.resolution ≤ 64) (x : Int) :
    g.Placed (g.place x) := by
  refine ⟨?_, le_min (le_max_right _ _) (Geometry.tlo_le_thi pitch low high), min_le_right _ _⟩
  have q : (g.resolution : Int) ∣ g.quantize x := dvd_mul_right _ _
  have lo : (g.resolution : Int) ∣ g.tlo := dvd_mul_right _ _
  have hi : (g.resolution : Int) ∣ g.thi := dvd_mul_right _ _
  unfold Geometry.place
  rcases min_choice (max (g.quantize x) g.tlo) g.thi with e | e <;> rw [e]
  · rcases max_choice (g.quantize x) g.tlo with e | e <;> rwa [e]
  · exact hi

theorem State.setTarget_taken {s : State} (tag : Byte) (hr : s.Ready .supl) {g : Geometry} {x : Transfer} (hg : s.rst.geometry = some g)
    (hx : s.rst.transfer = some x) (v : Int) : exec (.setTarget .supl tag v) s =
      .next ((s.withTransfer { x with pending := { x.pending with target := g.place v } }).answered .supl tag .ok
        (i32 v ++ i32 (g.quantize v) ++ i32 (g.place v) ++ i32 x.working.target ++ i32 g.tlo ++ i32 g.thi)) := by
  refine (s.grant_ready _ .supervisor .supl tag _ _ hr rfl).trans (congrArg _ ?_)
  have placed : ∀ u : State, u.rst = s.rst → u.setTarget v = (u.withTransfer { x with pending := { x.pending with target := g.place v } },
      { result := .ok, data := i32 v ++ i32 (g.quantize v) ++ i32 (g.place v) ++ i32 x.working.target ++ i32 g.tlo ++ i32 g.thi }) := by
    intro u hu
    simp only [State.setTarget, State.setPendingTarget, State.working, State.withTransfer, State.onRst, hu, hg, hx, Option.map_some, ok]
  rw [placed (s.granted (.setTarget .supl tag v) .supl) rfl]
  exact State.closeGrant_onRst _ _ _ _ _ (State.positions_content rfl rfl fun _ => rfl)

/-- Settles O52: SET TRANSFER writes every named setting, clamped, or none, and a direct one acts at once; SET TARGET places. -/
theorem settingsAreClampedOrRefused : Obligations.SettingsAreClampedOrRefused := by
  intro tag s hr set refused
  refine ⟨fun absent => ⟨fun xs => ?_, fun v => ?_⟩, fun g x hg hx => ?_⟩
  · exact State.grant_answers hr rfl (by simp only [State.setTransfer, State.granted_rst, absent]; rfl)
  · exact State.grant_answers hr rfl (by simp only [State.setTarget, State.granted_rst, absent]; rfl)
  · intro with' stages clamp y q
    have one : ∀ i v z, i ≤ 15 → Transfer.write g x i v = some { x with pending := z } → stages i v z := fun i v z hi h =>
      State.setTransfer_staged tag hr hg hx (by rw [Transfer.writeAll_cons, h]; rfl) (by simpa using hi)
    have good : ∀ {xs : List (Nat × Int)}, (∀ e, e ∈ xs → 2 ≤ e.1 ∧ e.1 ≤ 17 ∧ (e.1 = 10 → e.2 = 1 ∨ e.2 = 2)) →
        ∀ e, e ∈ xs → ¬BadSetting e := fun h e he => by
      have := h e he
      unfold BadSetting
      omega
    refine ⟨?_, fun xs e he bad => ?_, fun xs staged => ?_, fun v => ?_, fun hs v => ?_, fun hs v => ?_, fun xs hs fits direct => ?_,
      fun v => ⟨State.setTarget_taken tag hr hg hx v, fun a b c => Geometry.place_placed a b c v⟩⟩
    · have e := State.setTransfer_staged tag hr hg hx (xs := []) rfl (by simp)
      rwa [State.withTransfer_self hx] at e
    · exact State.setTransfer_refused tag hr hg hx (Transfer.writeAll_bad g x he bad)
    · obtain ⟨z, hz, -⟩ := Transfer.writeAll_good g x (xs := xs) (good fun e he => by have := staged e he; omega)
      obtain ⟨working, startTimeout, budgetTolerance⟩ := Transfer.writeAll_keeps hz
      exact ⟨z, hz, working, startTimeout fun e he => by have := staged e he; omega,
        budgetTolerance fun e he => by have := staged e he; omega,
        State.setTransfer_staged tag hr hg hx hz fun e he => (staged e he).2.1⟩
    · exact ⟨one 2 v _ (by decide) rfl, one 3 v _ (by decide) rfl, one 4 v _ (by decide) rfl, one 5 v _ (by decide) rfl,
        one 6 v _ (by decide) rfl, one 7 v _ (by decide) rfl, one 8 v _ (by decide) rfl, one 9 v _ (by decide) rfl,
        one 10 1 _ (by decide) rfl, one 10 2 _ (by decide) rfl, one 11 v _ (by decide) rfl, one 12 v _ (by decide) rfl,
        one 13 v _ (by decide) rfl, one 14 v _ (by decide) rfl, one 15 v _ (by decide) rfl⟩
    · obtain ⟨t, ht, answered, acts⟩ := State.setTransfer_direct tag hr hs hg hx (xs := [(16, v)]) rfl ⟨_, .head _, .inl rfl⟩
      exact ⟨t, _, ht, answered, acts.store, acts.startTimers, acts.workList, acts.ixc, acts.btk, acts.wlu⟩
    · obtain ⟨t, ht, answered, acts⟩ := State.setTransfer_direct tag hr hs hg hx (xs := [(17, v)]) rfl ⟨_, .head _, .inr rfl⟩
      refine ⟨t, _, ht, answered, acts.store, acts.ixc, acts.btk, fun k hk => ?_⟩
      rw [acts.work k hk]
      exact WorkTimer.reformed_spec _ _
    · obtain ⟨z, hz, pending⟩ := Transfer.writeAll_good g x (good fits)
      obtain ⟨working, startTimeout, budgetTolerance⟩ := Transfer.writeAll_keeps hz
      obtain ⟨e, he, large⟩ := direct
      obtain ⟨t, ht, answered, acts⟩ := State.setTransfer_direct tag hr hs hg hx hz ⟨e, he, by have := fits e he; omega⟩
      refine ⟨z, t, hz, working, pending x rfl, ?_, ?_, startTimeout, budgetTolerance, ht, answered, acts.store,
        fun k hk => ⟨acts.startTimers k hk, ?_⟩, acts.workList, acts.ixc, acts.btk, acts.wlu⟩
      · rintro ys v zs rfl last
        exact Transfer.writeAll_last_startTimeout hz last
      · rintro ys v zs rfl last
        exact Transfer.writeAll_last_budgetTolerance hz last
      · rw [acts.work k hk]
        obtain ⟨running, limit, -⟩ := (s.work k).reformed_spec (s.limitUnder z.budgetTolerance k)
        exact ⟨running, limit⟩

end Sys2Proof.Machine
end

section
/-! SUPPORT. The record of a result (O41). -/

namespace Sys2Proof.Machine

/-! ### What a result does to a workpiece (R29, R32) -/

/-- Raising takes the more severe of the two (R28). -/
theorem severity_raise (d e : Disposition) : (d.raise e).severity = max d.severity e.severity := by
  unfold Disposition.raise
  split <;> omega

/-- A history has an entry of a position and pass exactly where the append rule finds one (R32). -/
theorem history_names_iff (h : List HistoryEntry) (k pass : Nat) :
    h.any (·.names k pass) = true ↔ ∃ g r v, HistoryEntry.outcome k g pass r v ∈ h := by
  rw [List.any_eq_true]
  constructor
  · rintro ⟨e, he, names⟩
    cases e with
    | lost => simp [HistoryEntry.names] at names
    | outcome k' g pass' r v =>
      obtain ⟨rfl, rfl⟩ : k' = k ∧ pass' = pass := by simpa [HistoryEntry.names] using names
      exact ⟨g, r, v, he⟩
  · rintro ⟨g, r, v, he⟩
    exact ⟨_, he, by simp [HistoryEntry.names]⟩

/-- The append rule keeps the history where it names the position and pass, and where it is full (R32). -/
theorem Workpiece.record_keeps (w : Workpiece) (k g : Nat) (r : HistoryResult) (v : Option Nat)
    (h : (∃ g' r' v', HistoryEntry.outcome k g' w.pass r' v' ∈ w.history) ∨ 28 ≤ w.history.length) :
    (w.record k g r v).history = w.history :=
  if_pos (by simpa only [Bool.or_eq_true, history_names_iff, decide_eq_true_eq] using h)

/-- The append rule adds one entry at the tail otherwise (R32). -/
theorem Workpiece.record_appends (w : Workpiece) (k g : Nat) (r : HistoryResult) (v : Option Nat)
    (h : ¬((∃ g' r' v', HistoryEntry.outcome k g' w.pass r' v' ∈ w.history) ∨ 28 ≤ w.history.length)) :
    (w.record k g r v).history = w.history ++ [.outcome k g w.pass r v] :=
  if_neg (by simpa only [Bool.or_eq_true, history_names_iff, decide_eq_true_eq] using h)

/-- A result raises the disposition to the one it implies (R29). -/
theorem Workpiece.record_severity (w : Workpiece) (k g : Nat) (r : HistoryResult) (v : Option Nat) :
    (w.record k g r v).disposition.severity = max w.disposition.severity
      (match r with
        | .done | .passed => 0
        | .incomplete | .missed => if w.pass = 1 then 1 else 3
        | .scrapped | .failed => 3
        | .abandoned => 2) := by
  cases r with
  | done | passed => exact (Nat.max_zero _).symm
  | scrapped | failed | abandoned => exact severity_raise _ _
  | incomplete | missed =>
    by_cases h : w.pass = 1
    · simp only [Workpiece.record, HistoryResult.implied, if_pos h]; exact severity_raise _ .rework
    · simp only [Workpiece.record, HistoryResult.implied, if_neg h]; exact severity_raise _ .reject

/-- Settles O41: one entry per position and pass while fewer than 28 stand, and the disposition raised in every case. -/
theorem resultsAreRecordedOncePerPass : Obligations.ResultsAreRecordedOncePerPass := by
  intro w k g r v named
  have severity := w.record_severity k g r v
  have raised : w.disposition.severity ≤ (w.record k g r v).disposition.severity := severity ▸ Nat.le_max_left _ _
  by_cases kept : named ∨ 28 ≤ w.history.length
  · have same := w.record_keeps k g r v kept
    exact ⟨.inl same, iff_of_true same kept, fun h => same ▸ h, raised, rfl, rfl, rfl, severity⟩
  · have longer := w.record_appends k g r v kept
    refine ⟨.inr longer, iff_of_false (by simp [longer]) kept, fun _ => ?_, raised, rfl, rfl, rfl, severity⟩
    have room : w.history.length < 28 := Nat.not_le.mp fun full => kept (.inr full)
    simpa [longer] using room

end Sys2Proof.Machine
end

section
/-! SUPPORT. The pallet requests (O54): the records after a slot is written, and the five requests. -/

namespace Sys2Proof.Machine

/-! ### The records of the slots -/

/-- A write of cells of a sound store leaves the state. -/
theorem State.rewriteCells_sound {s : State} (h : s.rst.errors = []) (cs : List Cell) : s.rewriteCells cs = s := by
  have e : s.rst.errors.filter (fun e => !cs.contains e.1) = s.rst.errors := by rw [h]; rfl
  rw [State.rewriteCells, State.onRst, e]

/-- A number without a record stands in no slot. -/
theorem State.find_slot_none {s : State} {n : Nat} (h : s.pallet n = none) :
    s.rst.slots.find? (fun o => o.any fun p => p.number == n) = none := by
  cases hf : s.rst.slots.find? fun o => o.any fun p => p.number == n with
  | none => rfl
  | some o =>
    have here := List.find?_some hf
    cases o with
    | none => simp at here
    | some p => simp [State.pallet, hf] at h

/-- A record that is put into a free slot, under a number that had none (R34). -/
theorem State.pallet_register {s : State} {i : Nat} {p : Pallet} (free : s.rst.slots[i]? = some none) (new : s.pallet p.number = none)
    (x : Nat) : (s.onRst fun r => { r with slots := r.slots.set i (some p) }).pallet x = if x = p.number then some p else s.pallet x := by
  obtain ⟨hi, here⟩ := List.getElem?_eq_some_iff.mp free
  have parts : s.rst.slots = s.rst.slots.take i ++ none :: s.rst.slots.drop (i + 1) := by
    rw [← here, List.getElem_cons_drop, List.take_append_drop]
  have absent := State.find_slot_none new
  rw [parts, List.find?_append, Option.or_eq_none_iff] at absent
  have before : s.pallet x = (((s.rst.slots.take i).find? fun o => o.any fun q => q.number == x).or
      ((s.rst.slots.drop (i + 1)).find? fun o => o.any fun q => q.number == x)).join := by
    conv_lhs => rw [State.pallet, parts, List.find?_append, List.find?_cons_of_neg (by simp)]
  rw [State.pallet, State.onRst_rst, List.set_eq_take_append_cons_drop, if_pos hi, List.find?_append]
  by_cases e : x = p.number
  · subst e
    rw [absent.1, List.find?_cons_of_pos (by simp), if_pos rfl]; rfl
  · rw [List.find?_cons_of_neg (by simpa using Ne.symm e), if_neg e, before]

/-- A record that is taken out of the table (R35). -/
theorem State.pallet_retire (s : State) (n x : Nat) :
    (s.onRst fun r => { r with slots := r.slots.map fun o => if o.any fun q => q.number == n then none else o }).pallet x =
      if x = n then none else s.pallet x := by
  have e : (fun o : Option Pallet => o.any fun p => p.number == x) ∘
      (fun o : Option Pallet => if o.any fun q => q.number == n then none else o) =
      fun o => if x = n then false else o.any fun p => p.number == x := by
    funext o
    cases o with
    | none => simp
    | some p => by_cases c : p.number = n <;> by_cases d : x = n <;> simp [c, d, Ne.symm]
  rw [State.pallet, State.onRst_rst, List.find?_map, e]
  by_cases d : x = n
  · have none_left : s.rst.slots.find? (fun _ => false) = none := List.find?_eq_none.mpr (by simp)
    simp [d, none_left]
  · simp only [if_neg d, State.pallet]
    cases hf : s.rst.slots.find? fun o => o.any fun p => p.number == x with
    | none => rfl
    | some o =>
      have away : ¬(o.any (fun q => q.number == n) = true) := by
        have here := List.find?_some hf
        cases o with
        | none => simp
        | some p =>
          have : p.number = x := by simpa using here
          simpa [this] using d
      simp [away]

/-- A registered pallet's record after an update of it. -/
theorem State.pallet_onPallet_of {s : State} {n : Nat} {p : Pallet} (hp : s.pallet n = some p) (f : Pallet → Pallet)
    (h : ∀ p, (f p).number = p.number) (x : Nat) : (s.onPallet n f).pallet x = if x = n then some (f p) else s.pallet x := by
  rw [s.pallet_onPallet n f h]
  split
  · next e => rw [e, hp]; rfl
  · rfl

/-- The lowest free slot, where there is one. -/
theorem State.freeSlotIndex_some {s : State} (h : ∃ o, o ∈ s.rst.slots ∧ o = none) :
    ∃ i, s.freeSlotIndex = some i ∧ s.rst.slots[i]? = some none := by
  obtain ⟨_, ho, rfl⟩ := h
  cases hf : s.freeSlotIndex with
  | none => simpa using List.findIdx?_eq_none_iff.mp hf none ho
  | some i =>
    obtain ⟨hi, free, -⟩ := List.findIdx?_eq_some_iff_getElem.mp hf
    exact ⟨i, rfl, by rw [List.getElem?_eq_getElem hi, Option.isNone_iff_eq_none.mp free]⟩

theorem State.freeSlotIndex_none {s : State} (h : ∀ o, o ∈ s.rst.slots → o.isSome = true) : s.freeSlotIndex = none :=
  List.findIdx?_eq_none_iff.mpr fun o ho => by simpa [Option.isSome_iff_ne_none] using h o ho

/-! ### Masks -/

/-- A fixture variant mask is bad where it is empty or names a member outside 1 to 8 (R34, R37). -/
theorem badVariants_iff (m : Mask) : badVariants m = true ↔ m = 0#16 ∨ ∃ v, v < 16 ∧ (v = 0 ∨ 8 < v) ∧ member m v = true := by
  have allowed : ∀ v, v < 16 → ((0x1FE#16).getLsbD v = false ↔ v = 0 ∨ 8 < v) := by decide
  have outside : (m &&& 0x1FE#16) ≠ m ↔ ∃ v, v < 16 ∧ (v = 0 ∨ 8 < v) ∧ member m v = true := by
    rw [ne_eq, BitVec.eq_of_getLsbD_eq_iff, not_forall]
    refine exists_congr fun v => ?_
    rw [Classical.not_imp]
    refine and_congr_right fun hv => ?_
    rw [← allowed v hv, BitVec.getLsbD_and, member]
    cases m.getLsbD v <;> simp
  rw [badVariants, Bool.or_eq_true, beq_iff_eq, bne_iff_ne, outside]

/-! ### Requests on a registered pallet (R35 to R38) -/

theorem State.atPallet_range (s : State) {n : Nat} (h : n = 0 ∨ 255 < n) (op : Pallet → State → State × Reply) :
    s.atPallet n op = refuse s .range := if_pos ((badNumber_iff n).mpr h)

theorem State.atPallet_unknown {s : State} {n : Nat} (h1 : 1 ≤ n) (h2 : n ≤ 255) (h : s.pallet n = none)
    (op : Pallet → State → State × Reply) : s.atPallet n op = refuse s .unknownPallet := by
  simp [State.atPallet, badNumber_of_range h1 h2, h]

theorem State.atPallet_known {s : State} {n : Nat} {p : Pallet} (h1 : 1 ≤ n) (h2 : n ≤ 255) (h : s.pallet n = some p)
    (op : Pallet → State → State × Reply) : s.atPallet n op = op p s := by
  simp [State.atPallet, badNumber_of_range h1 h2, h]

/-- A request answers OK, pallet `n`'s record becomes `o`, and no other state changes (R34 to R38). -/
def State.RecordBecomes (s : State) (out : Out) (tag : Byte) (n : Nat) (o : Option Pallet) : Prop :=
  ∃ slots data, out = .next ({ s with rst := { s.rst with slots := slots } }.answered .supl tag .ok data) ∧
    ∀ x, State.pallet { s with rst := { s.rst with slots := slots } } x = if x = n then o else s.pallet x

/-- A grant whose operation writes the slots alone: they are no part of the status content (R187), so that no STATUS frame is
posted. -/
theorem State.grant_writes_slots {s : State} {i : Instr} {tag : Byte} {cells : List (State → List Cell)} {op : State → State × Reply}
    {n : Nat} {o : Option Pallet} (f : List (Option Pallet) → List (Option Pallet)) (hr : s.Ready .supl)
    (after : ∀ x, (s.onRst fun r => { r with slots := f r.slots }).pallet x = if x = n then o else s.pallet x) (d : List Byte)
    (hop : op (s.granted i .supl) = ok ((s.granted i .supl).onRst fun r => { r with slots := f r.slots }) d) :
    s.RecordBecomes (s.grant i .supervisor .supl tag cells op) tag n o := by
  refine ⟨f s.rst.slots, d, ?_, after⟩
  rw [s.grant_ready i .supervisor .supl tag cells op hr rfl, hop]
  exact congrArg _ (State.closeGrant_onRst i .supl tag .ok d rfl)

/-- A grant whose operation updates the record that its request names. -/
theorem State.grant_updates_pallet {s : State} {i : Instr} {tag : Byte} {cells : List (State → List Cell)} {op : State → State × Reply}
    {n : Nat} {p : Pallet} (f : Pallet → Pallet) (hr : s.Ready .supl) (hp : s.pallet n = some p) (number : ∀ p, (f p).number = p.number)
    (d : List Byte) (hop : op (s.granted i .supl) = ok ((s.granted i .supl).onPallet n f) d) :
    s.RecordBecomes (s.grant i .supervisor .supl tag cells op) tag n (some (f p)) :=
  State.grant_writes_slots (fun slots : List (Option Pallet) => slots.map fun o : Option Pallet => o.map fun p : Pallet =>
    if p.number = n then f p else p) hr (State.pallet_onPallet_of hp f number) d hop

/-! ### The operations of the five requests -/

/-- REGISTER PALLET: its refusals in order, and the record in the lowest free slot (R34). -/
theorem State.registerPallet_cases (s : State) (n : Nat) (m : Mask) :
    (n = 0 ∨ 255 < n ∨ badVariants m = true → s.registerPallet n m = refuse s .range) ∧
    (1 ≤ n → n ≤ 255 → badVariants m = false →
      ((s.pallet n).isSome = true → s.registerPallet n m = refuse s .duplicate) ∧
      (s.pallet n = none → s.freeSlotIndex = none → s.registerPallet n m = refuse s .tableFull) ∧
      (s.pallet n = none → s.rst.errors = [] → ∀ i, s.freeSlotIndex = some i →
        let t := s.onRst fun r => { r with slots := r.slots.set i (some (Pallet.fresh n m)) }
        s.registerPallet n m = ok t (t.palletBody (Pallet.fresh n m)))) := by
  refine ⟨fun h => if_pos ?_, fun h1 h2 fit => ?_⟩
  · rw [Bool.or_eq_true, badNumber_iff]; tauto
  · have taken : ¬((badNumber n || badVariants m) = true) := by simp [badNumber_of_range h1 h2, fit]
    refine ⟨fun known => ?_, fun new full => ?_, fun new sound i free => ?_⟩ <;> rw [State.registerPallet, if_neg taken]
    · rw [if_pos known]
    · simp only [new, full]; rfl
    · simp only [new, free]
      rw [State.rewriteCells_sound (by exact sound)]; rfl

theorem State.retirePallet_refused {s : State} {n : Nat} {p : Pallet} (h : s.location n ≠ .out ∨ p.workpiece.isSome = true) :
    State.retirePallet n p s = refuse s .wrongState := if_pos (by rwa [Bool.or_eq_true, bne_iff_ne])

theorem State.retirePallet_taken {s : State} {n : Nat} {p : Pallet} (out : s.location n = .out) (bare : p.workpiece = none) :
    State.retirePallet n p s =
      ok (s.onRst fun r => { r with slots := r.slots.map fun o => if o.any fun q => q.number == n then none else o }) :=
  if_neg (by simp [out, bare])

theorem State.resetClamps_refused (s : State) (n : Nat) {m : Option Mask} {p : Pallet}
    (h : (∃ x, m = some x ∧ badVariants x = true) ∨ m = none ∧ p.damaged = true) :
    State.resetClamps n m p s = refuse s .range := by
  refine if_pos ?_
  obtain ⟨x, rfl, bad⟩ | ⟨rfl, damaged⟩ := h
  · simpa using bad
  · simpa using damaged

/-- A record whose clamps are reset, with the mask of the request where it names one (R37). -/
def Pallet.withClampsReset (m : Option Mask) (p : Pallet) : Pallet :=
  { p with clamps := 0, damaged := false, variants := m.getD p.variants }

theorem State.resetClamps_taken (s : State) (n : Nat) {m : Option Mask} {p : Pallet}
    (fit : ∀ x, m = some x → badVariants x = false) (sound : m = none → p.damaged = false) :
    ∃ d, State.resetClamps n m p s = ok (s.onPallet n (Pallet.withClampsReset m)) d := by
  refine ⟨_, if_neg ?_⟩
  cases m with
  | none => simp [sound rfl]
  | some x => simp [fit x rfl]

theorem State.setDisposition_cases (s : State) (n : Nat) (d : Disposition) (p : Pallet) :
    (p.workpiece = none → State.setDisposition n d p s = refuse s .wrongState) ∧
    (∀ w, p.workpiece = some w →
      (d = .rework ∧ w.pass = 2 → State.setDisposition n d p s = refuse s .range) ∧
      (¬(d = .rework ∧ w.pass = 2) → State.setDisposition n d p s = ok (s.onWorkpiece n fun w => { w with disposition := d }))) := by
  refine ⟨fun bare => by simp only [State.setDisposition, bare], fun w hw => ⟨fun h => ?_, fun h => ?_⟩⟩ <;>
    simp only [State.setDisposition, hw]
  · exact if_pos (by simpa using h)
  · exact if_neg (by simpa using h)

/-- Settles O54: the five pallet requests, their refusals in order and the one record each writes. -/
theorem palletRequestsWriteTheRecord : Obligations.PalletRequestsWriteTheRecord := by
  intro tag n s hr refused unfit becomes register dispose
  have unfit_iff : ∀ m, badVariants m = true ↔ unfit m := badVariants_iff
  have fits : ∀ {m}, ¬unfit m → badVariants m = false := fun h => Bool.eq_false_iff.mpr (mt (unfit_iff _).mp h)
  refine ⟨fun m => ?_, fun bad => ?_, fun h1 h2 unknown => ?_, State.grant_answers hr rfl rfl, fun p h1 h2 hp => ?_⟩
  · obtain ⟨range, inRange⟩ := (s.granted (.registerPallet .supl tag n m) .supl).registerPallet_cases n m
    refine ⟨fun h => State.grant_answers hr rfl (range (by rwa [unfit_iff])), fun h1 h2 fit => ?_⟩
    obtain ⟨duplicate, full, taken⟩ := inRange h1 h2 (fits fit)
    refine ⟨fun known => State.grant_answers hr rfl (duplicate known),
      fun new used => State.grant_answers hr rfl (full new (State.freeSlotIndex_none used)), fun new free => ?_⟩
    obtain ⟨i, index, here⟩ := State.freeSlotIndex_some free
    exact State.grant_writes_slots (fun slots => slots.set i (some (Pallet.fresh n m))) hr (State.pallet_register here new) _
      (taken new hr.1.2 i index)
  · refine ⟨State.grant_answers hr rfl (State.atPallet_range _ bad _), State.grant_answers hr rfl (State.atPallet_range _ bad _),
      fun m => State.grant_answers hr rfl (State.atPallet_range _ bad _), fun d => ?_⟩
    cases d with
    | none => exact State.grant_answers hr rfl rfl
    | some d => exact State.grant_answers hr rfl (State.atPallet_range _ bad _)
  · have answer := fun (i : Instr) op => State.atPallet_unknown (s := s.granted i .supl) h1 h2 unknown op
    exact ⟨State.grant_answers hr rfl (answer _ _), State.grant_answers hr rfl (answer _ _),
      fun m => State.grant_answers hr rfl (answer _ _), fun d => State.grant_answers hr rfl (answer (.setDisposition .supl tag n (some d)) _)⟩
  · have at_p := fun (i : Instr) op => State.atPallet_known (s := s.granted i .supl) h1 h2 hp op
    have clamps := fun m => (s.granted (.resetClamps .supl tag n m) .supl).resetClamps_taken n (m := m) (p := p)
    have disposes := fun d => (s.granted (.setDisposition .supl tag n (some d)) .supl).setDisposition_cases n d p
    refine ⟨fun h => ?_, fun out bare => ?_, ?_, fun m h => ?_, fun sound => ?_, fun x fit => ?_, fun bare d => ?_,
      fun w hw => ⟨fun second => ?_, fun d h => ?_⟩⟩
    · exact State.grant_answers hr rfl ((at_p _ _).trans (State.retirePallet_refused h))
    · exact State.grant_writes_slots _ hr (s.pallet_retire n) [] ((at_p _ _).trans (State.retirePallet_taken out bare))
    · exact State.grant_updates_pallet (fun p => { p with divert := true }) hr hp (fun _ => rfl) _ (at_p _ _)
    · exact State.grant_answers hr rfl ((at_p _ _).trans (State.resetClamps_refused _ n (by simpa only [unfit_iff] using h)))
    · obtain ⟨d, hop⟩ := clamps none nofun fun _ => sound
      have e : s.RecordBecomes (exec (.resetClamps .supl tag n none) s) tag n (some (p.withClampsReset none)) :=
        State.grant_updates_pallet _ hr hp (fun _ => rfl) d ((at_p _ _).trans hop)
      rwa [show p.withClampsReset none = { p with clamps := 0 } by simp [Pallet.withClampsReset, sound]] at e
    · obtain ⟨d, hop⟩ := clamps (some x) (by rintro _ ⟨⟩; exact fits fit) nofun
      exact State.grant_updates_pallet (Pallet.withClampsReset (some x)) hr hp (fun _ => rfl) d ((at_p _ _).trans hop)
    · exact State.grant_answers hr rfl ((at_p _ _).trans ((disposes d).1 bare))
    · exact State.grant_answers hr rfl ((at_p _ _).trans (((disposes .rework).2 w hw).1 ⟨rfl, second⟩))
    · have hop := ((disposes d).2 w hw).2 (by tauto)
      have e : s.RecordBecomes (exec (.setDisposition .supl tag n (some d)) s) tag n
          (some { p with workpiece := p.workpiece.map fun w => { w with disposition := d } }) :=
        State.grant_updates_pallet (fun p => { p with workpiece := p.workpiece.map fun w => { w with disposition := d } }) hr hp
          (fun _ => rfl) [] ((at_p _ _).trans hop)
      rwa [hw] at e

end Sys2Proof.Machine
end

section
/-! SUPPORT. The writes of the advance (O21, O22): the pallet that leaves, the shift, and the steps that give the positions their orders. -/

namespace Sys2Proof.Machine

/-! ### The pallet that leaves position N−1 (R24, R56) -/

/-- The pallet that leaves: its record, the return queue and MAINTENANCE_OUT. -/
theorem State.sendAway_leaver {s : State} (line : s.count ≠ 0) {n : Nat} {p : Pallet} (here : s.palletAt (s.count - 1) = some n)
    (hp : s.pallet n = some p) :
    s.sendAway.pallet n = some (if p.divert = true ∨ s.maintenanceDue p = true then { p with divert := false } else p) ∧
      s.sendAway.rst.returnQueue =
        (if p.divert = true ∨ s.maintenanceDue p = true then s.rst.returnQueue else s.rst.returnQueue ++ [n]) ∧
      (s.maintenanceDue p = true → s.sendAway.liu.attentions.maintenanceOut = some n) := by
  obtain rfl := s.pallet_number hp
  have found : (if s.count = 0 then none else s.palletAt (s.count - 1)).bind s.pallet = some p := by simp [line, here, hp]
  have cleared := State.pallet_onPallet_of hp (fun q => { q with divert := false }) (fun _ => rfl) p.number
  simp only [State.sendAway, found, State.leavesLine, Bool.or_eq_true]
  by_cases out : p.divert = true ∨ s.maintenanceDue p = true
  · rw [if_pos out, if_pos out, if_pos out]
    rw [if_pos rfl] at cleared
    by_cases due : s.maintenanceDue p = true
    · rw [if_pos due]; exact ⟨cleared, rfl, fun _ => rfl⟩
    · rw [if_neg due]; exact ⟨cleared, rfl, fun h => absurd h due⟩
  · rw [if_neg out, if_neg out, if_neg out]
    exact ⟨hp, rfl, fun due => absurd (.inr due) out⟩

/-- Without a pallet at N−1 nothing leaves. -/
theorem State.sendAway_empty {s : State} (h : s.palletAt (s.count - 1) = none) : s.sendAway = s := by
  simp [State.sendAway, h]

/-- The leaving of a pallet changes its record, the return queue and MAINTENANCE_OUT, and nothing else. -/
theorem State.sendAway_frame {s : State} (sound : s.rst.errors = []) : ∃ slots queue out,
    s.sendAway = { s with
      rst := { s.rst with slots := slots, returnQueue := queue }
      liu := { s.liu with attentions := { s.liu.attentions with maintenanceOut := out } } } := by
  unfold State.sendAway
  split
  · exact ⟨_, _, _, rfl⟩
  · next p _ =>
    dsimp only
    split_ifs
    · exact ⟨_, _, _, rfl⟩
    · exact ⟨_, _, _, rfl⟩
    · rw [State.rewriteCells_sound (by exact sound)]; exact ⟨_, _, _, rfl⟩

/-- The record of a pallet that does not stand at N−1 is not changed by the leaving. -/
theorem State.sendAway_pallet_other {s : State} {n : Nat} (h : s.palletAt (s.count - 1) ≠ some n) :
    s.sendAway.pallet n = s.pallet n := by
  unfold State.sendAway
  split
  · rfl
  · next p hp =>
    obtain ⟨m, hm, hp⟩ := Option.bind_eq_some_iff.mp hp
    obtain rfl := s.pallet_number hp
    have away : n ≠ p.number := by
      rintro rfl
      split at hm
      · cases hm
      · exact h hm
    have kept := s.pallet_onPallet p.number (fun q => { q with divert := false }) (fun _ => rfl) n
    rw [if_neg away] at kept
    dsimp only
    split_ifs
    · exact kept
    · exact kept
    · rfl

/-! ### The shift (R57) -/

/-- A position after the shift. -/
theorem State.pos_shift (s : State) {k : Nat} (hk : k < s.rst.positions.length) : s.shift.pos k = if s.count ≤ k then s.pos k else
    { s.pos k with occupant := if k = 0 then .empty else (s.pos (k - 1)).occupant } := getD_mapIdx _ _ _ _ _ hk

theorem State.pos_shift_outside (s : State) {k : Nat} (hk : s.count ≤ k) : s.shift.pos k = s.pos k := by
  by_cases h : k < s.rst.positions.length
  · rw [s.pos_shift h, if_pos hk]
  · simp [State.pos, State.shift, Nat.not_lt.mp h]

/-! ### What the issue of orders changes -/

/-- The orders of an advance change positions, order details, pallet records, start timers and links, and nothing else. -/
structure State.IssuesOrders (s t : State) : Prop where
  store : ∃ m ps ds, t.rst = { s.rst with slots := m, positions := ps, details := ds }
  timers : ∃ xs, t.ctm = { s.ctm with startTimers := xs }
  links : ∃ ls, t.liu = { s.liu with links := ls }
  positions : t.rst.positions.length = s.rst.positions.length
  details : t.rst.details.length = s.rst.details.length
  startTimers : t.ctm.startTimers.length = s.ctm.startTimers.length
  linkCount : t.liu.links.length = s.liu.links.length
  ixc : t.ixc = s.ixc
  btk : t.btk = s.btk
  wlu : t.wlu = s.wlu
  aar : t.aar = s.aar
  pins : t.pins = s.pins
  pending : t.pending = s.pending

theorem State.IssuesOrders.refl (s : State) : s.IssuesOrders s :=
  ⟨⟨_, _, _, rfl⟩, ⟨_, rfl⟩, ⟨_, rfl⟩, rfl, rfl, rfl, rfl, rfl, rfl, rfl, rfl, rfl, rfl⟩

theorem State.IssuesOrders.trans {s t u : State} (a : s.IssuesOrders t) (b : t.IssuesOrders u) : s.IssuesOrders u := by
  obtain ⟨m, ps, ds, ha⟩ := a.store
  obtain ⟨m', ps', ds', hb⟩ := b.store
  obtain ⟨xs, hx⟩ := a.timers
  obtain ⟨ys, hy⟩ := b.timers
  obtain ⟨ls, hl⟩ := a.links
  obtain ⟨ks, hk⟩ := b.links
  exact ⟨⟨m', ps', ds', by rw [hb, ha]⟩, ⟨ys, by rw [hy, hx]⟩, ⟨ks, by rw [hk, hl]⟩, b.positions.trans a.positions,
    b.details.trans a.details, b.startTimers.trans a.startTimers, b.linkCount.trans a.linkCount, b.ixc.trans a.ixc, b.btk.trans a.btk,
    b.wlu.trans a.wlu, b.aar.trans a.aar, b.pins.trans a.pins, b.pending.trans a.pending⟩

theorem State.IssuesOrders.foldl {f : State → Nat → State} (h : ∀ u k, State.IssuesOrders u (f u k)) (xs : List Nat) (s : State) :
    s.IssuesOrders (xs.foldl f s) := by
  induction xs generalizing s with
  | nil => exact .refl s
  | cons x xs ih => exact (h s x).trans (ih _)

/-- The end of an order with its timers as they were is no more than an issue changes. -/
theorem State.OrdersOnly.issues {s t : State} (h : s.OrdersOnly t) (same : t.ctm = s.ctm) : s.IssuesOrders t :=
  ⟨h.store, ⟨_, same⟩, ⟨_, h.liu⟩, h.positions, h.details, h.startTimers, by rw [h.liu], h.ixc, h.btk, h.wlu, h.aar, h.pins, h.pending⟩

theorem State.setStartTimer_issues (s : State) (k : Nat) (t : Option Nat) : s.IssuesOrders (s.setStartTimer k t) :=
  ⟨⟨_, _, _, rfl⟩, ⟨_, rfl⟩, ⟨_, rfl⟩, rfl, rfl, by simp [State.setStartTimer], rfl, rfl, rfl, rfl, rfl, rfl, rfl⟩

theorem State.postOrder_issues (s : State) (k : Nat) : s.IssuesOrders (s.postOrder k) :=
  ⟨⟨_, _, _, rfl⟩, ⟨_, rfl⟩, ⟨_, rfl⟩, rfl, rfl, rfl, s.onLink_length _ _, rfl, rfl, rfl, rfl, rfl, rfl⟩

/-- The order written to a position and its detail, before its start timer is set (R76). -/
def State.enterOrder (s : State) (k number : Nat) (kind : OrderKind) (program : Option Nat) (i : Option Instruction) : State :=
  let fresh := kind == .noOrder
  ((s.writeOrder k number kind program i).onPos k
      fun p => { p with phase := if fresh then .idle else .ordered, faultCode := none }).onDetail k
      fun d => { d with closing := if fresh then .noOrder else .opened, resultTaken := none }

theorem State.issueOrder_eq (s : State) (k number : Nat) (kind : OrderKind) (program : Option Nat) (i : Option Instruction) :
    s.issueOrder k number kind program i =
      (s.enterOrder k number kind program i).setStartTimer k (if kind.timed then some 0 else none) := rfl

/-- The MISSED entry that a block takes at a BYPASS position where it would have been ordered (R78). -/
def State.noteMissed (s : State) (k : Nat) : State :=
  match s.orderDecision k with
  | none => s
  | some g => s.recordResult k g .missed none

theorem State.noteMissed_orders (s : State) (k : Nat) : s.OrdersOnly (s.noteMissed k) := by
  unfold State.noteMissed
  cases s.orderDecision k with
  | none => exact .refl s
  | some g => exact s.recordResult_orders k g _ _

theorem State.noteMissed_same (s : State) (k j : Nat) :
    (s.noteMissed k).pos j = s.pos j ∧ (s.noteMissed k).detail j = s.detail j ∧ (s.noteMissed k).ctm = s.ctm := by
  unfold State.noteMissed
  cases s.orderDecision k with
  | none => exact ⟨rfl, rfl, rfl⟩
  | some g => exact s.recordResult_same k g _ _ j

/-- A BYPASS position is given the empty order after its block has taken a MISSED entry (R57, R78). -/
theorem State.passBypass_eq (s : State) (k : Nat) :
    s.passBypass k = (s.noteMissed k).enterOrder k ((s.noteMissed k).nextNumber k) .noOrder none none := rfl

/-! ### The order that the advance gives a position -/

/-- An order's kind, program and instruction. -/
structure GivenOrder where
  kind : OrderKind
  program : Option Nat
  instruction : Option Instruction

/-- The order of kind NONE. -/
def GivenOrder.rest : GivenOrder := { kind := .noOrder, program := none, instruction := none }

/-- The order of a PROCESS or CHECK position by the decision of R77. -/
def GivenOrder.ofProgram (kind : OrderKind) : Option Nat → GivenOrder
  | none => .rest
  | some g => { kind := kind, program := some g, instruction := none }

/-- The order of an UNLOAD position by the decision of R113. -/
def GivenOrder.ofUnload : Option Instruction → GivenOrder
  | none => .rest
  | some i => { kind := .unload, program := none, instruction := some i }

/-- The order that the advance gives a position in the line (R57, R77, R102, R113). -/
def State.nextOrder (s : State) (k : Nat) : GivenOrder :=
  match (s.pos k).mode, (s.pos k).kind with
  | .active, .load => { kind := .feed, program := none, instruction := none }
  | .active, .unload => .ofUnload (s.unloadDecision k)
  | .active, .process => .ofProgram .process (s.orderDecision k)
  | .active, .check => .ofProgram .check (s.orderDecision k)
  | .active, .unused | .bypass, _ => .rest

/-- A position's entry with a new order (R57, R76). -/
def Position.given (p : Position) (o : GivenOrder) : Position :=
  { p with orderNumber := (p.orderNumber + 1) % 256, orderKind := o.kind, program := o.program, instruction := o.instruction
           phase := if o.kind == .noOrder then .idle else .ordered, faultCode := none }

/-- An order detail record with a new order (R75, R76). -/
def OrderDetail.given (d : OrderDetail) (number : Nat) (o : GivenOrder) : OrderDetail :=
  { d with copyNumber := number, copyKind := o.kind, closing := if o.kind == .noOrder then .noOrder else .opened, resultTaken := none }

/-- An ACTIVE position is issued the order that its decision gives. -/
theorem State.issueNext_eq {s : State} {k : Nat} (active : (s.pos k).mode = .active) (used : (s.pos k).kind ≠ .unused) :
    s.issueNext k =
      s.issueOrder k (s.nextNumber k) (s.nextOrder k).kind (s.nextOrder k).program (s.nextOrder k).instruction := by
  unfold State.issueNext State.nextOrder
  rw [active]
  cases kind : (s.pos k).kind with
  | load => rfl
  | unload => cases s.unloadDecision k <;> rfl
  | process | check => cases s.orderDecision k <;> rfl
  | unused => exact absurd kind used

theorem State.enterOrder_orders (s : State) (k n : Nat) (o : OrderKind) (g : Option Nat) (i : Option Instruction) :
    s.OrdersOnly (s.enterOrder k n o g i) :=
  (s.writeOrder_orders k n o g i).trans ((State.onPos_orders _ k _).trans (State.onDetail_orders _ k _))

theorem State.enterOrder_elsewhere (s : State) (k n : Nat) (o : OrderKind) (g : Option Nat) (i : Option Instruction) :
    s.SameElsewhere (s.enterOrder k n o g i) k :=
  (s.writeOrder_elsewhere k n o g i).trans ((State.onPos_elsewhere _ k _).trans (State.onDetail_elsewhere _ k _))

/-- The position and its detail after its order number has risen with a new order. -/
theorem State.enterOrder_at (s : State) {k : Nat} (o : GivenOrder) (h : k < s.rst.positions.length) (hd : k < s.rst.details.length) :
    (s.enterOrder k (s.nextNumber k) o.kind o.program o.instruction).pos k = (s.pos k).given o ∧
      (s.enterOrder k (s.nextNumber k) o.kind o.program o.instruction).detail k = (s.detail k).given (s.nextNumber k) o := by
  let w := s.writeOrder k (s.nextNumber k) o.kind o.program o.instruction
  have ow : s.OrdersOnly w := s.writeOrder_orders k _ _ _ _
  obtain ⟨p, d⟩ := s.writeOrder_at (s.nextNumber k) o.kind o.program o.instruction h hd
  have x := w.pos_onPos_self (k := k) (fun p => { p with phase := if o.kind == .noOrder then .idle else .ordered, faultCode := none })
    (by rwa [ow.positions])
  have y := State.detail_onDetail_self (w.onPos k fun p => { p with phase := if o.kind == .noOrder then .idle else .ordered, faultCode := none })
    (k := k) (fun d => { d with closing := if o.kind == .noOrder then .noOrder else .opened, resultTaken := none })
    (by rw [State.onPos_details]; rwa [ow.details])
  rw [p] at x
  rw [State.onPos_detail, d] at y
  exact ⟨x, y⟩

/-! ### One position's step of the advance -/

theorem State.setStartTimer_elsewhere (s : State) (k : Nat) (t : Option Nat) : s.SameElsewhere (s.setStartTimer k t) k := fun _ hj =>
  ⟨rfl, rfl, rfl, s.startTimer_set_ne t hj⟩

/-- The three courses of a step: a position outside the line, an ACTIVE one and one in BYPASS. -/
theorem State.orderNext_outside {s : State} {k : Nat} (h : s.count ≤ k) : s.orderNext k = s := if_pos h

theorem State.orderNext_active {s : State} {k : Nat} (h : k < s.count) (active : (s.pos k).mode = .active) :
    s.orderNext k = if ((s.issueNext k).pos k).joined.isSome then (s.issueNext k).postOrder k else s.issueNext k := by
  rw [State.orderNext, if_neg (by omega), if_pos (by simpa [State.active] using active)]

theorem State.orderNext_bypass {s : State} {k : Nat} (h : k < s.count) (bypass : (s.pos k).mode = .bypass) :
    s.orderNext k = s.passBypass k := by
  rw [State.orderNext, if_neg (by omega), if_neg (by simp [State.active, bypass])]

theorem State.issueOrder_issues (s : State) (k n : Nat) (o : OrderKind) (g : Option Nat) (i : Option Instruction) :
    s.IssuesOrders (s.issueOrder k n o g i) := by
  rw [s.issueOrder_eq]
  exact ((s.enterOrder_orders k n o g i).issues rfl).trans (State.setStartTimer_issues _ k _)

/-- What the step of an ACTIVE position does, whatever its kind: it issues some order, or, where it is UNUSED, none. -/
theorem State.issueNext_cases (s : State) (k : Nat) : s.issueNext k = s ∨ ∃ n o g i, s.issueNext k = s.issueOrder k n o g i := by
  unfold State.issueNext
  dsimp only
  cases (s.pos k).kind with
  | load => exact .inr ⟨_, _, _, _, rfl⟩
  | unload => cases s.unloadDecision k <;> exact .inr ⟨_, _, _, _, rfl⟩
  | process | check => cases s.orderDecision k <;> exact .inr ⟨_, _, _, _, rfl⟩
  | unused => exact .inl rfl

theorem State.issueNext_issues (s : State) (k : Nat) : s.IssuesOrders (s.issueNext k) := by
  obtain e | ⟨n, o, g, i, e⟩ := s.issueNext_cases k <;> rw [e]
  · exact .refl s
  · exact s.issueOrder_issues k n o g i

theorem State.passBypass_issues (s : State) (k : Nat) : s.IssuesOrders (s.passBypass k) := by
  rw [s.passBypass_eq]
  exact ((s.noteMissed_orders k).issues (s.noteMissed_same k k).2.2).trans ((State.enterOrder_orders _ k _ _ _ _).issues rfl)

theorem State.orderNext_issues (s : State) (k : Nat) : s.IssuesOrders (s.orderNext k) := by
  unfold State.orderNext
  dsimp only
  split_ifs
  · exact .refl s
  · exact (s.issueNext_issues k).trans (State.postOrder_issues _ k)
  · exact s.issueNext_issues k
  · exact s.passBypass_issues k

theorem State.issueOrder_elsewhere (s : State) (k n : Nat) (o : OrderKind) (g : Option Nat) (i : Option Instruction) :
    s.SameElsewhere (s.issueOrder k n o g i) k := by
  rw [s.issueOrder_eq]
  exact (s.enterOrder_elsewhere k n o g i).trans (State.setStartTimer_elsewhere _ k _)

theorem State.issueNext_elsewhere (s : State) (k : Nat) : s.SameElsewhere (s.issueNext k) k := by
  obtain e | ⟨n, o, g, i, e⟩ := s.issueNext_cases k <;> rw [e]
  · exact .refl s k
  · exact s.issueOrder_elsewhere k n o g i

theorem State.issueNext_pallet (s : State) (k n : Nat) : (s.issueNext k).pallet n = s.pallet n := by
  obtain e | ⟨m, o, g, i, e⟩ := s.issueNext_cases k
  · rw [e]
  · rw [e]; rfl

theorem State.issueNext_links (s : State) (k : Nat) : (s.issueNext k).liu = s.liu := by
  obtain e | ⟨n, o, g, i, e⟩ := s.issueNext_cases k
  · rw [e]
  · rw [e]; rfl

theorem State.noteMissed_elsewhere (s : State) (k : Nat) : s.SameElsewhere (s.noteMissed k) k := fun j _ => by
  obtain ⟨p, d, c⟩ := s.noteMissed_same k j
  exact ⟨p, d, by rw [State.work, c]; rfl, by rw [State.startTimer, c]; rfl⟩

/-- A step writes its own position alone. -/
theorem State.orderNext_elsewhere (s : State) (k : Nat) : s.SameElsewhere (s.orderNext k) k := by
  unfold State.orderNext
  dsimp only
  split_ifs
  · exact .refl s k
  · exact (s.issueNext_elsewhere k).trans fun _ _ => ⟨rfl, rfl, rfl, rfl⟩
  · exact s.issueNext_elsewhere k
  · rw [s.passBypass_eq]; exact (s.noteMissed_elsewhere k).trans (State.enterOrder_elsewhere _ k _ _ _ _)

/-- Position `k` has an entry in the tables that an order writes. -/
structure State.HasEntry (s : State) (k : Nat) : Prop where
  position : k < s.rst.positions.length
  detail : k < s.rst.details.length
  startTimer : k < s.ctm.startTimers.length

theorem State.HasEntry.of_issues {s t : State} {k : Nat} (h : s.HasEntry k) (issues : s.IssuesOrders t) : t.HasEntry k :=
  ⟨issues.positions ▸ h.position, issues.details ▸ h.detail, issues.startTimers ▸ h.startTimer⟩

/-- The position of a step: its entry, its order detail and its start timer. -/
theorem State.orderNext_at {s : State} {k : Nat} (line : k < s.count) (used : s.unused k = false) (h : s.HasEntry k) :
    (s.orderNext k).pos k = (s.pos k).given (s.nextOrder k) ∧
      (s.orderNext k).detail k = (s.detail k).given (s.nextNumber k) (s.nextOrder k) ∧
      ((s.pos k).mode = .active → (s.orderNext k).startTimer k = if (s.nextOrder k).kind.timed then some 0 else none) := by
  cases mode : (s.pos k).mode with
  | active =>
    have e : ∀ t, t = s.issueNext k ∨ t = (s.issueNext k).postOrder k → t.pos k = (s.pos k).given (s.nextOrder k) ∧
        t.detail k = (s.detail k).given (s.nextNumber k) (s.nextOrder k) ∧
        t.startTimer k = if (s.nextOrder k).kind.timed then some 0 else none := by
      rw [State.issueNext_eq mode (by simpa [State.unused] using used), s.issueOrder_eq]
      obtain ⟨p, d⟩ := s.enterOrder_at (s.nextOrder k) h.position h.detail
      rintro t (rfl | rfl) <;> exact ⟨p, d, State.startTimer_set_self _ _ h.startTimer⟩
    rw [State.orderNext_active line mode]
    obtain ⟨p, d, x⟩ := e (if ((s.issueNext k).pos k).joined.isSome then (s.issueNext k).postOrder k else s.issueNext k)
      (by split <;> simp)
    exact ⟨p, d, fun _ => x⟩
  | bypass =>
    rw [State.orderNext_bypass line mode, s.passBypass_eq]
    have o := s.noteMissed_orders k
    obtain ⟨same_pos, same_detail, -⟩ := s.noteMissed_same k k
    have rest : s.nextOrder k = .rest := by rw [State.nextOrder, mode]
    obtain ⟨p, d⟩ := (s.noteMissed k).enterOrder_at (k := k) .rest (o.positions ▸ h.position) (o.details ▸ h.detail)
    rw [State.nextNumber, same_pos] at d
    refine ⟨p.trans (by rw [same_pos, rest]), Eq.trans ?_ (d.trans (by rw [same_detail, rest]; rfl)), nofun⟩
    rw [State.nextNumber, same_pos]; rfl

/-- The record of a pallet after position `k`'s step: a block in BYPASS that would have been ordered takes a MISSED entry (R78). -/
def State.afterPass (s : State) (k n : Nat) : Option Pallet :=
  if k < s.count ∧ (s.pos k).mode = .bypass ∧ s.palletAt k = some n then
    (s.orderDecision k).elim (s.pallet n) fun g =>
      (s.pallet n).map fun p => { p with workpiece := p.workpiece.map fun w => w.record k g .missed none }
  else s.pallet n

theorem State.orderNext_pallet (s : State) (k n : Nat) : (s.orderNext k).pallet n = s.afterPass k n := by
  unfold State.afterPass
  by_cases line : k < s.count
  · cases mode : (s.pos k).mode with
    | active =>
      rw [if_neg (by simp), s.orderNext_active line mode, ← s.issueNext_pallet k n]
      split <;> rfl
    | bypass =>
      have e : (s.orderNext k).pallet n = (s.noteMissed k).pallet n := by rw [s.orderNext_bypass line mode]; rfl
      rw [e, State.noteMissed]
      cases s.orderDecision k with
      | none => simp
      | some g => simpa [line] using s.pallet_recordResult k g .missed none n
  · rw [s.orderNext_outside (by omega), if_neg (by tauto)]

theorem State.afterPass_of_ne {s : State} {k n : Nat} (h : s.palletAt k ≠ some n) : s.afterPass k n = s.pallet n := by
  simp [State.afterPass, h]

theorem State.afterPass_active {s : State} {k : Nat} (h : (s.pos k).mode = .active) (n : Nat) : s.afterPass k n = s.pallet n := by
  simp [State.afterPass, h]

theorem State.orderNext_palletAt (s : State) (k j : Nat) : (s.orderNext k).palletAt j = s.palletAt j := by
  rw [State.palletAt_eq_places, State.orderNext_places, ← State.palletAt_eq_places]

/-- No step changes a divert flag. -/
theorem State.orderNext_divert (s : State) (k n : Nat) :
    ((s.orderNext k).pallet n).map (·.divert) = (s.pallet n).map (·.divert) := by
  rw [s.orderNext_pallet, State.afterPass]
  split
  · cases s.orderDecision k with
    | none => rfl
    | some g => cases s.pallet n <;> rfl
  · rfl

/-! #### The ORDER frames (R93) -/

theorem link_at_injective {i j : Nat} (hi : i < 16) (hj : j < 16) (h : Link.at i = Link.at j) : i = j := by
  simpa [Link.at, hi, hj] using h

/-- A step posts to its own station alone. -/
theorem State.orderNext_link_ne (s : State) {k : Nat} {l : Link} (h : l ≠ Link.at k) : (s.orderNext k).link l = s.link l := by
  have issued : (s.issueNext k).link l = s.link l := by rw [State.link, s.issueNext_links]; rfl
  unfold State.orderNext
  dsimp only
  split_ifs
  · rfl
  · exact (State.link_onLink_ne _ _ h).trans issued
  · exact issued
  · rw [s.passBypass_eq, State.link, ((s.noteMissed_orders k).trans (State.enterOrder_orders _ k _ _ _ _)).liu]; rfl

/-- A joined ACTIVE station in the line is sent its order. -/
theorem State.orderNext_posts {s : State} {k : Nat} (links : s.liu.links.length = 18) (line : k < s.count)
    (active : (s.pos k).mode = .active) (used : s.unused k = false) (joined : (s.pos k).joined.isSome = true) (h : s.HasEntry k) :
    ((s.orderNext k).link (Link.at k)).unsolicited = some (.order ((s.orderNext k).orderFrame k)) := by
  have e := (s.orderNext_at line used h).1
  have course := s.orderNext_active line active
  split at course
  · rw [course, State.postOrder, State.post, State.link_onLink_self _ _ _ (by rw [s.issueNext_links, links])]; rfl
  · next left =>
    rw [course] at e
    rw [e] at left
    exact absurd joined left

/-- No other station is sent an order. -/
theorem State.orderNext_silent {s : State} {k : Nat} (used : k < s.count → s.unused k = false) (h : s.HasEntry k)
    (rest : s.count ≤ k ∨ (s.pos k).mode = .bypass ∨ (s.pos k).joined = none) :
    (s.orderNext k).link (Link.at k) = s.link (Link.at k) := by
  by_cases line : k < s.count
  · cases mode : (s.pos k).mode with
    | active =>
      have absent : (s.pos k).joined = none := by simpa [mode, Nat.not_le.mpr line] using rest
      have e := (s.orderNext_at line (used line) h).1
      have course := s.orderNext_active line mode
      split at course
      · next joined =>
        rw [course] at e
        rw [show (s.issueNext k).pos k = (s.pos k).given (s.nextOrder k) from e] at joined
        exact absurd joined (by simp [Position.given, absent])
      · rw [course, State.link, s.issueNext_links]; rfl
    | bypass =>
      rw [s.orderNext_bypass line mode, s.passBypass_eq, State.link,
        ((s.noteMissed_orders k).trans (State.enterOrder_orders _ k _ _ _ _)).liu]; rfl
  · rw [s.orderNext_outside (by omega)]

/-! ### The steps of all positions -/

/-- The line with the next order at every position (R57). -/
@[irreducible] def State.ordersNext (s : State) : State := (List.range 16).foldl State.orderNext s

theorem State.ordersNext_eq (s : State) : s.ordersNext = (List.range 16).foldl State.orderNext s := by
  unfold State.ordersNext; rfl

theorem State.ordersNext_issues (s : State) : s.IssuesOrders s.ordersNext := by
  rw [s.ordersNext_eq]; exact .foldl State.orderNext_issues _ s

/-- Steps of other positions leave a position, its detail, its timers and its link. -/
theorem State.foldl_orderNext_elsewhere (xs : List Nat) (s : State) {j : Nat} (hj : j ∉ xs) (small : ∀ x ∈ xs, x < 16) :
    (xs.foldl State.orderNext s).pos j = s.pos j ∧ (xs.foldl State.orderNext s).detail j = s.detail j ∧
      (xs.foldl State.orderNext s).startTimer j = s.startTimer j ∧
      (j < 16 → (xs.foldl State.orderNext s).link (Link.at j) = s.link (Link.at j)) := by
  induction xs generalizing s with
  | nil => exact ⟨rfl, rfl, rfl, fun _ => rfl⟩
  | cons x xs ih =>
    have ne : j ≠ x := fun e => hj (e ▸ .head xs)
    obtain ⟨p, d, t, l⟩ := ih (s.orderNext x) (fun h => hj (.tail x h)) fun y hy => small y (.tail x hy)
    obtain ⟨p', d', -, t'⟩ := s.orderNext_elsewhere x j ne
    exact ⟨p.trans p', d.trans d', t.trans t', fun h16 => (l h16).trans
      (s.orderNext_link_ne fun e => ne (link_at_injective h16 (small x (.head xs)) e))⟩

/-- Steps of positions where a pallet does not stand leave its record. -/
theorem State.foldl_orderNext_pallet (xs : List Nat) (s : State) {n : Nat} (h : ∀ k ∈ xs, s.palletAt k ≠ some n) :
    (xs.foldl State.orderNext s).pallet n = s.pallet n := by
  induction xs generalizing s with
  | nil => rfl
  | cons x xs ih =>
    rw [List.foldl_cons, ih _ fun k hk => by rw [s.orderNext_palletAt]; exact h k (.tail x hk), s.orderNext_pallet,
      State.afterPass_of_ne (h x (.head xs))]

theorem State.foldl_orderNext_divert (xs : List Nat) (s : State) (n : Nat) :
    ((xs.foldl State.orderNext s).pallet n).map (·.divert) = (s.pallet n).map (·.divert) :=
  foldl_keeps (g := fun u : State => (u.pallet n).map (·.divert)) (fun u k => u.orderNext_divert k n) xs s

/-- Position `k`'s step is made on a state `u` in which that position and the records of the pallets that stand nowhere else are as
they were, and what it leaves there stands at the end. -/
theorem State.ordersNext_at (s : State) {k : Nat} (hk : k < 16) : ∃ u, s.IssuesOrders u ∧
    (u.pos k = s.pos k ∧ u.detail k = s.detail k ∧ u.link (Link.at k) = s.link (Link.at k)) ∧
    (s.ordersNext.pos k = (u.orderNext k).pos k ∧ s.ordersNext.detail k = (u.orderNext k).detail k ∧
      s.ordersNext.startTimer k = (u.orderNext k).startTimer k ∧ s.ordersNext.link (Link.at k) = (u.orderNext k).link (Link.at k)) ∧
    ∀ n, (∀ j, j < 16 → j ≠ k → s.palletAt j ≠ some n) → u.pallet n = s.pallet n ∧ s.ordersNext.pallet n = (u.orderNext k).pallet n := by
  obtain ⟨before, after, split⟩ := List.append_of_mem (List.mem_range.mpr hk)
  have nodup : (before ++ k :: after).Nodup := split ▸ List.nodup_range
  obtain ⟨fresh, nodup, apart⟩ := List.nodup_append.mp nodup
  have fresh_before : k ∉ before := fun h => apart k h k (.head after) rfl
  have fresh_after : k ∉ after := (List.nodup_cons.mp nodup).1
  have small : ∀ x ∈ before ++ k :: after, x < 16 := fun x hx => List.mem_range.mp (split ▸ hx)
  have whole : s.ordersNext = after.foldl State.orderNext ((before.foldl State.orderNext s).orderNext k) := by
    rw [s.ordersNext_eq, split, List.foldl_append, List.foldl_cons]
  let u := before.foldl State.orderNext s
  have issues : s.IssuesOrders u := .foldl State.orderNext_issues _ s
  obtain ⟨p, d, -, l⟩ := State.foldl_orderNext_elsewhere before s fresh_before fun x hx => small x (List.mem_append_left _ hx)
  obtain ⟨p', d', t', l'⟩ := State.foldl_orderNext_elsewhere after (u.orderNext k) fresh_after
    fun x hx => small x (List.mem_append_right _ (.tail k hx))
  have places : ∀ j, (u.orderNext k).palletAt j = s.palletAt j := fun j => by
    rw [u.orderNext_palletAt, State.palletAt_eq_places, State.palletAt_eq_places,
      foldl_keeps (g := fun u : State => u.rst.places) State.orderNext_places]
  rw [whole]
  refine ⟨u, issues, ⟨p, d, l hk⟩, ⟨p', d', t', l' hk⟩, fun n alone => ⟨?_, ?_⟩⟩
  · exact State.foldl_orderNext_pallet before s fun j hj =>
      alone j (small j (List.mem_append_left _ hj)) fun e => fresh_before (e ▸ hj)
  · exact State.foldl_orderNext_pallet after _ fun j hj => by
      rw [places]; exact alone j (small j (List.mem_append_right _ (.tail k hj))) fun e => fresh_after (e ▸ hj)

theorem State.count_of_issues {s t : State} (h : s.IssuesOrders t) : t.count = s.count := by
  obtain ⟨m, ps, ds, e⟩ := h.store
  exact State.count_of_geometry (by rw [e])

/-- Positions outside the line are given no order. -/
theorem State.ordersNext_outside (s : State) {k : Nat} (h : s.count ≤ k) :
    s.ordersNext.pos k = s.pos k ∧ s.ordersNext.detail k = s.detail k := by
  by_cases hk : k < 16
  · obtain ⟨u, issues, ⟨p, d, -⟩, ⟨p', d', -, -⟩, -⟩ := s.ordersNext_at hk
    rw [u.orderNext_outside (by rwa [State.count_of_issues issues])] at p' d'
    exact ⟨p'.trans p, d'.trans d⟩
  · obtain ⟨p, d, -, -⟩ := State.foldl_orderNext_elsewhere (List.range 16) s (j := k) (by simpa using hk) fun x hx => List.mem_range.mp hx
    rw [s.ordersNext_eq]
    exact ⟨p, d⟩

end Sys2Proof.Machine
end

section
/-! SUPPORT. The decisions of the advance and the order that each position is given (O21, O22). -/

namespace Sys2Proof.Machine

/-! ### The decisions (R77, R113) -/

/-- None of the conditions of R77 that keep a block from being ordered at position `k` holds. -/
def State.Due (s : State) (k : Nat) (w : Workpiece) : Prop :=
  w.disposition ≠ .suspect ∧ w.disposition ≠ .reject ∧ s.routing w.variant k ≠ 0 ∧
    ¬∃ g q r v, HistoryEntry.outcome k g q r v ∈ w.history ∧ (r = .done ∨ r = .passed)

/-- A history entry by which a block counts as processed at position `k` (R77). -/
def HistoryEntry.serves (k : Nat) : HistoryEntry → Bool
  | .outcome q _ _ r _ => q == k && (r == .done || r == .passed)
  | .lost => false

theorem history_serves_iff (h : List HistoryEntry) (k : Nat) :
    h.any (HistoryEntry.serves k) = true ↔ ∃ g q r v, HistoryEntry.outcome k g q r v ∈ h ∧ (r = .done ∨ r = .passed) := by
  rw [List.any_eq_true]
  constructor
  · rintro ⟨e, he, served⟩
    cases e with
    | lost => cases served
    | outcome k' g q r v =>
      obtain ⟨rfl, hr⟩ : k' = k ∧ (r = .done ∨ r = .passed) := by simpa [HistoryEntry.serves] using served
      exact ⟨g, q, r, v, he, hr⟩
  · rintro ⟨g, q, r, v, he, hr⟩
    exact ⟨_, he, by simpa [HistoryEntry.serves] using hr⟩

/-- The decision of R77 for a position with a block. -/
theorem State.orderDecision_block {s : State} {k n : Nat} {q : Pallet} {w : Workpiece} (here : s.palletAt k = some n)
    (hq : s.pallet n = some q) (hw : q.workpiece = some w) :
    (s.Due k w → s.orderDecision k = some (s.routing w.variant k)) ∧ (¬s.Due k w → s.orderDecision k = none) := by
  have block : (s.palletAt k).bind s.workpiece = some w := by simp [here, State.workpiece, hq, hw]
  have e : s.orderDecision k = if w.disposition == .suspect || w.disposition == .reject then none
      else if s.routing w.variant k = 0 then none
      else if w.history.any (HistoryEntry.serves k) then none
      else some (s.routing w.variant k) := by
    simp only [State.orderDecision, block]; rfl
  rw [e, State.Due, ← history_serves_iff]
  split_ifs with kept unrouted served
  · simp only [Bool.or_eq_true, beq_iff_eq] at kept
    exact ⟨fun ⟨sound, good, _⟩ => absurd kept (not_or.mpr ⟨sound, good⟩), fun _ => rfl⟩
  · exact ⟨fun ⟨_, _, routed, _⟩ => absurd unrouted routed, fun _ => rfl⟩
  · exact ⟨fun ⟨_, _, _, fresh⟩ => absurd served fresh, fun _ => rfl⟩
  · simp only [Bool.or_eq_true, beq_iff_eq, not_or] at kept
    exact ⟨fun _ => rfl, fun rest => absurd ⟨kept.1, kept.2, unrouted, served⟩ rest⟩

/-- The decision of R77 for a position without a block. -/
theorem State.orderDecision_bare {s : State} {k : Nat}
    (h : ¬∃ n q w, s.palletAt k = some n ∧ s.pallet n = some q ∧ q.workpiece = some w) : s.orderDecision k = none := by
  have bare : (s.palletAt k).bind s.workpiece = none := by
    cases here : s.palletAt k with
    | none => rfl
    | some n =>
      cases hq : s.pallet n with
      | none => simp [State.workpiece, hq]
      | some q =>
        cases hw : q.workpiece with
        | none => simp [State.workpiece, hq, hw]
        | some w => exact absurd ⟨n, q, w, here, hq, hw⟩ h
  simp only [State.orderDecision, bare]

/-- The decisions for a position look at its occupant, the records, the routing and the geometry. -/
theorem State.orderDecision_congr {s t : State} {k : Nat} (place : t.palletAt k = s.palletAt k)
    (record : ∀ n, s.palletAt k = some n → t.pallet n = s.pallet n) (routing : t.rst.routing = s.rst.routing) :
    t.orderDecision k = s.orderDecision k := by
  have block : (t.palletAt k).bind t.workpiece = (s.palletAt k).bind s.workpiece := by
    rw [place]
    cases here : s.palletAt k with
    | none => rfl
    | some n => simp [State.workpiece, record n here]
  have table : t.routing = s.routing := by funext v j; rw [State.routing, routing]; rfl
  rw [State.orderDecision, State.orderDecision, block, table]

theorem State.unloadDecision_congr {s t : State} {k : Nat} (place : t.palletAt k = s.palletAt k)
    (record : ∀ n, s.palletAt k = some n → t.pallet n = s.pallet n) (geometry : t.rst.geometry = s.rst.geometry) :
    t.unloadDecision k = s.unloadDecision k := by
  unfold State.unloadDecision
  rw [place]
  cases here : s.palletAt k with
  | none => rfl
  | some n =>
    have due : t.maintenanceDue = s.maintenanceDue := by funext p; rw [State.maintenanceDue, geometry]; rfl
    simp only [record n here, State.routeOf, due]

theorem State.nextOrder_congr {s t : State} {k : Nat} (place : t.pos k = s.pos k)
    (record : ∀ n, s.palletAt k = some n → t.pallet n = s.pallet n) (geometry : t.rst.geometry = s.rst.geometry)
    (routing : t.rst.routing = s.rst.routing) : t.nextOrder k = s.nextOrder k := by
  have there : t.palletAt k = s.palletAt k := by rw [State.palletAt, place]; rfl
  simp only [State.nextOrder, place, State.orderDecision_congr there record routing, State.unloadDecision_congr there record geometry]

/-! ### The order of one position after all steps -/

/-- The pallet that stands at position `k` stands at no other. -/
def State.Alone (s : State) (k : Nat) : Prop := ∀ n, s.palletAt k = some n → ∀ j, j < 16 → j ≠ k → s.palletAt j ≠ some n

/-- Every position in the line is given an order: of kind NONE in BYPASS, FEED at an ACTIVE LOAD position, and the one that the
decision on the state before all steps gives where its pallet stands nowhere else. -/
theorem State.ordersNext_gives {s : State} {k : Nat} (hk : k < 16) (line : k < s.count) (used : s.unused k = false) (h : s.HasEntry k) :
    ∃ o : GivenOrder, s.ordersNext.pos k = (s.pos k).given o ∧ s.ordersNext.detail k = (s.detail k).given (s.nextNumber k) o ∧
      ((s.pos k).mode = .active → s.ordersNext.startTimer k = if o.kind.timed then some 0 else none) ∧
      ((s.pos k).mode = .bypass → o = .rest) ∧
      ((s.pos k).mode = .active → (s.pos k).kind = .load → o = { kind := .feed, program := none, instruction := none }) ∧
      (s.Alone k → o = s.nextOrder k) := by
  obtain ⟨u, issues, ⟨p, d, -⟩, ⟨p', d', t', -⟩, records⟩ := s.ordersNext_at hk
  obtain ⟨m, ps, ds, store⟩ := issues.store
  have count := State.count_of_issues issues
  obtain ⟨pos, detail, timer⟩ := u.orderNext_at (k := k) (by rwa [count]) (by rwa [State.unused, p]) (h.of_issues issues)
  have number : u.nextNumber k = s.nextNumber k := by rw [State.nextNumber, p]; rfl
  rw [number, d] at detail
  rw [p] at pos timer
  refine ⟨u.nextOrder k, p'.trans pos, d'.trans detail, fun active => t'.trans (timer active), fun bypass => ?_, fun active load => ?_,
    fun alone => ?_⟩
  · rw [State.nextOrder, p, bypass]
  · rw [State.nextOrder, p, active, load]
  · exact State.nextOrder_congr p (fun n here => (records n (alone n here)).1) (by rw [store]) (by rw [store])

/-- The record of a pallet that stands at one position alone. -/
theorem State.ordersNext_pallet {s : State} {k n : Nat} (hk : k < 16) (here : s.palletAt k = some n) (alone : s.Alone k) :
    s.ordersNext.pallet n = s.afterPass k n := by
  obtain ⟨u, issues, ⟨p, -, -⟩, -, records⟩ := s.ordersNext_at hk
  obtain ⟨m, ps, ds, store⟩ := issues.store
  have place : u.palletAt k = s.palletAt k := by rw [State.palletAt, p]; rfl
  obtain ⟨before, after⟩ := records n (alone n here)
  rw [after, u.orderNext_pallet, State.afterPass, State.afterPass, State.count_of_issues issues, p, place, before,
    State.orderDecision_congr place (fun n here => (records n (alone n here)).1) (by rw [store])]

/-- The record of a pallet that stands at no position. -/
theorem State.ordersNext_pallet_away (s : State) {n : Nat} (h : ∀ k, k < 16 → s.palletAt k ≠ some n) :
    s.ordersNext.pallet n = s.pallet n := by
  rw [s.ordersNext_eq]
  exact State.foldl_orderNext_pallet _ s fun k hk => h k (List.mem_range.mp hk)

theorem State.ordersNext_palletAt (s : State) (k : Nat) : s.ordersNext.palletAt k = s.palletAt k := by
  rw [State.palletAt_eq_places, State.palletAt_eq_places, s.ordersNext_eq,
    foldl_keeps (g := fun u : State => u.rst.places) State.orderNext_places]

/-- The ORDER frame of a joined ACTIVE station in the line (R57, R93). -/
theorem State.ordersNext_posts {s : State} {k : Nat} (hk : k < 16) (links : s.liu.links.length = 18) (line : k < s.count)
    (active : (s.pos k).mode = .active) (used : s.unused k = false) (joined : (s.pos k).joined.isSome = true) (h : s.HasEntry k)
    (alone : s.Alone k) : (s.ordersNext.link (Link.at k)).unsolicited = some (.order (s.ordersNext.orderFrame k)) := by
  obtain ⟨u, issues, ⟨p, -, -⟩, ⟨p', -, -, l'⟩, records⟩ := s.ordersNext_at hk
  have posted := u.orderNext_posts (k := k) (by rwa [issues.linkCount]) (by rwa [State.count_of_issues issues]) (by rwa [p])
    (by rwa [State.unused, p]) (by rwa [p]) (h.of_issues issues)
  have place : (u.orderNext k).palletAt k = s.ordersNext.palletAt k := by
    rw [State.palletAt, ← p']; rfl
  have block : (s.ordersNext.palletAt k).bind s.ordersNext.workpiece = (s.ordersNext.palletAt k).bind (u.orderNext k).workpiece := by
    cases here : s.ordersNext.palletAt k with
    | none => rfl
    | some n =>
      rw [s.ordersNext_palletAt] at here
      simp [State.workpiece, (records n (alone n here)).2]
  rw [l', posted, State.orderFrame, State.orderFrame, place, block, p']

/-- No other station is sent a frame. -/
theorem State.ordersNext_silent {s : State} {k : Nat} (hk : k < 16) (used : k < s.count → s.unused k = false) (h : s.HasEntry k)
    (rest : s.count ≤ k ∨ (s.pos k).mode = .bypass ∨ (s.pos k).joined = none) :
    s.ordersNext.link (Link.at k) = s.link (Link.at k) := by
  obtain ⟨u, issues, ⟨p, -, l⟩, ⟨-, -, -, l'⟩, -⟩ := s.ordersNext_at hk
  have count := State.count_of_issues issues
  rw [l', u.orderNext_silent (by rwa [count, State.unused, p]) (h.of_issues issues) (by rwa [count, p]), l]

end Sys2Proof.Machine
end

section
/-! SUPPORT. The end of the advance, and the advance of a sound line as a whole (O21, O22). -/

namespace Sys2Proof.Machine

/-! ### The end of the advance (R58, R165) -/

/-- What the end of an advance makes of the state `s` that its writes have left: of the blocks that positions, orders and times stand
in it changes the cycle timer alone, the station links keep their records, and the Index Controller is in HALT, COLLECT or FAULT. -/
structure State.EndsAdvance (s t : State) : Prop where
  store : t.rst = s.rst
  stations : ∀ k, k < 16 → t.link (Link.at k) = s.link (Link.at k)
  times : t.ctm = { s.ctm with cycleTimer := if s.ixc.haltRequested then none else s.ctm.cycleTimer }
  wires : t.pins = s.pins
  out : t.liu.attentions.maintenanceOut = s.liu.attentions.maintenanceOut
  tracker : t.btk = { s.btk with
    homeTimer := if s.ixc.haltRequested ∨ s.ixc.configDue then none
      else if s.pins.home then s.btk.homeTimer else some { elapsed := 0, limit := s.working.homeTimeout } }
  motion : t.ixc.motion = none
  flags : t.ixc.haltRequested = false ∧ t.ixc.configDue = false
  state : t.ixc.state = if s.ixc.haltRequested then .halt else if s.ixc.configDue then .fault else .collect
  config : s.ixc.configDue = true ∧ s.ixc.haltRequested = false →
    t.ixc.currentFault = some { cause := .config, check := none, kind := none, stamp := s.ctm.clock } ∧
      t.ixc.lastFault = t.ixc.currentFault ∧ t.liu.attentions.fault = some .config ∧
      t.aar.workList = s.aar.workList.filter fun w => w != .advance && w != .learnWrite
  calm : ¬(s.ixc.configDue = true ∧ s.ixc.haltRequested = false) →
    t.ixc.currentFault = s.ixc.currentFault ∧ t.ixc.lastFault = s.ixc.lastFault ∧
      t.liu.attentions.fault = s.liu.attentions.fault ∧ t.aar.workList = s.aar.workList

/-- An outstanding order at an ACTIVE position of the line holds the collection up (R46). -/
theorem State.not_released_of_ordered {s : State} {k : Nat} (line : k < s.count) (active : (s.pos k).mode = .active)
    (ordered : (s.pos k).phase = .ordered) : ¬s.Released := fun h => by
  obtain ⟨-, idle, -⟩ := h.stations k line active
  simp [ordered] at idle

/-- The end of the motion in HALT (R58, R67). -/
theorem State.endMotion_halts {s : State} (test : State → State) (halt : s.ixc.haltRequested = true) : s.endMotion test = { s with
    ixc := { s.ixc with state := .halt, motion := none, indexPending := false, haltRequested := false, configDue := false }
    ctm := { s.ctm with cycleTimer := none }
    btk := { s.btk with homeTimer := none } } := if_pos halt

/-- The home timer at an entry to COLLECT (R136). -/
def State.collectTimer (s : State) : Option Timer :=
  if s.pins.home then s.btk.homeTimer else some { elapsed := 0, limit := s.working.homeTimeout }

/-- The state in which a motion ends in COLLECT, before the waiting CONFIG fault or the collection test (R58, R136). -/
def State.collecting (s : State) : State :=
  { s with ixc := { s.ixc with state := .collect, motion := none }, btk := { s.btk with homeTimer := s.collectTimer } }

theorem State.endMotion_collects {s : State} (test : State → State) (halt : s.ixc.haltRequested = false) :
    s.endMotion test = if s.ixc.configDue then s.collecting.enterFault .config else test s.collecting := by
  have e : (if s.pins.home then (s.onIxc fun i => { i with motion := none }).onIxc fun i => { i with state := .collect }
      else ((s.onIxc fun i => { i with motion := none }).onIxc fun i => { i with state := .collect }).startHomeTimer) = s.collecting := by
    rw [State.collecting, State.collectTimer]
    split <;> rfl
  rw [← e]
  exact if_neg (by simp [halt])

/-- The entry to FAULT(CONFIG) of the CONFIG fault that waited for the advance (R165). -/
theorem State.collecting_faults (s : State) : s.collecting.enterFault .config = { s with
    ixc := { s.ixc.stopMotionTimers with
      state := .fault, motion := none, indexPending := false, configDue := false
      currentFault := some { cause := .config, check := none, kind := none, stamp := s.ctm.clock }
      lastFault := some { cause := .config, check := none, kind := none, stamp := s.ctm.clock } }
    btk := { s.btk with homeTimer := none }
    aar := { s.aar with workList := s.aar.workList.filter fun w => w != .advance && w != .learnWrite }
    liu := { s.liu with attentions := { s.liu.attentions with fault := some .config } } } := rfl

/-- The end of the motion after an advance whose position 0 is ORDERED (R58, R66, R165). -/
theorem State.endMotion_ends {s : State} (sound : s.rst.errors = []) (line : 0 < s.count) (active : (s.pos 0).mode = .active)
    (ordered : (s.pos 0).phase = .ordered) : s.EndsAdvance (s.endMotion (·.collect .drive)) := by
  have waits : s.collecting.collect .drive = s.collecting := by
    have sound : s.collecting.rst.errors = [] := sound
    rw [State.collect_sound _ _ sound]
    exact State.testCollection_waits _ _ (State.not_released_of_ordered (s := s.collecting) line active ordered)
  cases halt : s.ixc.haltRequested with
  | true =>
    rw [State.endMotion_halts _ halt]
    constructor <;> simp [halt]
    exact fun _ _ => rfl
  | false =>
    rw [State.endMotion_collects _ halt]
    cases due : s.ixc.configDue with
    | true =>
      rw [if_pos rfl, State.collecting_faults]
      constructor <;> simp [halt, due]
      · exact fun _ _ => rfl
      · exact halt
    | false =>
      rw [if_neg nofun, waits]
      constructor <;> simp [halt, due, State.collecting, State.collectTimer]
      exact fun _ _ => rfl

theorem State.EndsAdvance.pos {s t : State} (h : s.EndsAdvance t) (k : Nat) : t.pos k = s.pos k := by
  rw [State.pos, h.store]; rfl
theorem State.EndsAdvance.detail {s t : State} (h : s.EndsAdvance t) (k : Nat) : t.detail k = s.detail k := by
  rw [State.detail, h.store]; rfl
theorem State.EndsAdvance.pallet {s t : State} (h : s.EndsAdvance t) (n : Nat) : t.pallet n = s.pallet n := by
  rw [State.pallet, h.store]; rfl
theorem State.EndsAdvance.startTimer {s t : State} (h : s.EndsAdvance t) (k : Nat) : t.startTimer k = s.startTimer k := by
  rw [State.startTimer, h.times]; rfl
theorem State.EndsAdvance.orderFrame {s t : State} (h : s.EndsAdvance t) (k : Nat) : t.orderFrame k = s.orderFrame k := by
  have place : t.palletAt k = s.palletAt k := by rw [State.palletAt, h.pos]; rfl
  have block : t.workpiece = s.workpiece := by funext n; rw [State.workpiece, h.pallet]; rfl
  rw [State.orderFrame, State.orderFrame, h.pos, place, block]

/-- The STATUS frame after the advance goes to the supervisor (R187). -/
theorem State.EndsAdvance.closeEvent {s t : State} (h : s.EndsAdvance t) (before : State) : s.EndsAdvance (State.closeEvent before t) := by
  obtain ⟨rst, ixc, btk, -, ctm, aar, pins, -, attentions⟩ := State.closeEvent_blocks before t
  have attentions : (State.closeEvent before t).liu.attentions = t.liu.attentions := attentions
  have stations : ∀ k, k < 16 → (State.closeEvent before t).link (Link.at k) = t.link (Link.at k) := fun k hk => by
    unfold State.closeEvent
    split
    · rfl
    · exact State.link_onLink_ne _ _ (by simp [Link.at, hk])
  exact ⟨rst.trans h.store, fun k hk => (stations k hk).trans (h.stations k hk), ctm.trans h.times, pins.trans h.wires,
    by rw [attentions]; exact h.out, btk.trans h.tracker, by rw [ixc]; exact h.motion, by rw [ixc]; exact h.flags,
    by rw [ixc]; exact h.state, by rw [ixc, attentions, aar]; exact h.config, by rw [ixc, attentions, aar]; exact h.calm⟩

/-! ### The advance of a sound line -/

/-- A sound line whose advance stands at the head of the work list: the premises of the statements on the advance. -/
structure State.Advances (s : State) (ws : List WorkItem) : Prop where
  sound : s.Sound
  shaped : s.Shaped
  head : s.aar.workList = .advance :: ws
  state : s.ixc.state = .advance
  low : 3 ≤ s.count
  high : s.count ≤ 16
  first : (s.pos 0).kind = .load ∧ (s.pos 0).mode = .active
  used : ∀ k, k < s.count → s.unused k = false

/-- The grant of the advance on sound cells (R55, R56). -/
theorem State.Advances.exec {s : State} {ws : List WorkItem} (h : s.Advances ws) :
    exec .advance s = .next (State.closeEvent s s.popWork.advanceLine) := by
  have sound : s.popWork.rst.errors = [] := h.sound.2
  have head : (s.aar.workList.head? = some .advance && s.ixc.state == .advance) = true := by simp [h.head, h.state]
  have grant : s.popWork.advanceGrant = s.popWork.advanceLine := by
    rw [State.advanceGrant, State.readStages_sound _ _ _ sound, State.trackingDamaged, State.found_sound _ _ _ sound,
      State.readStages_sound _ _ _ sound]
    exact if_neg nofun
  refine (s.event_live _ h.sound.1).trans ?_
  rw [if_pos head, grant]

/-- The line as the pallet at N−1 has left it and the others have moved up, before it is given its orders. -/
def State.shifted (s : State) : State := s.popWork.sendAway.shift

theorem State.Advances.shifted_frame {s : State} {ws : List WorkItem} (h : s.Advances ws) : ∃ slots positions queue out,
    s.shifted = { s with
      rst := { s.rst with slots := slots, positions := positions, returnQueue := queue }
      aar := { s.aar with workList := ws }
      liu := { s.liu with attentions := { s.liu.attentions with maintenanceOut := out } } } := by
  obtain ⟨slots, queue, out, e⟩ := s.popWork.sendAway_frame h.sound.2
  have tail : s.popWork = { s with aar := { s.aar with workList := ws } } := by rw [State.popWork, State.onAar, h.head]; rfl
  refine ⟨slots, s.shifted.rst.positions, queue, out, ?_⟩
  rw [State.shifted, State.shift, State.onRst, e, tail]

theorem State.Advances.shifted_count {s : State} {ws : List WorkItem} (h : s.Advances ws) : s.shifted.count = s.count := by
  obtain ⟨slots, positions, queue, out, e⟩ := h.shifted_frame
  exact State.count_of_geometry (by rw [e])

theorem State.Advances.sent_pos {s : State} {ws : List WorkItem} (h : s.Advances ws) (k : Nat) :
    s.popWork.sendAway.pos k = s.pos k := by
  obtain ⟨slots, queue, out, e⟩ := s.popWork.sendAway_frame h.sound.2
  rw [e]; rfl

theorem State.Advances.sent_positions {s : State} {ws : List WorkItem} (h : s.Advances ws) :
    s.popWork.sendAway.rst.positions.length = 16 := by
  obtain ⟨slots, queue, out, e⟩ := s.popWork.sendAway_frame h.sound.2
  rw [e]; exact h.shaped.1

theorem State.Advances.hasEntry {s : State} {ws : List WorkItem} (h : s.Advances ws) {k : Nat} (hk : k < 16) : s.shifted.HasEntry k := by
  obtain ⟨-, details, startTimers, -⟩ := h.shaped
  obtain ⟨slots, positions, queue, out, e⟩ := h.shifted_frame
  refine ⟨?_, by rw [e]; show k < s.rst.details.length; omega, by rw [e]; show k < s.ctm.startTimers.length; omega⟩
  have len : s.shifted.rst.positions.length = s.popWork.sendAway.rst.positions.length := by simp [State.shifted, State.shift]
  rw [len, h.sent_positions]; exact hk

/-- A position of the line after the shift (R57). -/
theorem State.Advances.shifted_pos {s : State} {ws : List WorkItem} (h : s.Advances ws) {k : Nat} (hk : k < s.count) :
    s.shifted.pos k = { s.pos k with occupant := if k = 0 then .empty else (s.pos (k - 1)).occupant } := by
  have sent : s.popWork.sendAway.count = s.count := h.shifted_count
  have k16 := Nat.lt_of_lt_of_le hk h.high
  rw [State.shifted, State.pos_shift _ (by rwa [h.sent_positions]), sent, if_neg (by omega), h.sent_pos, h.sent_pos]

theorem State.Advances.shifted_pos_outside {s : State} {ws : List WorkItem} (h : s.Advances ws) {k : Nat} (hk : s.count ≤ k) :
    s.shifted.pos k = s.pos k := by
  have sent : s.popWork.sendAway.count = s.count := h.shifted_count
  rw [State.shifted, State.pos_shift_outside _ (by rwa [sent]), h.sent_pos]

/-- Where a pallet stands after the shift, and where it stood before. -/
theorem State.Advances.shifted_palletAt {s : State} {ws : List WorkItem} (h : s.Advances ws) {k n : Nat}
    (here : s.shifted.palletAt k = some n) :
    (s.count ≤ k ∧ k < 16 ∧ s.palletAt k = some n) ∨ (0 < k ∧ k < s.count ∧ s.palletAt (k - 1) = some n) := by
  have sent : s.popWork.sendAway.count = s.count := h.shifted_count
  have place : ∀ j, s.popWork.sendAway.palletAt j = s.palletAt j := fun j => by rw [State.palletAt, h.sent_pos]; rfl
  rcases State.palletAt_shift here with ⟨a, b⟩ | ⟨a, b, c⟩
  · rw [place] at b
    exact .inl ⟨sent ▸ a, h.shaped.1 ▸ State.palletAt_lt b, b⟩
  · exact .inr ⟨a, sent ▸ b, by rwa [place] at c⟩

/-- The order that the advance gives a position of the line, beside the position as it was before. -/
theorem State.Advances.gives {s : State} {ws : List WorkItem} (h : s.Advances ws) {k : Nat} (hk : k < s.count) :
    ∃ o : GivenOrder,
      s.shifted.ordersNext.pos k =
        ({ s.pos k with occupant := if k = 0 then .empty else (s.pos (k - 1)).occupant } : Position).given o ∧
      s.shifted.ordersNext.detail k = (s.detail k).given (s.nextNumber k) o ∧
      ((s.pos k).mode = .active → s.shifted.ordersNext.startTimer k = if o.kind.timed then some 0 else none) ∧
      ((s.pos k).mode = .bypass → o = .rest) ∧
      ((s.pos k).mode = .active → (s.pos k).kind = .load → o = { kind := .feed, program := none, instruction := none }) ∧
      (s.shifted.Alone k → o = s.shifted.nextOrder k) := by
  obtain ⟨slots, positions, queue, out, e⟩ := h.shifted_frame
  have detail : s.shifted.detail k = s.detail k := by rw [e]; rfl
  have number : s.shifted.nextNumber k = s.nextNumber k := by rw [State.nextNumber, h.shifted_pos hk]; rfl
  have k16 := Nat.lt_of_lt_of_le hk h.high
  have gives := State.ordersNext_gives (s := s.shifted) k16 (by rwa [h.shifted_count])
    (by rw [State.unused, h.shifted_pos hk]; exact h.used k hk) (h.hasEntry k16)
  rwa [h.shifted_pos hk, detail, number] at gives

/-- The state that the writes of the advance leave, before its end (R57, R58). -/
def State.advanced (s : State) : State := s.shifted.ordersNext.onCtm Ctm.advance

/-- The advance writes the orders and the times and ends the motion. -/
theorem State.Advances.taken {s : State} {ws : List WorkItem} (h : s.Advances ws) :
    ∃ t, Machine.exec .advance s = .next t ∧ s.advanced.EndsAdvance t := by
  refine ⟨_, h.exec, State.EndsAdvance.closeEvent ?_ s⟩
  have line : 0 < s.count := by have := h.low; omega
  obtain ⟨slots, positions, queue, out, e⟩ := h.shifted_frame
  have issues := s.shifted.ordersNext_issues
  obtain ⟨m, ps, ds, store⟩ := issues.store
  obtain ⟨o, pos, -, -, -, feed, -⟩ := h.gives line
  obtain rfl := feed h.first.2 h.first.1
  have whole : s.popWork.advanceLine = s.advanced.endMotion (·.collect .drive) := by
    rw [State.advanced, s.shifted.ordersNext_eq]; rfl
  rw [whole]
  refine State.endMotion_ends ?_ ?_ ?_ ?_
  · rw [State.advanced, State.onCtm_rst, store, e]; exact h.sound.2
  · show 0 < s.shifted.ordersNext.count
    rwa [State.count_of_issues issues, h.shifted_count]
  · show (s.shifted.ordersNext.pos 0).mode = _
    rw [pos]; exact h.first.2
  · show (s.shifted.ordersNext.pos 0).phase = _
    rw [pos]; rfl

end Sys2Proof.Machine
end

section
/-! SUPPORT. What the advance shifts and ends (O21). -/

namespace Sys2Proof.Machine

theorem State.IssuesOrders.frame {s t : State} (h : s.IssuesOrders t) : ∃ slots positions details startTimers links,
    t = { s with
      rst := { s.rst with slots := slots, positions := positions, details := details }
      ctm := { s.ctm with startTimers := startTimers }
      liu := { s.liu with links := links } } := by
  obtain ⟨⟨m, ps, ds, store⟩, ⟨xs, timers⟩, ⟨ls, links⟩, -, -, -, -, ixc, btk, wlu, aar, pins, pending⟩ := h
  refine ⟨m, ps, ds, xs, ls, ?_⟩
  cases t
  exact State.mk.injEq .. ▸ ⟨store, ixc, btk, wlu, timers, aar, links, pins, pending⟩

/-- What the writes of the advance leave of the state: the tables that no order writes, the controller, and the times they take. -/
theorem State.Advances.advanced_frame {s : State} {ws : List WorkItem} (h : s.Advances ws) : ∃ slots positions details startTimers links out,
    s.advanced = { s with
      rst := { s.rst with slots := slots, positions := positions, details := details, returnQueue := s.shifted.rst.returnQueue }
      ctm := Ctm.advance { s.ctm with startTimers := startTimers }
      aar := { s.aar with workList := ws }
      liu := { s.liu with links := links, attentions := { s.liu.attentions with maintenanceOut := out } } } := by
  obtain ⟨slots, positions, queue, out, e⟩ := h.shifted_frame
  obtain ⟨m, ps, ds, xs, ls, issued⟩ := s.shifted.ordersNext_issues.frame
  refine ⟨m, ps, ds, xs, ls, out, ?_⟩
  rw [State.advanced, issued]
  generalize s.shifted = u at e
  subst e
  rfl

/-- The order a position is given is outstanding and opened, or NONE at rest (R76). -/
theorem Position.given_cases (p : Position) (d : OrderDetail) (n : Nat) (o : GivenOrder) :
    ((p.given o).phase = .ordered ∧ (p.given o).orderKind ≠ .noOrder ∧ (d.given n o).closing = .opened) ∨
    ((p.given o).phase = .idle ∧ (p.given o).orderKind = .noOrder ∧ (d.given n o).closing = .noOrder) := by
  by_cases fresh : o.kind = .noOrder
  · exact .inr ⟨if_pos (by simpa using fresh), fresh, if_pos (by simpa using fresh)⟩
  · exact .inl ⟨if_neg (by simpa using fresh), fresh, if_neg (by simpa using fresh)⟩

/-- The pallet that leaves the line (R24, R56). -/
theorem State.Advances.leaver {s : State} {ws : List WorkItem} (h : s.Advances ws) {n : Nat} {p : Pallet}
    (here : s.palletAt (s.count - 1) = some n) (hp : s.pallet n = some p) :
    s.shifted.pallet n = some (if p.divert = true ∨ s.maintenanceDue p = true then { p with divert := false } else p) ∧
      s.shifted.rst.returnQueue =
        (if p.divert = true ∨ s.maintenanceDue p = true then s.rst.returnQueue else s.rst.returnQueue ++ [n]) ∧
      (s.maintenanceDue p = true → s.shifted.liu.attentions.maintenanceOut = some n) :=
  State.sendAway_leaver (s := s.popWork) (by have := h.low; change s.count ≠ 0; omega) here hp

/-- A pallet that stood at no position but N−1 stands at none after the shift. -/
theorem State.Advances.shifted_away {s : State} {ws : List WorkItem} (h : s.Advances ws) {n : Nat}
    (away : ∀ j, j < 16 → j + 1 ≠ s.count → s.palletAt j ≠ some n) (k : Nat) : s.shifted.palletAt k ≠ some n := fun here => by
  have high := h.high
  rcases h.shifted_palletAt here with ⟨a, b, c⟩ | ⟨a, b, c⟩
  · exact away k b (by omega) c
  · exact away (k - 1) (by omega) (by omega) c

/-- Settles O21: the line moves up, every position is given its order, the times are taken and the motion ends. -/
theorem advanceShiftsTheLine : Obligations.AdvanceShiftsTheLine := by
  intro ws s sound shaped head state low high load active used config
  have h : s.Advances ws := ⟨sound, shaped, head, state, low, high, ⟨load, active⟩, used⟩
  obtain ⟨t, taken, ends⟩ := h.taken
  obtain ⟨slots, positions, details, startTimers, links, out, frame⟩ := h.advanced_frame
  have pos : ∀ k, t.pos k = s.shifted.ordersNext.pos k := ends.pos
  have detail : ∀ k, t.detail k = s.shifted.ordersNext.detail k := ends.detail
  have pallet : ∀ n, t.pallet n = s.shifted.ordersNext.pallet n := ends.pallet
  obtain ⟨o, first, -, -, -, feed, -⟩ := h.gives (k := 0) (by omega)
  obtain rfl := feed active load
  have queue : t.rst.returnQueue = s.shifted.rst.returnQueue := by rw [ends.store, frame]
  refine ⟨t, taken, fun k hk => ?_, fun k hk => ?_, fun k hk bypass => ?_, fun k hk _ => ?_, ?_, ?_, fun k hk => ?_, fun n p here hp => ?_,
    fun none_there => ?_, ?_, ?_, ?_, ends.motion, ends.flags.1, ends.flags.2, ?_, fun c => ?_, fun c => ?_, ?_, ?_, ?_, ?_, ?_, ?_⟩
  · obtain ⟨o, e, -⟩ := h.gives hk
    rw [pos, e]; rfl
  · obtain ⟨o, e, -⟩ := h.gives hk
    rw [pos, e]; exact ⟨rfl, rfl, rfl, rfl, rfl⟩
  · obtain ⟨o, e, d, -, rest, -⟩ := h.gives hk
    obtain rfl := rest bypass
    rw [pos, detail, e, d]; exact ⟨rfl, rfl, rfl⟩
  · obtain ⟨o, e, d, -⟩ := h.gives hk
    rw [pos, detail, e, d]; exact Position.given_cases _ _ _ o
  · rw [pos, first, Position.given]; rfl
  · rw [pos, first, Position.given]
  · obtain ⟨e, d⟩ := s.shifted.ordersNext_outside (k := k) (by rwa [h.shifted_count])
    obtain ⟨_, _, _, _, before⟩ := h.shifted_frame
    rw [pos, detail, e, d, h.shifted_pos_outside hk, before]; exact ⟨rfl, rfl⟩
  · obtain ⟨left, tail, due⟩ := h.leaver here hp
    refine ⟨queue.trans tail, fun gone => ?_, fun away => ?_, fun m => ?_⟩
    · have kept := State.foldl_orderNext_divert (List.range 16) s.shifted n
      rw [← s.shifted.ordersNext_eq, ← pallet, left, if_pos gone] at kept
      simpa using kept
    · rw [pallet, State.ordersNext_pallet_away _ fun k _ => h.shifted_away away k, left]
    · have out_shifted : s.advanced.liu.attentions = s.shifted.liu.attentions := by
        obtain ⟨ls, links⟩ := s.shifted.ordersNext_issues.links
        rw [State.advanced, State.onCtm_liu, links]
      rw [ends.out, out_shifted, due m]
  · rw [queue, State.shifted, State.sendAway_empty (s := s.popWork) none_there]; rfl
  · rw [ends.store, frame]
  · rw [ends.store, frame]
  · rw [ends.store, frame]
  · rw [ends.state, frame]
  · have e := ends.config
    rw [frame] at e; exact e c
  · have e := ends.calm
    rw [frame] at e; exact e c
  · rw [ends.times, frame]; rfl
  · rw [ends.times, frame]; rfl
  · rw [ends.times, frame]
    refine ⟨fun v hv => ⟨?_, ?_⟩, fun hv => ⟨?_, ?_⟩, fun v hv => ?_, fun hv => ?_⟩ <;> simp only [Ctm.advance, hv] <;> rfl
  · rw [ends.times, frame]; rfl
  · rw [ends.wires, frame]
  · rw [ends.tracker, frame]; rfl

end Sys2Proof.Machine
end

section
/-! SUPPORT. The orders that the advance issues (O22). -/

namespace Sys2Proof.Machine

/-! ### The records and the decisions after the shift -/

/-- Where each pallet stands at one position, it does after the shift. -/
theorem State.Advances.shifted_alone {s : State} {ws : List WorkItem} (h : s.Advances ws)
    (unique : ∀ i j n, i < 16 → j < 16 → s.palletAt i = some n → s.palletAt j = some n → i = j) (k : Nat) : s.shifted.Alone k := by
  intro n here j _ ne there
  have high := h.high
  rcases h.shifted_palletAt here with ⟨a, b, x⟩ | ⟨a, b, x⟩ <;> rcases h.shifted_palletAt there with ⟨c, d, y⟩ | ⟨c, d, y⟩ <;>
    have := unique _ _ n (by omega) (by omega) x y <;> omega

theorem State.Advances.shifted_palletAt_line {s : State} {ws : List WorkItem} (h : s.Advances ws) {k : Nat} (first : 0 < k)
    (hk : k < s.count) : s.shifted.palletAt k = s.palletAt (k - 1) := by
  rw [State.palletAt, h.shifted_pos hk, if_neg (by omega)]; rfl

theorem State.shifted_pallet {s : State} {n : Nat} (h : s.palletAt (s.count - 1) ≠ some n) : s.shifted.pallet n = s.pallet n :=
  State.sendAway_pallet_other (s := s.popWork) h

theorem State.Advances.shifted_due {s : State} {ws : List WorkItem} (h : s.Advances ws) (k : Nat) (w : Workpiece) :
    (s.shifted.Due k w ↔ s.Due k w) ∧ s.shifted.routing w.variant k = s.routing w.variant k := by
  obtain ⟨_, _, _, _, e⟩ := h.shifted_frame
  rw [e]; exact ⟨.rfl, rfl⟩

theorem State.Advances.shifted_routeOf {s : State} {ws : List WorkItem} (h : s.Advances ws) (q : Pallet) :
    s.shifted.routeOf q = if q.divert = true ∨ s.maintenanceDue q = true then .out else .loop := by
  obtain ⟨_, _, _, _, e⟩ := h.shifted_frame
  rw [e]
  exact if_congr (Bool.or_eq_true _ _).to_iff rfl rfl

/-- The decision of R77 for the block that arrives at position `k`. -/
theorem State.Advances.decision {s : State} {ws : List WorkItem} (h : s.Advances ws) {k : Nat} (first : 0 < k) (hk : k < s.count)
    (records : ∀ n, s.palletAt (k - 1) = some n → s.shifted.pallet n = s.pallet n) :
    (∀ n q w, s.palletAt (k - 1) = some n → s.pallet n = some q → q.workpiece = some w → s.Due k w →
      s.shifted.orderDecision k = some (s.routing w.variant k)) ∧
    (¬(∃ n q w, s.palletAt (k - 1) = some n ∧ s.pallet n = some q ∧ q.workpiece = some w ∧ s.Due k w) →
      s.shifted.orderDecision k = none) := by
  have place := h.shifted_palletAt_line first hk
  refine ⟨fun n q w here hq hw due => ?_, fun none_due => ?_⟩
  · obtain ⟨due_iff, routing⟩ := h.shifted_due k w
    rw [← routing]
    exact (State.orderDecision_block (place.trans here) ((records n here).trans hq) hw).1 (due_iff.mpr due)
  · by_cases block : ∃ n q w, s.shifted.palletAt k = some n ∧ s.shifted.pallet n = some q ∧ q.workpiece = some w
    · obtain ⟨n, q, w, here, hq, hw⟩ := block
      refine (State.orderDecision_block here hq hw).2 fun due => none_due ?_
      rw [place] at here
      exact ⟨n, q, w, here, (records n here).symm.trans hq, hw, (h.shifted_due k w).1.mp due⟩
    · exact State.orderDecision_bare block

/-! ### The order by the position's kind -/

theorem State.nextOrder_bypass {s : State} {k : Nat} (h : (s.pos k).mode = .bypass) : s.nextOrder k = .rest := by
  rw [State.nextOrder, h]

/-- A PROCESS or CHECK position is given an order of its kind. -/
theorem State.nextOrder_working {s : State} {k : Nat} (active : (s.pos k).mode = .active)
    (working : (s.pos k).kind = .process ∨ (s.pos k).kind = .check) :
    s.nextOrder k = .ofProgram (if (s.pos k).kind = .process then .process else .check) (s.orderDecision k) := by
  rcases working with kind | kind <;> rw [State.nextOrder, active, kind] <;> rfl

theorem State.nextOrder_unload {s : State} {k : Nat} (active : (s.pos k).mode = .active) (kind : (s.pos k).kind = .unload) :
    s.nextOrder k = .ofUnload (s.unloadDecision k) := by
  rw [State.nextOrder, active, kind]

/-! ### What the advance leaves at each position -/

/-- The advance of a sound line in which each pallet stands at one position, and the state it leaves. -/
structure State.AdvancesTo (s t : State) (ws : List WorkItem) : Prop where
  line : s.Advances ws
  unique : ∀ i j n, i < 16 → j < 16 → s.palletAt i = some n → s.palletAt j = some n → i = j
  ends : s.advanced.EndsAdvance t

/-- A position that is given no order. -/
def State.Resting (s : State) (k : Nat) : Prop :=
  (s.pos k).phase = .idle ∧ (s.pos k).orderKind = .noOrder ∧ (s.pos k).program = none ∧ (s.pos k).instruction = none

/-- A position that is given an order to start (R76, R86). -/
def State.Started (s : State) (k : Nat) (kind : OrderKind) (g : Option Nat) (i : Option Instruction) : Prop :=
  (s.pos k).phase = .ordered ∧ (s.pos k).orderKind = kind ∧ (s.pos k).program = g ∧ (s.pos k).instruction = i ∧ s.startTimer k = some 0

section
variable {s t : State} {ws : List WorkItem} {k n : Nat}

theorem State.AdvancesTo.pallet (h : s.AdvancesTo t ws) : t.pallet n = s.shifted.ordersNext.pallet n := h.ends.pallet n

theorem State.AdvancesTo.order (h : s.AdvancesTo t ws) (hk : k < s.count) :
    t.pos k = ({ s.pos k with occupant := if k = 0 then .empty else (s.pos (k - 1)).occupant } : Position).given (s.shifted.nextOrder k) ∧
      ((s.pos k).mode = .active → t.startTimer k = if (s.shifted.nextOrder k).kind.timed then some 0 else none) := by
  obtain ⟨o, pos, -, timer, -, -, decided⟩ := h.line.gives hk
  obtain rfl := decided (h.line.shifted_alone h.unique k)
  exact ⟨(h.ends.pos k).trans pos, fun active => (h.ends.startTimer k).trans (timer active)⟩

theorem State.AdvancesTo.resting (h : s.AdvancesTo t ws) (hk : k < s.count) (o : s.shifted.nextOrder k = .rest) : t.Resting k := by
  obtain ⟨given, -⟩ := h.order hk
  rw [State.Resting, given, o]; exact ⟨rfl, rfl, rfl, rfl⟩

theorem State.AdvancesTo.started (h : s.AdvancesTo t ws) (hk : k < s.count) (active : (s.pos k).mode = .active) {kind : OrderKind}
    {g : Option Nat} {i : Option Instruction} (timed : kind.timed = true)
    (o : s.shifted.nextOrder k = { kind := kind, program := g, instruction := i }) : t.Started k kind g i := by
  obtain ⟨given, timer⟩ := h.order hk
  have outstanding : kind ≠ .noOrder := by rintro rfl; cases timed
  rw [State.Started, given, timer active, o]
  exact ⟨by simp [Position.given, outstanding], rfl, rfl, rfl, if_pos timed⟩

/-- The record of a pallet after its position's step. -/
theorem State.AdvancesTo.passes (h : s.AdvancesTo t ws) (hk : k < 16) (here : s.shifted.palletAt k = some n) :
    t.pallet n = s.shifted.afterPass k n := h.pallet.trans (State.ordersNext_pallet hk here (h.line.shifted_alone h.unique k))

/-- A pallet that stays in the line, or stands outside it, keeps its record when another leaves. -/
theorem State.AdvancesTo.stays (h : s.AdvancesTo t ws) (hk : k < 16) (here : s.palletAt k = some n) (inner : k + 1 ≠ s.count) :
    s.shifted.pallet n = s.pallet n := State.shifted_pallet fun last => inner (by
  have low := h.line.low
  have high := h.line.high
  have := h.unique _ _ n hk (by omega) here last
  omega)

/-- The decision of R77 for the block that arrives at a position. -/
theorem State.AdvancesTo.decision (h : s.AdvancesTo t ws) (first : 0 < k) (hk : k < s.count) :
    (∀ n q w, s.palletAt (k - 1) = some n → s.pallet n = some q → q.workpiece = some w → s.Due k w →
      s.shifted.orderDecision k = some (s.routing w.variant k)) ∧
    (¬(∃ n q w, s.palletAt (k - 1) = some n ∧ s.pallet n = some q ∧ q.workpiece = some w ∧ s.Due k w) →
      s.shifted.orderDecision k = none) :=
  h.line.decision first hk fun n here => h.stays (by have := h.line.high; omega) here (by omega)

/-- A PROCESS or CHECK position is given its order where the block that arrives is due, and takes no order otherwise. -/
theorem State.AdvancesTo.working (h : s.AdvancesTo t ws) (hk : k < s.count) (active : (s.pos k).mode = .active)
    (working : (s.pos k).kind = .process ∨ (s.pos k).kind = .check) :
    (∀ g, s.shifted.orderDecision k = some g → t.Started k (if (s.pos k).kind = .process then .process else .check) (some g) none) ∧
    (s.shifted.orderDecision k = none → t.Resting k) := by
  have pos := h.line.shifted_pos hk
  have o := State.nextOrder_working (s := s.shifted) (k := k) (by rw [pos]; exact active) (by rw [pos]; exact working)
  refine ⟨fun g due => h.started hk active ?_ ?_, fun rest => h.resting hk ?_⟩
  · split <;> rfl
  · rw [o, due, pos]; rfl
  · rw [o, rest]; rfl

/-- The record of the pallet that arrives at an ACTIVE position, or at one whose block is not due. -/
theorem State.AdvancesTo.unmissed (h : s.AdvancesTo t ws) (first : 0 < k) (hk : k < s.count) (here : s.palletAt (k - 1) = some n)
    (unmissed : (s.pos k).mode = .active ∨ s.shifted.orderDecision k = none) : t.pallet n = s.pallet n := by
  have high := h.line.high
  rw [h.passes (by omega) ((h.line.shifted_palletAt_line first hk).trans here), ← h.stays (by omega) here (by omega)]
  rcases unmissed with active | rest
  · exact State.afterPass_active (by rw [h.line.shifted_pos hk]; exact active) n
  · simp [State.afterPass, rest]

/-- The record of the pallet whose block is due where it arrives in BYPASS (R78). -/
theorem State.AdvancesTo.missed (h : s.AdvancesTo t ws) (first : 0 < k) (hk : k < s.count) (bypass : (s.pos k).mode = .bypass)
    {g : Nat} {q : Pallet} (here : s.palletAt (k - 1) = some n) (hq : s.pallet n = some q) (due : s.shifted.orderDecision k = some g) :
    t.pallet n = some { q with workpiece := q.workpiece.map fun w => w.record k g .missed none } := by
  have high := h.line.high
  have there := (h.line.shifted_palletAt_line first hk).trans here
  have passed : k < s.shifted.count ∧ (s.shifted.pos k).mode = .bypass ∧ s.shifted.palletAt k = some n :=
    ⟨by rwa [h.line.shifted_count], by rw [h.line.shifted_pos hk]; exact bypass, there⟩
  rw [h.passes (by omega) there, State.afterPass, if_pos passed, due, h.stays (by omega) here (by omega), hq]; rfl

/-- Position N−1, or any ACTIVE position of kind UNLOAD, is given the lane and the route of R113. -/
theorem State.AdvancesTo.unload (h : s.AdvancesTo t ws) (first : 0 < k) (hk : k < s.count) (active : (s.pos k).mode = .active)
    (kind : (s.pos k).kind = .unload) :
    (∀ n q, s.palletAt (k - 1) = some n → s.pallet n = some q → t.Started k .unload none (some (.unload (laneOf q.workpiece)
      (if q.divert = true ∨ s.maintenanceDue q = true then .out else .loop)))) ∧
    (s.palletAt (k - 1) = none → t.Resting k) := by
  have high := h.line.high
  have pos := h.line.shifted_pos hk
  have place := h.line.shifted_palletAt_line first hk
  have o := State.nextOrder_unload (s := s.shifted) (k := k) (by rw [pos]; exact active) (by rw [pos]; exact kind)
  refine ⟨fun n q here hq => h.started hk active rfl ?_, fun bare => h.resting hk ?_⟩
  · have hq := (h.stays (by omega) here (by omega)).trans hq
    simp only [o, State.unloadDecision, place, here, hq, h.line.shifted_routeOf]; rfl
  · simp only [o, State.unloadDecision, place, bare]; rfl

/-- The ORDER frames (R57, R93). -/
theorem State.AdvancesTo.frames (h : s.AdvancesTo t ws) (links : s.liu.links.length = 18) :
    (∀ k, k < s.count → (s.pos k).mode = .active → (s.pos k).joined.isSome = true →
      (t.link (Link.at k)).unsolicited = some (.order (t.orderFrame k))) ∧
    (∀ k, k < 16 → s.count ≤ k ∨ (s.pos k).mode = .bypass ∨ (s.pos k).joined = none →
      (t.link (Link.at k)).unsolicited = (s.link (Link.at k)).unsolicited) := by
  have high := h.line.high
  obtain ⟨_, _, _, _, e⟩ := h.line.shifted_frame
  have line := h.line.shifted_count
  have used : ∀ k, k < s.count → s.shifted.unused k = false := fun k hk => by
    rw [State.unused, h.line.shifted_pos hk]; exact h.line.used k hk
  refine ⟨fun k hk active joined => ?_, fun k hk rest => ?_⟩
  · have pos := h.line.shifted_pos hk
    rw [h.ends.stations k (by omega), h.ends.orderFrame]
    exact State.ordersNext_posts (by omega) (by rw [e]; exact links) (by omega) (by rw [pos]; exact active) (used k hk)
      (by rw [pos]; exact joined) (h.line.hasEntry (by omega)) (h.line.shifted_alone h.unique k)
  · have rest : s.shifted.count ≤ k ∨ (s.shifted.pos k).mode = .bypass ∨ (s.shifted.pos k).joined = none := by
      by_cases hk : k < s.count
      · rw [h.line.shifted_pos hk, line]; exact rest
      · exact .inl (by omega)
    have silent := State.ordersNext_silent hk (by rw [line]; exact used k) (h.line.hasEntry hk) rest
    have before : s.shifted.link (Link.at k) = s.link (Link.at k) := by rw [e]; rfl
    rw [h.ends.stations k hk, ← before]
    exact congrArg _ silent

/-- The records of the pallets that arrive at no PROCESS, CHECK or BYPASS position. -/
theorem State.AdvancesTo.untouched (h : s.AdvancesTo t ws) :
    (∀ n q, s.palletAt (s.count - 1) = some n → s.pallet n = some q →
      t.pallet n = some (if q.divert = true ∨ s.maintenanceDue q = true then { q with divert := false } else q)) ∧
    (∀ k n, s.palletAt k = some n → s.count ≤ k ∨ (s.pos (k + 1)).mode = .active ∧ k + 1 < s.count → t.pallet n = s.pallet n) ∧
    (∀ n, (∀ k, k < 16 → s.palletAt k ≠ some n) → t.pallet n = s.pallet n) := by
  have high := h.line.high
  have low := h.line.low
  refine ⟨fun n q here hq => ?_, fun k n here place => ?_, fun n nowhere => ?_⟩
  · have away : ∀ j, j < 16 → j + 1 ≠ s.count → s.palletAt j ≠ some n := fun j hj inner there => by
      have := h.unique _ _ n hj (by omega) there here
      omega
    rw [h.pallet, State.ordersNext_pallet_away _ fun k _ => h.line.shifted_away away k, (h.line.leaver here hq).1]
  · rcases place with outside | ⟨active, inside⟩
    · have hk : k < 16 := h.line.shaped.1 ▸ State.palletAt_lt here
      have there : s.shifted.palletAt k = some n := by rw [State.palletAt, h.line.shifted_pos_outside outside]; exact here
      rw [h.passes hk there, ← h.stays hk here (by omega)]
      exact if_neg (by rw [h.line.shifted_count]; omega)
    · exact h.unmissed (k := k + 1) (by omega) inside here (.inl active)
  · rw [h.pallet, State.ordersNext_pallet_away _ fun k _ => h.line.shifted_away (fun j hj _ => nowhere j hj) k,
      State.shifted_pallet (nowhere _ (by omega))]

end

/-- Settles O22: the orders that the advance issues, their frames, and the records it changes. -/
theorem advanceIssuesTheNextOrders : Obligations.AdvanceIssuesTheNextOrders := by
  intro ws s sound shaped head state low high load active used links unique
  have line : s.Advances ws := ⟨sound, shaped, head, state, low, high, ⟨load, active⟩, used⟩
  obtain ⟨t, taken, ends⟩ := line.taken
  have h : s.AdvancesTo t ws := ⟨line, unique, ends⟩
  obtain ⟨posts, silent⟩ := h.frames links
  obtain ⟨left, kept, away⟩ := h.untouched
  refine ⟨t, taken, fun k first hk => ?_, ?_, ?_, ?_, posts, silent, left, fun k n here place => kept k n here (by tauto), away⟩
  · intro p working due resting started
    obtain ⟨decided, undecided⟩ := h.decision first hk
    have bypassed : p.mode = .bypass → resting := fun bypass =>
      h.resting hk (State.nextOrder_bypass (by rw [line.shifted_pos hk]; exact bypass))
    refine ⟨fun n q w works here hq hw isDue => ⟨fun active => ?_, fun bypass => ⟨bypassed bypass, ?_⟩⟩, fun works noneDue => ⟨?_, fun n here => ?_⟩,
      fun n q kind active here hq => ⟨?_, ?_⟩, fun kind active bare => (h.unload first hk active kind).2 bare⟩
    · exact ⟨(h.working hk active works).1 _ (decided n q w here hq hw isDue), (h.unmissed first hk here (.inl active)).trans hq⟩
    · have e := h.missed first hk bypass here hq (decided n q w here hq hw isDue)
      rwa [hw] at e
    · cases mode : p.mode with
      | active => exact (h.working hk mode works).2 (undecided noneDue)
      | bypass => exact bypassed mode
    · exact h.unmissed first hk here (.inr (undecided noneDue))
    · exact (h.unload first hk active kind).1 n q here hq
    · exact (h.unmissed first hk here (.inl active)).trans hq
  all_goals
    obtain ⟨given, timer⟩ := h.order (k := 0) (by omega)
    have feed : s.shifted.nextOrder 0 = { kind := .feed, program := none, instruction := none } := by
      rw [State.nextOrder, line.shifted_pos (by omega), active, load]
    rw [feed] at given timer
  · rw [given]; rfl
  · rw [given]; rfl
  · rw [timer active]; rfl

end Sys2Proof.Machine
end

section
/-! SUPPORT. The interlock (O7), its laws: the part of the state it speaks of, what keeps it there, and what the shared operations
make of it. -/

namespace Sys2Proof.Machine

/-! ### What the interlock looks at -/

/-- What the interlock asks of a position: kind, mode and phase. -/
structure Standing where
  kind : PositionKind
  mode : Mode
  phase : Phase

/-- The standing of a position table entry. -/
def Position.standing (p : Position) : Standing := { kind := p.kind, mode := p.mode, phase := p.phase }

/-- All that `State.Interlocked` speaks of. -/
structure Interlock where
  entries : Nat
  standing : Nat → Standing
  geometry : Option Geometry
  state : IxcState
  pending : Bool

/-- The interlock of a state. -/
def State.interlock (s : State) : Interlock :=
  { entries := s.rst.positions.length, standing := fun k => (s.pos k).standing, geometry := s.rst.geometry
    state := s.ixc.state, pending := s.ixc.motion.isSome }

/-- The laws on the position entries alone (R3, R11, R15). -/
structure Interlock.Lawful (x : Interlock) : Prop where
  entries : x.entries = 16
  range : ∀ g, x.geometry = some g → 3 ≤ g.count ∧ g.count ≤ 16
  kinds : ∀ k, k < 16 → (x.standing k).kind = kindOf x.geometry k
  bypassIdle : ∀ k, k < 16 → (x.standing k).mode = .bypass → (x.standing k).phase = .idle
  unusedIdle : ∀ k, k < 16 → (x.standing k).kind = .unused → (x.standing k).phase = .idle

/-- The interlock. Within the grant of the advance a position may stand in FAULT before the state does: `lax` leaves out that law. -/
structure Interlock.Holds (x : Interlock) (lax : Bool) : Prop extends x.Lawful where
  pendingQuiet : x.pending = true → ∀ k, k < 16 → (x.standing k).phase.outstanding = false
  movingPending : x.state.moving = true → x.pending = true
  movingClear : lax = false → x.state.moving = true → ∀ k, k < 16 → (x.standing k).phase ≠ .fault
  advancePending : x.state = .advance → x.pending = true
  restingClear : x.state = .halt ∨ x.state = .collect → x.pending = false

/-- The interlock of a state holds, but in the grant of the advance for its law on positions in FAULT. -/
abbrev State.Guarded (s : State) (lax : Bool) : Prop := s.interlock.Holds lax

theorem State.interlocked_iff (s : State) : s.Interlocked ↔ s.Guarded false := by
  constructor
  · rintro ⟨entries, range, kinds, bypass, unused, quiet, clear, advance, resting⟩
    exact ⟨⟨entries, range, kinds, bypass, unused⟩, quiet, fun h => (clear h).1, fun _ h => (clear h).2, advance, fun h => by
      simp [State.interlock, resting h]⟩
  · rintro ⟨⟨entries, range, kinds, bypass, unused⟩, quiet, pending, clear, advance, resting⟩
    exact ⟨entries, range, kinds, bypass, unused, quiet, fun h => ⟨pending h, clear rfl h⟩, advance, fun h => by
      simpa [State.interlock] using resting h⟩

/-- States whose positions, geometry and Index Controller agree have one interlock. -/
theorem State.interlock_congr {s t : State} (positions : t.rst.positions = s.rst.positions)
    (geometry : t.rst.geometry = s.rst.geometry) (ixc : t.ixc = s.ixc) : t.interlock = s.interlock := by
  simp only [State.interlock, State.pos, positions, geometry, ixc]

theorem State.interlock_of_rst {s t : State} (rst : t.rst = s.rst) (ixc : t.ixc = s.ixc) : t.interlock = s.interlock :=
  State.interlock_congr (by rw [rst]) (by rw [rst]) ixc

/-- States whose positions read alike have one interlock. -/
theorem State.interlock_of_pos {s t : State} (entries : t.rst.positions.length = s.rst.positions.length)
    (positions : ∀ k, (t.pos k).standing = (s.pos k).standing) (geometry : t.rst.geometry = s.rst.geometry) (ixc : t.ixc = s.ixc) :
    t.interlock = s.interlock := by
  simp only [State.interlock, entries, positions, geometry, ixc]

/-! ### What keeps the interlock -/

theorem Interlock.Holds.weaken {x : Interlock} {b : Bool} (h : x.Holds b) : x.Holds true := { h with movingClear := nofun }

/-- Outside a motion state positions may stand in FAULT. -/
theorem Interlock.Holds.close {x : Interlock} {b c : Bool} (h : x.Holds b) (still : x.state.moving = false) : x.Holds c :=
  { h with movingClear := fun _ m => by simp [still] at m }

/-- FAULT is entered with motion as it is (R60). -/
def Interlock.faulted (x : Interlock) : Interlock := { x with state := .fault }

theorem Interlock.Holds.faulted {x : Interlock} {b c : Bool} (h : x.Holds b) : x.faulted.Holds c :=
  ⟨⟨h.entries, h.range, h.kinds, h.bypassIdle, h.unusedIdle⟩, h.pendingQuiet, nofun, nofun, nofun, fun e => by
    simp [Interlock.faulted] at e⟩

/-- At rest with no motion pending nothing is asked but the laws on the entries (R43). -/
theorem Interlock.Lawful.rests {x : Interlock} {c : Bool} (h : x.Lawful) (still : x.state.moving = false) (away : x.state ≠ .advance)
    (clear : x.pending = false) : x.Holds c :=
  ⟨h, fun e => by simp [clear] at e, fun e => by simp [still] at e, fun _ e => by simp [still] at e, fun e => absurd e away, fun _ => clear⟩

/-- A motion state leads to a motion state or to ADVANCE (R49). -/
theorem Interlock.Holds.moves {x : Interlock} (h : x.Holds false) (moving : x.state.moving = true) {y : IxcState}
    (hy : y.abortable = true) : ({ x with state := y } : Interlock).Holds false :=
  ⟨⟨h.entries, h.range, h.kinds, h.bypassIdle, h.unusedIdle⟩, h.pendingQuiet, fun _ => h.movingPending moving,
    fun _ _ => h.movingClear rfl moving, fun _ => h.movingPending moving, fun e => by
      rcases e with rfl | rfl <;> exact absurd hy (by decide)⟩

/-- PERMIT is entered where every position is idle or done (R46). -/
theorem Interlock.Lawful.begins {x : Interlock} (h : x.Lawful) (calm : ∀ k, k < 16 → (x.standing k).phase = .idle ∨ (x.standing k).phase = .done) :
    ({ x with state := .permit, pending := true } : Interlock).Holds false :=
  ⟨⟨h.entries, h.range, h.kinds, h.bypassIdle, h.unusedIdle⟩, fun _ k hk => by rcases calm k hk with e | e <;> simp [e, Phase.outstanding],
    fun _ => rfl, fun _ _ k hk => by rcases calm k hk with e | e <;> simp [e], nofun, fun e => by simp at e⟩

/-- What may be written at position `k`: its kind, and IDLE in BYPASS and UNUSED (R11, R15). -/
structure Interlock.Fits (x : Interlock) (k : Nat) (p : Standing) : Prop where
  kind : p.kind = (x.standing k).kind
  bypass : p.mode = .bypass → p.phase = .idle
  unused : p.kind = .unused → p.phase = .idle

/-- The interlock with another standing at position `k`. -/
def Interlock.put (x : Interlock) (k : Nat) (p : Standing) : Interlock := { x with standing := fun j => if j = k then p else x.standing j }

theorem Interlock.Lawful.put {x : Interlock} (h : x.Lawful) {k : Nat} {p : Standing} (fits : x.Fits k p) : (x.put k p).Lawful := by
  refine ⟨h.entries, h.range, fun j hj => ?_, fun j hj => ?_, fun j hj => ?_⟩ <;> simp only [Interlock.put] <;> split
  · next e => subst e; exact fits.kind.trans (h.kinds j hj)
  · exact h.kinds j hj
  · exact fits.bypass
  · exact h.bypassIdle j hj
  · exact fits.unused
  · exact h.unusedIdle j hj

theorem Interlock.Holds.put {x : Interlock} {b : Bool} (h : x.Holds b) {k : Nat} {p : Standing} (fits : x.Fits k p)
    (quiet : x.pending = true → p.phase.outstanding = false) (clear : b = false → x.state.moving = true → p.phase ≠ .fault) :
    (x.put k p).Holds b := by
  refine ⟨h.toLawful.put fits, fun m j hj => ?_, h.movingPending, fun hb m j hj => ?_, h.advancePending, h.restingClear⟩ <;>
    simp only [Interlock.put] <;> split
  · exact quiet m
  · exact h.pendingQuiet m j hj
  · exact clear hb m
  · exact h.movingClear hb m j hj

/-- An idle standing fits every position of its kind. -/
theorem Interlock.fits_idle {x : Interlock} {k : Nat} {p : Standing} (kind : p.kind = (x.standing k).kind) (idle : p.phase = .idle) :
    x.Fits k p := ⟨kind, fun _ => idle, fun _ => idle⟩

/-- A position that is not IDLE is ACTIVE and in the line: any phase fits it. -/
theorem Interlock.Lawful.fits_busy {x : Interlock} (h : x.Lawful) {k : Nat} (hk : k < 16) (busy : (x.standing k).phase ≠ .idle) {p : Standing}
    (kind : p.kind = (x.standing k).kind) (mode : p.mode = (x.standing k).mode) : x.Fits k p :=
  ⟨kind, fun e => absurd (h.bypassIdle k hk (mode ▸ e)) busy, fun e => absurd (h.unusedIdle k hk (kind ▸ e)) busy⟩

/-! ### The interlock after an update of a position -/

theorem State.interlock_onPos (s : State) {k : Nat} (f : Position → Position) (hk : k < s.rst.positions.length) :
    (s.onPos k f).interlock = s.interlock.put k (f (s.pos k)).standing := by
  have e : (fun j => ((s.onPos k f).pos j).standing) = fun j => if j = k then (f (s.pos k)).standing else (s.pos j).standing := by
    funext j
    split
    · next e => subst e; rw [s.pos_onPos_self f hk]
    · next e => rw [s.pos_onPos_ne f e]
  simp only [State.interlock, e, State.onPos_length, Interlock.put]
  rfl

/-- A position that the table does not have is not updated. -/
theorem State.onPos_outside (s : State) {k : Nat} (f : Position → Position) (hk : s.rst.positions.length ≤ k) : s.onPos k f = s := by
  simp only [State.onPos, State.onRst, List.modify_eq_self hk]

/-- An update that keeps every standing keeps the interlock. -/
theorem State.onPos_interlock (s : State) (k : Nat) (f : Position → Position) (h : ∀ p, (f p).standing = p.standing) :
    (s.onPos k f).interlock = s.interlock := by
  refine State.interlock_of_pos (s.onPos_length k f) (fun j => ?_) rfl rfl
  by_cases e : j = k
  · subst e
    by_cases c : j < s.rst.positions.length
    · rw [s.pos_onPos_self f c, h]
    · rw [s.onPos_outside f (Nat.not_lt.mp c)]
  · rw [s.pos_onPos_ne f e]

/-- An update of a position keeps the laws on the entries where what it writes fits. -/
theorem State.lawful_onPos {s : State} (h : s.interlock.Lawful) (k : Nat) (f : Position → Position)
    (fits : k < 16 → s.interlock.Fits k (f (s.pos k)).standing) : (s.onPos k f).interlock.Lawful := by
  have entries : s.rst.positions.length = 16 := h.entries
  by_cases hk : k < 16
  · rw [s.interlock_onPos f (by omega)]; exact h.put (fits hk)
  · rw [s.onPos_outside f (by omega)]; exact h

theorem State.Guarded.onPos {s : State} {b : Bool} (h : s.Guarded b) (k : Nat) (f : Position → Position)
    (fits : k < 16 → s.interlock.Fits k (f (s.pos k)).standing)
    (quiet : k < 16 → s.ixc.motion.isSome = true → (f (s.pos k)).phase.outstanding = false)
    (clear : k < 16 → b = false → s.ixc.state.moving = true → (f (s.pos k)).phase ≠ .fault) : (s.onPos k f).Guarded b := by
  have entries : s.rst.positions.length = 16 := h.entries
  by_cases hk : k < 16
  · rw [State.Guarded, s.interlock_onPos f (by omega)]; exact h.put (fits hk) (quiet hk) (clear hk)
  · rw [s.onPos_outside f (by omega)]; exact h

end Sys2Proof.Machine
end

section
/-! SUPPORT. The interlock (O7): the shared operations on motion, collection and orders. -/

namespace Sys2Proof.Machine

/-! ### Operations that leave it as it is -/

@[simp] theorem State.onDetail_interlock (s : State) (k : Nat) (f : OrderDetail → OrderDetail) : (s.onDetail k f).interlock = s.interlock := rfl
@[simp] theorem State.stopTimers_interlock (s : State) (k : Nat) : (s.stopTimers k).interlock = s.interlock := rfl
@[simp] theorem State.postStatus_interlock (s : State) : s.postStatus.interlock = s.interlock := rfl
@[simp] theorem State.postOrder_interlock (s : State) (k : Nat) : (s.postOrder k).interlock = s.interlock := rfl

@[simp] theorem State.closeEvent_interlock (s t : State) : (State.closeEvent s t).interlock = t.interlock := by
  unfold State.closeEvent; split <;> rfl

@[simp] theorem State.setOccupant_interlock (s : State) (k : Nat) (o : Occupant) : (s.setOccupant k o).interlock = s.interlock :=
  s.onPos_interlock k _ fun _ => rfl

/-- The end of an order leaves the interlock where it leaves every standing. -/
theorem State.OrdersOnly.interlock {s t : State} (h : s.OrdersOnly t) (positions : ∀ k, t.pos k = s.pos k) : t.interlock = s.interlock := by
  obtain ⟨_, _, _, store⟩ := h.store
  exact State.interlock_of_pos h.positions (fun k => by rw [positions]) (by rw [store]) h.ixc

@[simp] theorem State.recordResult_interlock (s : State) (k g : Nat) (r : HistoryResult) (w : Option Nat) :
    (s.recordResult k g r w).interlock = s.interlock := (s.recordResult_orders k g r w).interlock fun j => (s.recordResult_same k g r w j).1

@[simp] theorem State.cancelOrder_interlock (s : State) (k : Nat) (c : Cancellation) : (s.cancelOrder k c).interlock = s.interlock :=
  (s.cancelOrder_orders k c).interlock (s.cancelOrder_pos k c)

@[simp] theorem State.cancelOutstanding_interlock (s : State) (k : Nat) : (s.cancelOutstanding k).interlock = s.interlock :=
  (s.cancelOutstanding_orders k).interlock (s.cancelOutstanding_pos k)

@[simp] theorem State.writeOrder_interlock (s : State) (k n : Nat) (o : OrderKind) (g : Option Nat) (i : Option Instruction) :
    (s.writeOrder k n o g i).interlock = s.interlock := s.onPos_interlock k _ fun _ => rfl

theorem foldl_interlock {α : Type} {f : State → α → State} (h : ∀ u x, (f u x).interlock = u.interlock) (xs : List α) (s : State) :
    (xs.foldl f s).interlock = s.interlock := foldl_keeps (g := State.interlock) h xs s

@[simp] theorem State.endSweep_interlock (s : State) : s.endSweep.interlock = s.interlock := by unfold State.endSweep; split <;> rfl

@[simp] theorem State.checkSweepEnd_interlock (s : State) : s.checkSweepEnd.interlock = s.interlock := by
  unfold State.checkSweepEnd; split <;> simp

@[simp] theorem State.tightenReseat_interlock (s : State) : s.tightenReseat.interlock = s.interlock := by
  unfold State.tightenReseat
  split <;> [rfl; split] <;> rfl

@[simp] theorem State.postMotion_interlock (s : State) (x : MotionStep) : (s.postMotion x).interlock = s.interlock := by
  unfold State.postMotion; split <;> rfl

@[simp] theorem State.recordGate_interlock (s : State) (g : Gate) : (s.recordGate g).interlock = s.interlock := by cases g <;> rfl

@[simp] theorem State.startIndexTimer_interlock (s : State) : s.startIndexTimer.interlock = s.interlock := rfl

@[simp] theorem State.checkOverrun_interlock (s : State) (k : Nat) : (s.checkOverrun k).interlock = s.interlock :=
  State.interlock_of_rst (s.checkOverrun_rst k) (s.checkOverrun_direct k).ixc

@[simp] theorem State.reformLimit_interlock (s : State) (k : Nat) : (s.reformLimit k).interlock = s.interlock :=
  State.interlock_of_rst (s.reformLimit_rst k) (s.reformLimit_direct k).ixc

@[simp] theorem State.directWritten_interlock (s : State) : s.directWritten.interlock = s.interlock :=
  State.interlock_of_rst s.directWritten_rst s.directWritten_direct.ixc

@[simp] theorem State.emptyWindows_interlock (s : State) : s.emptyWindows.interlock = s.interlock := by
  obtain ⟨w, c, e, -, -, h⟩ := s.emptyWindows_frame
  rw [h]; rfl

theorem State.onSlot_interlock (s : State) (i : Nat) (f : Pallet → Pallet) : (s.onSlot i f).interlock = s.interlock := rfl

/-! ### Entries to FAULT -/

/-- The entry to FAULT leaves the positions, the geometry and the pending motion (R60). -/
@[simp] theorem State.enterFault_interlock (s : State) (c : Cause) (x : Option SeatCheck) :
    (s.enterFault c x).interlock = s.interlock.faulted := by
  have h := s.enterFault_enters c x
  simp only [State.interlock, Interlock.faulted, State.pos, State.enterFault_rst, h.state, h.motion]

theorem State.Guarded.enterFault {s : State} {b b' : Bool} (h : s.Guarded b) (c : Cause) (x : Option SeatCheck) :
    (s.enterFault c x).Guarded b' := by
  rw [State.Guarded, State.enterFault_interlock]; exact h.faulted

/-- A position in FAULT aborts a motion, and is allowed outside one (R55, R59, R61). -/
theorem State.Guarded.abortMotion {s : State} {b b' : Bool} (h : s.Guarded b) (c : Cause) : (s.abortMotion c).Guarded b' := by
  unfold State.abortMotion
  split
  · exact h.enterFault c none
  · next still =>
    refine h.close (Bool.eq_false_iff.mpr fun moving => still ?_)
    exact (IxcState.abortable_iff _).mpr (.inl moving)

theorem State.Guarded.abortMoving {s : State} {b : Bool} (h : s.Guarded b) (c : Cause) : (s.abortMoving c).Guarded b := by
  unfold State.abortMoving
  split <;> [exact h.enterFault c none; exact h]

theorem State.Guarded.checkEntry {s : State} {b : Bool} (h : s.Guarded b) : s.checkEntry.Guarded b := by
  unfold State.checkEntry
  split_ifs
  · exact h
  · exact h.enterFault _ _
  · exact h.enterFault _ _
  · exact h

theorem State.Guarded.of_same {s t : State} {b : Bool} (h : s.Guarded b) (e : t.interlock = s.interlock) : t.Guarded b := by
  rwa [State.Guarded, e]

theorem State.Guarded.counterChanged {s : State} {b : Bool} (h : s.Guarded b) : s.counterChanged.Guarded b := by
  have tight : s.tightenReseat.Guarded b := h.of_same s.tightenReseat_interlock
  unfold State.counterChanged
  dsimp only
  split
  · exact tight.enterFault _ _
  · exact tight.of_same (State.checkSweepEnd_interlock _)

/-! ### Entries to PERMIT -/

@[simp] theorem State.beginMotion_interlock (s : State) (k : MotionKind) (m : Mask) :
    (s.beginMotion k m).interlock = { s.interlock with state := .permit, pending := true } := by
  unfold State.beginMotion
  rw [State.postMotion_interlock]
  cases k <;> rfl

/-- A position outside the line is UNUSED, so it is idle (R3, R11). -/
theorem Interlock.Lawful.outside_idle {s : State} (h : s.interlock.Lawful) {k : Nat} (hk : k < 16) (out : s.count ≤ k) :
    (s.pos k).phase = .idle := by
  refine h.unusedIdle k hk ((h.kinds k hk).trans ?_)
  rw [State.count] at out
  change kindOf s.rst.geometry k = _
  cases hg : s.rst.geometry with
  | none => rfl
  | some g => exact if_pos (by simpa [hg] using out)

/-- Every position is idle or done where the six conditions of R46 hold: those in BYPASS and those outside the line are idle. -/
theorem State.Released.calm {s : State} (r : s.Released) (h : s.interlock.Lawful) :
    ∀ k, k < 16 → (s.pos k).phase = .idle ∨ (s.pos k).phase = .done := by
  intro k hk
  by_cases line : k < s.count
  · cases mode : (s.pos k).mode with
    | active => exact (r.stations k line mode).2.1
    | bypass => exact .inl (h.bypassIdle k hk mode)
  · exact .inl (h.outside_idle hk (Nat.not_lt.mp line))

/-- The collection completes in an interlocked state only (R44, R46). -/
theorem State.Guarded.testCollection {s : State} (h : s.Guarded false) (g : Gate) : (s.testCollection g).Guarded false := by
  unfold State.testCollection
  split
  · next c =>
    have calm := (s.released_iff.mpr c).calm h.toLawful
    refine State.Guarded.checkEntry ?_
    rw [State.Guarded, State.startIndexTimer_interlock, State.recordGate_interlock, State.beginMotion_interlock]
    exact h.toLawful.begins calm
  · exact h

/-! ### The ends of motions -/

theorem State.Guarded.enterHalt {s : State} {b : Bool} (h : s.interlock.Lawful) (clear : s.ixc.motion = none) : s.enterHalt.Guarded b :=
  Interlock.Lawful.rests (x := s.enterHalt.interlock) ⟨h.entries, h.range, h.kinds, h.bypassIdle, h.unusedIdle⟩ rfl nofun
    (by simp [State.interlock, State.enterHalt, clear])

theorem State.Guarded.enterCollect {s : State} (h : s.interlock.Lawful) (clear : s.ixc.motion = none) {test : State → State}
    (ht : ∀ u : State, u.Guarded false → (test u).Guarded false) : (s.enterCollect test).Guarded false := by
  have collecting : (s.onIxc fun i => { i with state := .collect }).Guarded false :=
    Interlock.Lawful.rests ⟨h.entries, h.range, h.kinds, h.bypassIdle, h.unusedIdle⟩ rfl nofun (by simp [State.interlock, clear])
  have home : (if s.pins.home then s.onIxc fun i => { i with state := .collect }
      else (s.onIxc fun i => { i with state := .collect }).startHomeTimer).Guarded false := by
    split <;> exact collecting
  unfold State.enterCollect
  dsimp only
  split
  · exact home.enterFault _ _
  · exact ht _ home

theorem State.Guarded.endMotion {s : State} (h : s.interlock.Lawful) {test : State → State}
    (ht : ∀ u : State, u.Guarded false → (test u).Guarded false) : (s.endMotion test).Guarded false := by
  have lawful : (s.onIxc fun i => { i with motion := none }).interlock.Lawful := ⟨h.entries, h.range, h.kinds, h.bypassIdle, h.unusedIdle⟩
  unfold State.endMotion
  dsimp only
  split
  · exact .enterHalt lawful rfl
  · exact .enterCollect lawful rfl ht

/-- The checks of R53 and R54 are made in SETTLE; they lead to FAULT, to ADVANCE or to the end of a BACK motion. -/
theorem State.Guarded.endSettle {s : State} (h : s.Guarded false) (moving : s.ixc.state.moving = true) {test : State → State}
    (ht : ∀ u : State, u.Guarded false → (test u).Guarded false) : (s.endSettle test).Guarded false := by
  unfold State.endSettle
  split
  · exact h
  · next m _ =>
    split_ifs
    · exact h.enterFault _ _
    · exact h.enterFault _ _
    · unfold State.motionSucceeded
      cases m.kind with
      | index | learn | forward => exact h.moves moving rfl
      | back =>
        refine State.Guarded.endMotion ?_ ht
        exact h.toLawful

end Sys2Proof.Machine
end

section
/-! SUPPORT. The interlock (O7): the reading of cells with its repairs, and what a grant and an event do around their operations. -/

namespace Sys2Proof.Machine

/-! ### The repair of the geometry (R165) -/

/-- The highest of the places without the property, counted from 1, and at least the first value. -/
theorem foldl_highest (p : Nat → Bool) (xs : List Nat) (a : Nat) :
    let n := xs.foldl (fun n k => if p k then n else max n (k + 1)) a
    a ≤ n ∧ (∀ k ∈ xs, p k = false → k < n) ∧ ∀ m, a ≤ m → (∀ k ∈ xs, k < m) → n ≤ m := by
  induction xs generalizing a with
  | nil => exact ⟨Nat.le_refl _, nofun, fun m h _ => h⟩
  | cons x xs ih =>
    obtain ⟨low, reached, high⟩ := ih (if p x then a else max a (x + 1))
    have step : a ≤ if p x then a else max a (x + 1) := by split <;> omega
    refine ⟨Nat.le_trans step low, fun k hk e => ?_, fun m ha hm => high m ?_ fun k hk => hm k (.tail x hk)⟩
    · rcases List.mem_cons.mp hk with rfl | hk
      · rw [List.foldl_cons, if_neg (by simp [e])]
        rw [if_neg (by simp [e])] at low
        exact Nat.le_trans (Nat.le_max_right a (k + 1)) low
      · exact reached k hk e
    · have := hm x (.head xs)
      split <;> omega

/-- The count that R165 rebuilds lies in its range, and covers every position that does not read UNUSED. -/
theorem State.rebuiltCount_covers (s : State) (bad : List Cell) :
    3 ≤ s.rebuiltCount bad ∧ s.rebuiltCount bad ≤ 16 ∧ ∀ k, k < 16 → s.rebuiltCount bad ≤ k → (s.pos k).kind = .unused := by
  obtain ⟨low, reached, high⟩ := foldl_highest (fun k => s.readableKind bad k == some .unused) (List.range 16) 3
  refine ⟨low, high 16 (by omega) fun k hk => List.mem_range.mp hk, fun k hk out => ?_⟩
  by_contra used
  refine Nat.not_lt.mpr out (reached k (List.mem_range.mpr hk) ?_)
  unfold State.readableKind
  split <;> simp [used]

theorem kindOf_line (g : Geometry) {k : Nat} (h : k < g.count) : kindOf (some g) k ≠ .unused := by
  unfold kindOf
  dsimp only
  split_ifs
  · omega
  · nofun
  · nofun
  · split <;> nofun

theorem State.Guarded.repairBothGeometry {s : State} {b : Bool} (h : s.Guarded b) (bad : List Cell) : (s.repairBothGeometry bad).Guarded b := by
  unfold State.repairBothGeometry
  split
  · next all =>
    refine { h with range := nofun, kinds := fun k hk => ?_ }
    have unused : s.readableKind bad k = some .unused := by simpa using (allBelow_iff _ _).mp all k hk
    unfold State.readableKind at unused
    split at unused
    · cases unused
    · exact Option.some.inj unused
  · obtain ⟨low, high, outside⟩ := s.rebuiltCount_covers bad
    let g := s.rebuiltGeometry bad
    let t := s.onRst fun r => { r with
      geometry := some g, unconfirmed := true
      positions := r.positions.mapIdx fun k p => { p with kind := kindOf (some g) k }
      transfer := some (Transfer.rebuild g r.transfer) }
    have at_k : ∀ k, k < 16 → t.pos k = { s.pos k with kind := kindOf (some g) k } := fun k hk =>
      getD_mapIdx _ _ _ _ _ (by rw [show s.rst.positions.length = 16 from h.entries]; exact hk)
    have standing : ∀ k, k < 16 → t.interlock.standing k = { s.interlock.standing k with kind := kindOf (some g) k } := fun k hk => by
      change (t.pos k).standing = _
      rw [at_k k hk]; rfl
    have rebuilt : t.Guarded b := by
      refine ⟨⟨?_, ?_, ?_, ?_, ?_⟩, ?_, h.movingPending, ?_, h.advancePending, h.restingClear⟩
      · exact (List.length_mapIdx ..).trans h.entries
      · rintro _ ⟨⟩; exact ⟨low, high⟩
      · exact fun k hk => by rw [standing k hk]; rfl
      · exact fun k hk => by rw [standing k hk]; exact h.bypassIdle k hk
      · intro k hk
        rw [standing k hk]
        intro unused
        refine h.unusedIdle k hk (outside k hk (Nat.not_lt.mp fun line => ?_))
        exact kindOf_line g line unused
      · exact fun m k hk => by rw [standing k hk]; exact h.pendingQuiet m k hk
      · exact fun hb m k hk => by rw [standing k hk]; exact h.movingClear hb m k hk
    refine rebuilt.of_same ?_
    change (State.emptyWindows _).interlock = _
    rw [State.emptyWindows_interlock]
    split <;> rfl

/-! ### The other repairs -/

theorem State.Guarded.configRepaired {s : State} {b : Bool} (h : s.Guarded b) : s.configRepaired.Guarded b := by
  unfold State.configRepaired
  cases s.ixc.state with
  | halt | fault | advance => exact h
  | collect | permit | carry | sweep | reseat | settle => exact h.enterFault _ _

/-- A repaired configuration is ACTIVE, of the kind that the geometry gives (R162). -/
theorem State.Guarded.repairConfig {s : State} {b : Bool} (h : s.Guarded b) (k : Nat) : (s.repairConfig k).Guarded b := by
  refine h.onPos k _ (fun hk => ?_) (fun hk m => h.pendingQuiet m k hk) (fun hk hb m => h.movingClear hb m k hk)
  exact ⟨(h.kinds k hk).symm, nofun, fun unused => h.unusedIdle k hk ((h.kinds k hk).trans unused)⟩

/-- A repaired tracking cell puts an ACTIVE position into FAULT, which aborts a motion but in the advance (R56, R92, R162). -/
theorem State.Guarded.repairTracking {s : State} {b : Bool} (h : s.Guarded b) (bad : List Cell) (k : Nat) :
    (s.repairTracking bad b k).Guarded b := by
  unfold State.repairTracking
  dsimp only
  split
  · exact (h.onPos k _ (fun _ => Interlock.fits_idle rfl rfl) (fun _ _ => rfl) fun _ _ _ => by simp).of_same rfl
  · next used =>
    have used : (s.pos k).kind ≠ .unused := by simpa [State.unused] using used
    let p : Position := { s.pos k with
      occupant := .unknown, phase := if (s.pos k).mode == .active then .fault else .idle
      faultCode := if (s.pos k).mode == .active then some .store else none
      orderNumber := if bad.contains ⟨.orderDetail, k⟩ then 0 else (s.detail k).copyNumber
      orderKind := if bad.contains ⟨.orderDetail, k⟩ || !s.active k then .noOrder else (s.detail k).copyKind
      program := none, instruction := none }
    have fits : s.interlock.Fits k p.standing := by
      refine ⟨rfl, fun bypass => ?_, fun unused => absurd unused used⟩
      have bypass : (s.pos k).mode = .bypass := bypass
      simp [p, Position.standing, bypass]
    have closing : ∀ t : State, (if bad.contains ⟨.orderDetail, k⟩ then t.onDetail k fun d => { d with closing := .noOrder }
        else if (s.pos k).phase.outstanding then t.onDetail k fun d => { d with closing := .withdrawn } else t).interlock = t.interlock :=
      fun t => by split_ifs <;> rfl
    have quiet : p.phase.outstanding = false := by dsimp only [p]; split <;> rfl
    split
    · refine State.Guarded.abortMotion (b := true) (.of_same ?_ (closing _)) _
      exact (State.Guarded.onPos h.weaken k _ (fun _ => fits) (fun _ _ => quiet) fun _ => nofun).of_same rfl
    · next stays =>
      refine .of_same ?_ (closing _)
      refine (h.onPos k _ (fun _ => fits) (fun _ _ => quiet) fun _ hb _ => ?_).of_same rfl
      have bypass : (s.pos k).mode ≠ .active := by simpa [State.active, hb] using stays
      simp [bypass]

theorem State.freeSlot_interlock (s : State) (i : Nat) : (s.freeSlot i).interlock = s.interlock := by
  unfold State.freeSlot
  split
  · rfl
  · refine foldl_interlock (fun u k => ?_) _ _
    split <;> simp

theorem State.repairSlot_interlock (s : State) (bad : List Cell) (i j : Nat) : (s.repairSlot bad i j).interlock = s.interlock := by
  unfold State.repairSlot
  dsimp only
  split <;> try split
  · exact s.freeSlot_interlock i
  all_goals rfl

theorem State.repairBudget_interlock (s : State) (i : Nat) : (s.repairBudget i).interlock = s.interlock := by
  unfold State.repairBudget
  dsimp only
  split
  · exact State.reformLimit_interlock _ _
  · rfl

theorem State.repairLogPlace_interlock (s : State) (bad : List Cell) (p j : Nat) : (s.repairLogPlace bad p j).interlock = s.interlock := by
  unfold State.repairLogPlace
  dsimp only
  split_ifs <;> rfl

theorem State.repairTransfer_interlock (s : State) (i : Nat) : (s.repairTransfer i).interlock = s.interlock := by
  unfold State.repairTransfer; split <;> rfl

/-- Every repair keeps the interlock, in the advance but for the law that it sets aside. -/
theorem State.Guarded.repairCell {s : State} {b : Bool} (h : s.Guarded b) (bad : List Cell) (c : Cell) :
    (State.repairCell bad b s c).Guarded b := by
  have noted : (s.noteDamaged c).Guarded b := h
  unfold State.repairCell
  dsimp only
  cases c.region with
  | geometry =>
    refine State.Guarded.configRepaired ?_
    split <;> [exact noted.repairBothGeometry bad; exact noted]
  | transfer => exact (noted.of_same (State.repairTransfer_interlock _ _)).configRepaired
  | positionConfig => exact (noted.repairConfig _).configRepaired
  | positionTracking => exact noted.repairTracking bad _
  | palletSlot => exact noted.of_same (State.repairSlot_interlock _ _ _ _)
  | log => dsimp only; split <;> [exact noted; exact noted.of_same (State.repairLogPlace_interlock _ _ _ _)]
  | budget => exact noted.of_same (State.repairBudget_interlock _ _)
  | orderDetail | returnQueue | schedule | routing | window => exact noted

theorem State.afterRepairs_interlock (s : State) (r : Rst) (bad : List Cell) : (s.afterRepairs r bad).interlock = s.interlock := by
  have lists : ((s.repairQueue r bad).repairSchedule bad).interlock = s.interlock := by
    unfold State.repairSchedule State.noteSchedule
    split <;> rfl
  unfold State.afterRepairs
  dsimp only
  split
  · rw [State.directWritten_interlock, lists]
  · exact lists

theorem State.Guarded.foldl {α : Type} {b : Bool} {f : State → α → State} (h : ∀ (u : State) (x : α), u.Guarded b → (f u x).Guarded b)
    (xs : List α) {s : State} (hs : s.Guarded b) : (xs.foldl f s).Guarded b := by
  induction xs generalizing s with
  | nil => exact hs
  | cons x xs ih => exact ih (h s x hs)

theorem State.Guarded.readCells {s : State} {b : Bool} (h : s.Guarded b) (cells : List Cell) : (s.readCells cells b).Guarded b := by
  unfold State.readCells
  split
  · exact h
  · refine State.Guarded.of_same ?_ (State.afterRepairs_interlock _ _ _)
    refine State.Guarded.foldl (fun u c hu => hu.repairCell _ c) _ (h.of_same ?_)
    exact foldl_interlock (f := State.noteCorrected) (fun _ _ => rfl) _ s

theorem State.Guarded.readStages {s : State} {b : Bool} (h : s.Guarded b) (stages : List (State → List Cell)) :
    (s.readStages stages b).Guarded b := h.readCells _

theorem State.Guarded.collect {s : State} (h : s.Guarded false) (g : Gate) : (s.collect g).Guarded false := by
  unfold State.collect
  dsimp only
  split_ifs
  · exact ((h.readStages _).readCells _).testCollection g
  · exact h.readStages _
  · exact h

/-! ### Grants and events -/

theorem State.place_interlock (s : State) (l : Link) (tag : Byte) (v : Except Reason Instr) : (s.place l tag v).1.interlock = s.interlock := by
  unfold State.place
  split_ifs
  · rfl
  · rfl
  · cases v <;> rfl

theorem State.offer_interlock (s : State) (i : Instr) (p : Permit) (l : Link) (tag : Byte) : (s.offer i p l tag).1.interlock = s.interlock := by
  unfold State.offer; split <;> [rfl; exact s.place_interlock _ _ _]

theorem State.closeGrant_interlock (s : State) (l : Link) (tag : Byte) (r : State × Reply) :
    (State.closeGrant s l tag r).interlock = r.1.interlock := by
  unfold State.closeGrant; dsimp only; split <;> rfl

/-- A grant keeps the interlock where its operation does. -/
theorem State.Guarded.grant {s t : State} {i : Instr} {p : Permit} {l : Link} {tag : Byte} {cells : List (State → List Cell)}
    {op : State → State × Reply} (h : s.Guarded false) (hop : ∀ u : State, u.Guarded false → (op u).1.Guarded false)
    (e : s.grant i p l tag cells op = .next t) : t.Guarded false := by
  unfold State.grant at e
  dsimp only at e
  split_ifs at e
  · exact Host.Outcome.next.inj e ▸ h
  · rw [← Host.Outcome.next.inj e, State.serve]
    refine .of_same (hop _ (State.Guarded.readStages ?_ _)) (State.closeGrant_interlock _ _ _ _)
    exact h.of_same (s.offer_interlock i p l tag)
  · exact Host.Outcome.next.inj e ▸ h.of_same (s.offer_interlock i p l tag)

/-- A grant whose operation changes nothing the interlock looks at keeps it. -/
theorem State.Guarded.grant_same {s t : State} {i : Instr} {p : Permit} {l : Link} {tag : Byte} {cells : List (State → List Cell)}
    {op : State → State × Reply} (h : s.Guarded false) (hop : ∀ u : State, (op u).1.interlock = u.interlock)
    (e : s.grant i p l tag cells op = .next t) : t.Guarded false := h.grant (fun u hu => hu.of_same (hop u)) e

/-- An event keeps the interlock where its change does. -/
theorem State.Guarded.event {s t : State} {f : State → State} (h : s.Guarded false) (hf : s.Guarded false → (f s).Guarded false)
    (e : s.event f = .next t) : t.Guarded false := by
  unfold State.event at e
  split at e
  · exact Host.Outcome.next.inj e ▸ h
  · exact Host.Outcome.next.inj e ▸ (hf h).of_same (State.closeEvent_interlock _ _)

end Sys2Proof.Machine
end

section
/-! SUPPORT. The interlock (O7): the operations of the stations and of the drive. -/

namespace Sys2Proof.Machine

/-! ### Membership and holds -/

theorem State.Guarded.atStation {s : State} {b : Bool} (h : s.Guarded b) (l : Link) {op : Nat → State → State × Reply}
    (hop : ∀ k, k < 16 → (op k s).1.Guarded b) : (s.atStation l op).1.Guarded b := by
  unfold State.atStation
  cases l with
  | sl k => exact hop k.val k.isLt
  | supl | drvl => exact h

/-- A JOIN leaves an ACTIVE position at rest, or in FAULT with a failed self-test (R89). -/
theorem State.Guarded.joinOrder {s : State} (h : s.Guarded false) {k : Nat} (active : (s.pos k).mode = .active)
    (used : (s.pos k).kind ≠ .unused) (t : SelfTest) : (s.joinOrder k t).Guarded false := by
  have ended : (s.cancelOutstanding k).Guarded false := h.of_same (s.cancelOutstanding_interlock k)
  have same := s.cancelOutstanding_pos k k
  have fits : ∀ p : Position, p.kind = (s.pos k).kind → p.mode = (s.pos k).mode → (s.cancelOutstanding k).interlock.Fits k p.standing :=
    fun p kind mode => ⟨kind.trans (by rw [← same]; rfl), fun e => absurd (active.symm.trans (mode.symm.trans e)) nofun,
      fun e => absurd (kind.symm.trans e) used⟩
  cases t with
  | pass =>
    refine ended.onPos k _ (fun _ => fits _ (by rw [same]) (by rw [same])) (fun _ _ => ?_) (fun _ _ _ => ?_) <;> dsimp only <;>
      cases ((s.cancelOutstanding k).pos k).phase with
    | fault => dsimp only; split <;> simp [Phase.outstanding]
    | idle | ordered | working | done => simp [Phase.outstanding]
  | fail =>
    refine State.Guarded.abortMotion (b := true) ?_ _
    exact State.Guarded.onPos ended.weaken k _ (fun _ => fits _ (by rw [same]) (by rw [same])) (fun _ _ => rfl) fun _ => nofun

theorem State.Guarded.joinStation {s : State} (h : s.Guarded false) (m : Mask) (t : Option SelfTest) (k : Nat) :
    (s.joinStation m t k).1.Guarded false := by
  unfold State.joinStation
  split <;> [exact h; split] <;> [exact h; skip]
  next used =>
  cases t with
  | none => exact h
  | some t =>
    dsimp only
    split
    · exact h
    · refine State.Guarded.collect (State.Guarded.of_same ?_ (State.postOrder_interlock _ k)) _
      let u := s.onPos k fun p => { p with joined := some { programs := m, selfTest := t } }
      have same : u.interlock = s.interlock := s.onPos_interlock k _ fun _ => rfl
      have entry : (u.pos k).kind = (s.pos k).kind := congrArg (fun x => (x.standing k).kind) same
      have joined : u.Guarded false := h.of_same same
      split
      · next active => exact joined.joinOrder (by simpa [State.active] using active) (by rw [entry]; simpa [State.unused] using used) t
      · exact joined

theorem State.leaveStation_interlock (s : State) (k : Nat) : (s.leaveStation k).1.interlock = s.interlock := by
  unfold State.leaveStation
  split <;> [rfl; split] <;> [rfl; exact s.onPos_interlock k _ fun _ => rfl]

theorem State.holdStation_interlock (s : State) (k : Nat) : (s.holdStation k).1.interlock = s.interlock := by
  unfold State.holdStation
  split
  · rfl
  · dsimp only [ok]; split <;> [exact s.onPos_interlock k _ fun _ => rfl; rfl]

theorem State.Guarded.unholdStation {s : State} (h : s.Guarded false) (k : Nat) : (s.unholdStation k).1.Guarded false := by
  unfold State.unholdStation
  split
  · exact h
  · exact (h.of_same (s.onPos_interlock k (fun p => { p with hold := false }) fun _ => rfl)).collect _

/-! ### START, STATION FAULT and RECOVERED -/

/-- While motion is pending no position is ORDERED, so none starts (R44). -/
theorem State.Guarded.idle_of_outstanding {s : State} {b : Bool} (h : s.Guarded b) {k : Nat} (hk : k < 16)
    (out : (s.pos k).phase.outstanding = true) : s.ixc.motion.isSome ≠ true := fun m => by
  have quiet : (s.pos k).phase.outstanding = false := h.pendingQuiet m k hk
  simp [out] at quiet

/-- A position that is not IDLE may take any phase that motion allows. -/
theorem State.Guarded.setPhase {s : State} {b : Bool} (h : s.Guarded b) {k : Nat} (hk : k < 16) (busy : (s.pos k).phase ≠ .idle)
    (f : Position → Position) (kind : (f (s.pos k)).kind = (s.pos k).kind) (mode : (f (s.pos k)).mode = (s.pos k).mode)
    (quiet : s.ixc.motion.isSome = true → (f (s.pos k)).phase.outstanding = false)
    (clear : b = false → s.ixc.state.moving = true → (f (s.pos k)).phase ≠ .fault) : (s.onPos k f).Guarded b :=
  h.onPos k f (fun _ => h.fits_busy hk busy kind mode) (fun _ => quiet) (fun _ => clear)

theorem State.countClamp_interlock (s : State) (k : Nat) : (s.countClamp k).interlock = s.interlock := by
  unfold State.countClamp; split <;> rfl

theorem State.Guarded.startReport {s : State} (h : s.Guarded false) (o : Nat) {k : Nat} (hk : k < 16) :
    (s.startReport o k).1.Guarded false := by
  unfold State.startReport
  split <;> [exact h; split] <;> [skip; exact h]
  next taken =>
  have ordered : (s.pos k).phase = .ordered := by simp at taken; exact taken.1
  have working : (s.onPos k fun p => { p with phase := .working }).Guarded false :=
    h.setPhase hk (by simp [ordered]) _ rfl rfl (fun m => absurd m (h.idle_of_outstanding hk (by simp [ordered, Phase.outstanding])))
      (fun _ _ => nofun)
  change (s.startWork k).Guarded false
  unfold State.startWork
  dsimp only
  split
  · exact working.of_same (State.countClamp_interlock _ k)
  · exact working

theorem State.Guarded.faultReport {s : State} (h : s.Guarded false) (c k : Nat) : (s.faultReport c k).1.Guarded false := by
  unfold State.faultReport
  split
  · exact h
  · next member =>
    split
    · exact h
    · dsimp only [ok]
      split
      · next active =>
        have reported : (s.onDetail k fun d =>
          { d with faultReport := some (c, s.ctm.clock), faultCount := countUp 65535 d.faultCount }).Guarded false := h
        unfold State.faultPosition
        split
        · exact reported
        · have ended := State.Guarded.of_same reported (State.cancelOutstanding_interlock _ k)
          refine State.Guarded.abortMotion (b := true) (State.Guarded.onPos ended.weaken k _ (fun _ => ⟨rfl, fun e => ?_, fun e => ?_⟩)
            (fun _ _ => rfl) fun _ => nofun) _
          · simp only [Position.standing, State.cancelOutstanding_pos, State.onDetail_pos] at e
            simp [State.active, e] at active
          · simp only [Position.standing, State.cancelOutstanding_pos, State.onDetail_pos] at e
            simp [State.membership, State.unused, e] at member
      · exact h

theorem State.Guarded.recoveredReport {s : State} (h : s.Guarded false) {k : Nat} (hk : k < 16) : (s.recoveredReport k).1.Guarded false := by
  unfold State.recoveredReport
  split <;> [exact h; split] <;> [skip; exact h]
  next taken =>
  have fault : (s.pos k).phase = .fault := by simp at taken; exact taken.1
  refine (h.setPhase hk (by simp [fault]) _ rfl rfl (fun _ => ?_) (fun _ _ => ?_)).collect _ <;> dsimp only <;> split <;>
    simp [Phase.outstanding]

/-! ### Results -/

/-- A taken result ends an order that is WORKING (R81). -/
theorem State.Guarded.finishOrder {s t : State} (h : s.Guarded false) (same : t.interlock = s.interlock) {k : Nat} (hk : k < 16)
    (working : (s.pos k).phase = .working) (r : Result) : (t.finishOrder k r).Guarded false := by
  have phase : (t.pos k).phase = .working := (congrArg (fun x => (x.standing k).phase) same).trans working
  have taken : ((t.onStats k fun x => x.take ((t.work k).running.getD 0)).stopTimers k).Guarded false := h.of_same same
  refine State.Guarded.collect ?_ _
  refine (taken.setPhase hk ?_ (fun p => { p with phase := .done }) rfl rfl (fun _ => rfl) fun _ _ => nofun)
  change (t.pos k).phase ≠ .idle
  simp [phase]

theorem State.Guarded.clearReport {s : State} (h : s.Guarded false) (o : Nat) (bad : Bool) (r : Result) (fits : Nat → State → Bool)
    (op : Nat → State → State × Reply) (body : State → List Byte) (k : Nat)
    (hop : (s.pos k).phase = .working → (op k s).1.Guarded false) : (s.clearReport o bad r fits op body k).1.Guarded false := by
  unfold State.clearReport
  split
  · exact h
  · split
    · next working => split <;> [exact hop working; exact h]
    · split <;> exact h
    · exact h
    · exact h
    · exact h

theorem State.Guarded.clearPlain {s : State} (h : s.Guarded false) (o : Nat) (r : Option PlainResult) {k : Nat} (hk : k < 16) :
    (s.clearPlain o r k).1.Guarded false := by
  cases r with
  | none => exact h.clearReport _ _ _ _ _ _ _ fun _ => h
  | some r =>
    refine h.clearReport _ _ _ _ _ _ _ fun working => h.finishOrder ?_ hk working _
    split <;> simp

theorem State.createWorkpiece_interlock (s : State) (n v : Nat) (cs : List Byte) : (s.createWorkpiece n v cs).interlock = s.interlock := by
  unfold State.createWorkpiece; dsimp only; split <;> rfl

theorem State.decrementHead_interlock (s : State) (v : Nat) : (s.decrementHead v).interlock = s.interlock := by
  unfold State.decrementHead State.noteSchedule; split <;> rfl

theorem State.Guarded.loadedResult {s : State} (h : s.Guarded false) (cs : List Byte) {k : Nat} (hk : k < 16)
    (working : (s.pos k).phase = .working) : (State.loadedResult cs k s).1.Guarded false := by
  unfold State.loadedResult
  split
  · split_ifs
    · exact h
    · exact h
    · exact h
    · exact h.finishOrder (by rw [State.decrementHead_interlock, State.createWorkpiece_interlock]) hk working _
  · exact h

theorem State.Guarded.readyResult {s : State} (h : s.Guarded false) {k : Nat} (hk : k < 16) (working : (s.pos k).phase = .working) :
    (State.readyResult k s).1.Guarded false :=
  h.finishOrder (by split <;> rfl) hk working _

theorem State.completeWorkpiece_interlock (s : State) (n : Nat) (x : LogLane) : (s.completeWorkpiece n x).interlock = s.interlock := by
  unfold State.completeWorkpiece; split <;> rfl

theorem State.Guarded.completeResult {s : State} (h : s.Guarded false) (x : LogLane) (r : Result) {k : Nat} (hk : k < 16)
    (working : (s.pos k).phase = .working) : (s.completeResult x r k).1.Guarded false := by
  unfold State.completeResult
  split
  · exact h
  · exact h.finishOrder (by split <;> [rfl; exact s.completeWorkpiece_interlock _ _]) hk working _

theorem State.Guarded.unloadedResult {s : State} (h : s.Guarded false) {k : Nat} (hk : k < 16) (working : (s.pos k).phase = .working) :
    (State.unloadedResult k s).1.Guarded false := by
  unfold State.unloadedResult; split <;> [exact h; exact h.completeResult _ _ hk working]

theorem State.Guarded.stuckResult {s : State} (h : s.Guarded false) {k : Nat} (hk : k < 16) (working : (s.pos k).phase = .working) :
    (State.stuckResult k s).1.Guarded false :=
  h.finishOrder (by split <;> rfl) hk working _

/-! ### ARRIVED (R103 to R106) -/

theorem State.Guarded.arriveNone {s : State} (h : s.Guarded false) (o : Nat) {k : Nat} (hk : k < 16) : (s.arriveNone o k).1.Guarded false := by
  unfold State.arriveNone
  split
  · exact h
  · next taken =>
    split_ifs with done
    · exact h
    · exact h
    · have busy : (s.pos k).phase ≠ .idle := fun idle => by
        unfold State.arrivalRefusal at taken
        split at taken <;> simp [idle] at taken
      refine State.Guarded.collect ?_ _
      exact h.setPhase hk busy (fun p => { p with phase := .done }) rfl rfl (fun _ => rfl) fun _ _ => nofun

theorem State.noteInstruction_interlock (s : State) (n : Nat) (i : Instruction) : (s.noteInstruction n i).interlock = s.interlock := by
  unfold State.noteInstruction; split <;> rfl

theorem State.takeFromQueue_interlock (s : State) (n : Nat) : (s.takeFromQueue n).interlock = s.interlock := by
  unfold State.takeFromQueue
  split <;> [rfl; (dsimp only; split)] <;> rfl

/-- An order is issued to position `k`: ORDERED, or IDLE where no order is (R76). -/
theorem State.issueOrder_interlock (s : State) (k n : Nat) (o : OrderKind) (g : Option Nat) (i : Option Instruction) :
    (s.issueOrder k n o g i).interlock =
      (s.onPos k fun p => { p with phase := if o == .noOrder then .idle else .ordered }).interlock := by
  refine State.interlock_of_pos ?_ (fun j => ?_) rfl rfl
  · exact ((s.issueOrder_issues k n o g i).positions).trans (s.onPos_length k _).symm
  · by_cases e : j = k
    · subst e
      by_cases c : j < s.rst.positions.length
      · let o' : Position → Position := fun p => { p with orderNumber := n, orderKind := o, program := g, instruction := i }
        let set : Position → Position := fun p => { p with phase := if o == .noOrder then .idle else .ordered }
        have written : (s.issueOrder j n o g i).pos j = { set ((s.onPos j o').pos j) with faultCode := none } :=
          (s.onPos j o').pos_onPos_self _ (by rw [State.onPos_length]; exact c)
        rw [s.pos_onPos_self o' c] at written
        exact (congrArg Position.standing written).trans (congrArg Position.standing (s.pos_onPos_self set c)).symm
      · have outside : ∀ t : State, t.rst.positions.length = s.rst.positions.length → t.pos j = Position.reset := fun t e =>
          List.getD_eq_default _ _ (by rw [e]; exact Nat.not_lt.mp c)
        rw [outside _ (s.issueOrder_issues j n o g i).positions, outside _ (s.onPos_length j _)]
    · rw [(s.issueOrder_elsewhere k n o g i j e).1, s.pos_onPos_ne _ e]

theorem State.Guarded.arrive {s : State} (h : s.Guarded false) (o n : Nat) {k : Nat} (hk : k < 16) : (s.arrive o n k).1.Guarded false := by
  unfold State.arrive
  split
  · exact h
  · next taken =>
    split
    · exact h
    · next undone =>
      split
      · exact h
      · next p _ =>
        split
        · exact h
        · have ordered : (s.pos k).phase = .ordered := by
            unfold State.arrivalRefusal at taken
            split at taken
            · cases taken
            · simp_all
          let u := ((s.takeFromQueue p.number).noteInstruction p.number (s.loadDecision p)).setOccupant k (.pallet p.number)
          have same : u.interlock = s.interlock := by
            rw [State.setOccupant_interlock, State.noteInstruction_interlock, State.takeFromQueue_interlock]
          have arrived : u.Guarded false := h.of_same same
          have phase : (u.pos k).phase = .ordered := (congrArg (fun x => (x.standing k).phase) same).trans ordered
          change (State.postOrder _ k).Guarded false
          refine State.Guarded.of_same ?_ ((State.postOrder_interlock _ k).trans (u.issueOrder_interlock k _ .load none _))
          exact arrived.setPhase hk (by simp [phase]) _ rfl rfl
            (fun m => absurd m (arrived.idle_of_outstanding hk (by simp [phase, Phase.outstanding]))) fun _ _ => nofun

/-! ### The drive -/

theorem State.Guarded.driveReport {s : State} {op : State → State × Reply} (h : s.Guarded false) (hop : (op s).1.Guarded false) :
    (State.driveReport op s).1.Guarded false := by
  unfold State.driveReport; split <;> [exact hop; exact h]

theorem State.Guarded.joinDrive {s : State} (h : s.Guarded false) : s.joinDrive.1.Guarded false := by
  unfold State.joinDrive
  cases s.ixc.state with
  | permit | carry | sweep | reseat => exact h
  | halt | collect | settle | advance | fault =>
    exact State.Guarded.collect (s := s.onIxc fun i => { i with driveJoined := true, driveFaulted := false }) h _

theorem State.Guarded.lift {s : State} (h : s.Guarded false) : s.lift.1.Guarded false := by
  unfold State.lift
  split
  · next kind permit _ =>
    refine State.Guarded.of_same (State.Guarded.checkEntry ?_) (State.checkSweepEnd_interlock _)
    have moving : s.interlock.state.moving = true := by simp [State.interlock, permit, IxcState.moving]
    cases kind with
    | learn => exact h.moves moving (y := .sweep) rfl
    | index | forward | back => exact h.moves moving (y := .carry) rfl
  · exact h

theorem State.lower_interlock (s : State) (v : Int) (w : Staged) :
    (s.onIxc fun i => i.lower v w).interlock = { s.interlock with state := .settle } := by
  simp [State.interlock, Ixc.lower, State.onIxc, State.pos]

theorem Interlock.Holds.of_eq {x y : Interlock} {b : Bool} (h : x.Holds b) (e : y = x) : y.Holds b := e ▸ h

theorem State.Guarded.settleAtOnce {s : State} (h : s.Guarded false) {c : Bool} :
    (if s.ixc.state == .settle && c then s.endSettle (·.collect .drive) else s).Guarded false := by
  split
  · next settling =>
    refine h.endSettle ?_ fun _ hu => hu.collect _
    simp only [Bool.and_eq_true, beq_iff_eq] at settling
    rw [settling.1]; rfl
  · exact h

theorem State.Guarded.lower {s : State} (h : s.Guarded false) : s.lower.1.Guarded false := by
  unfold State.lower
  split
  · next from_ =>
    have moving : s.ixc.state.moving = true := by
      rcases (by simpa using from_ : s.ixc.state = .carry ∨ s.ixc.state = .reseat) with e | e <;> simp [e, IxcState.moving]
    have lowered : (s.onIxc fun i => i.lower s.btk.counter s.working).Guarded false :=
      (h.moves moving (y := .settle) rfl).of_eq (s.lower_interlock _ _)
    have closed : (if s.motionKind == some .index then (s.onIxc fun i => i.lower s.btk.counter s.working).closeCaptures
        else s.onIxc fun i => i.lower s.btk.counter s.working).checkEntry.Guarded false := by
      refine State.Guarded.checkEntry ?_
      split <;> exact lowered
    exact closed.settleAtOnce
  · exact h

theorem State.Guarded.faultDrive {s : State} (h : s.Guarded false) : s.faultDrive.1.Guarded false :=
  State.Guarded.abortMoving (s := s.onIxc fun i => { i with driveFaulted := true }) h _

theorem State.Guarded.recoverDrive {s : State} (h : s.Guarded false) : s.recoverDrive.1.Guarded false :=
  State.Guarded.collect (s := s.onIxc fun i => { i with driveFaulted := false }) h _

end Sys2Proof.Machine
end

section
/-! SUPPORT. The interlock (O7): the operations of the supervisor. -/

namespace Sys2Proof.Machine

/-! ### The table as a whole -/

/-- A rewriting of the whole position table that keeps every standing. -/
theorem State.mapIdx_interlock (s : State) (f : Nat → Position → Position) (h : ∀ k p, (f k p).standing = p.standing) :
    (s.onRst fun r => { r with positions := r.positions.mapIdx f }).interlock = s.interlock := by
  refine State.interlock_of_pos (List.length_mapIdx ..) (fun k => ?_) rfl rfl
  by_cases c : k < s.rst.positions.length
  · exact (congrArg Position.standing (getD_mapIdx _ _ _ _ _ c)).trans (h k _)
  · have outside : ∀ ps : List Position, ps.length = s.rst.positions.length → ps.getD k Position.reset = Position.reset :=
      fun ps e => List.getD_eq_default _ _ (by omega)
    exact congrArg Position.standing ((outside _ (List.length_mapIdx ..)).trans (outside _ rfl).symm)

theorem State.clearHolds_interlock (s : State) : s.clearHolds.interlock = s.interlock := by
  have e : s.clearHolds = s.onRst fun r => { r with positions := r.positions.mapIdx fun _ p => { p with hold := false } } := by
    have map : s.rst.positions.map (fun p => { p with hold := false }) = s.rst.positions.mapIdx fun _ p => { p with hold := false } :=
      List.ext_getElem? fun i => by simp
    rw [State.clearHolds, State.onRst, map]; rfl
  rw [e]
  exact s.mapIdx_interlock _ fun _ _ => rfl

theorem State.surveyLine_interlock (s : State) : s.surveyLine.1.interlock = s.interlock := by
  unfold State.surveyLine
  split <;> [rfl; split] <;> [rfl; skip]
  refine s.mapIdx_interlock (fun k p => p.survey (s.surveyRow k)) fun k p => ?_
  cases s.surveyRow k <;> rfl

/-! ### SET GEOMETRY (R4 to R6) and LINE RESET (R198) -/

/-- An order that is cleared leaves its position IDLE (R91). -/
theorem State.clearOrder_interlock (s : State) (k : Nat) :
    (s.clearOrder k).interlock = (s.onPos k fun p => { p with phase := .idle }).interlock := by
  refine State.interlock_of_pos ((s.clearOrder_orders k).positions.trans (s.onPos_length k _).symm) (fun j => ?_) ?_
    (s.clearOrder_orders k).ixc
  · by_cases e : j = k
    · subst e
      let t := s.cancelOutstanding j
      let w := t.writeOrder j (t.pos j).orderNumber .noOrder none none
      have lengths : w.rst.positions.length = s.rst.positions.length :=
        ((s.cancelOutstanding_orders j).trans (t.writeOrder_orders j _ _ _ _)).positions
      by_cases c : j < s.rst.positions.length
      · have written : (s.clearOrder j).pos j = { w.pos j with phase := .idle, faultCode := none } :=
          w.pos_onPos_self (fun p => { p with phase := .idle, faultCode := none }) (by omega)
        have kept : (w.pos j).standing = (s.pos j).standing :=
          congrArg (fun x => x.standing j) ((t.writeOrder_interlock j _ _ _ _).trans (s.cancelOutstanding_interlock j))
        rw [written, s.pos_onPos_self _ c]
        simp only [Position.standing, Standing.mk.injEq] at kept ⊢
        exact ⟨kept.1, kept.2.1, trivial⟩
      · have outside : ∀ u : State, u.rst.positions.length = s.rst.positions.length → u.pos j = Position.reset := fun u e =>
          List.getD_eq_default _ _ (by omega)
        rw [outside _ (s.clearOrder_orders j).positions, outside _ (s.onPos_length j _)]
    · rw [(s.clearOrder_elsewhere k j e).1, s.pos_onPos_ne _ e]
  · obtain ⟨_, _, _, store⟩ := (s.clearOrder_orders k).store
    rw [store]; rfl

theorem State.lawful_clearOrder {s : State} (h : s.interlock.Lawful) (k : Nat) : (s.clearOrder k).interlock.Lawful := by
  rw [s.clearOrder_interlock k]
  exact State.lawful_onPos h k _ fun _ => Interlock.fits_idle rfl rfl

theorem State.lawful_foldl {α : Type} {f : State → α → State} (hf : ∀ (u : State) x, u.interlock.Lawful → (f u x).interlock.Lawful) (xs : List α)
    {s : State} (h : s.interlock.Lawful) : (xs.foldl f s).interlock.Lawful := by
  induction xs generalizing s with
  | nil => exact h
  | cons x xs ih => exact ih (hf s x h)

theorem State.lawful_clearOrders {s : State} (h : s.interlock.Lawful) : s.clearOrders.interlock.Lawful :=
  State.lawful_foldl (fun _ k hu => State.lawful_clearOrder hu k) _ h

/-- A position whose order is cleared is IDLE, and stays so while the others are cleared. -/
theorem foldl_clearOrder_idle (xs : List Nat) {s : State} {j : Nat} (hj : j < s.rst.positions.length)
    (h : j ∈ xs ∨ (s.pos j).phase = .idle) : ((xs.foldl State.clearOrder s).pos j).phase = .idle := by
  induction xs generalizing s with
  | nil => simpa using h
  | cons x xs ih =>
    refine ih (by rwa [(s.clearOrder_orders x).positions]) ?_
    have written : ((s.clearOrder x).pos j).phase = ((s.onPos x fun p => { p with phase := .idle }).pos j).phase :=
      congrArg (fun y => (y.standing j).phase) (s.clearOrder_interlock x)
    by_cases e : j = x
    · subst e
      exact .inr (by rw [written, s.pos_onPos_self _ hj])
    · rw [s.pos_onPos_ne _ e] at written
      exact h.imp (fun c => (List.mem_cons.mp c).resolve_left e) written.trans

theorem State.clearOrders_idle {s : State} (h : s.interlock.Lawful) {k : Nat} (hk : k < 16) : (s.clearOrders.pos k).phase = .idle :=
  foldl_clearOrder_idle _ (by rw [show s.rst.positions.length = 16 from h.entries]; exact hk) (.inl (List.mem_range.mpr hk))

/-- A line that is rebuilt over idle positions is lawful (R5). -/
theorem State.lawful_rebuildLine {u : State} (h : u.interlock.Lawful) (idle : ∀ k, k < 16 → (u.pos k).phase = .idle) (cells : List Cell)
    {g : Geometry} (range : 3 ≤ g.count ∧ g.count ≤ 16) : (u.rebuildLine cells g).interlock.Lawful := by
  obtain ⟨w, e, -, built⟩ := u.rebuildLine_eq cells g
  have standing : ∀ k, k < 16 → (u.rebuildLine cells g).interlock.standing k =
      { kind := kindOf (some g) k, mode := .active, phase := .idle } := fun k hk => by
    have at_k : (u.rebuildLine cells g).pos k = (u.pos k).rebuild g k := by
      rw [built]
      exact getD_mapIdx _ _ _ _ _ (by rw [show u.rst.positions.length = 16 from h.entries]; exact hk)
    change ((u.rebuildLine cells g).pos k).standing = _
    rw [at_k]
    exact congrArg (Standing.mk _ _) (idle k hk)
  have geometry : (u.rebuildLine cells g).interlock.geometry = some g := by rw [built]; rfl
  refine ⟨?_, fun g' hg => ?_, fun k hk => ?_, fun k hk _ => ?_, fun k hk _ => ?_⟩
  · rw [built]; exact (List.length_mapIdx ..).trans h.entries
  · exact Option.some.inj (geometry.symm.trans hg) ▸ range
  · rw [standing k hk, geometry]
  · rw [standing k hk]
  · rw [standing k hk]

theorem geometryOf_range {n p q : Nat} {ks : List (Option WorkKind)} {v : Option Nat} {g : Geometry} (h : geometryOf n ks p q v = some g) :
    3 ≤ g.count ∧ g.count ≤ 16 := by
  by_cases fits : GeometryFits n ks p q v
  · obtain ⟨g', taken, count, -⟩ := geometryOf_taken fits
    obtain rfl : g' = g := Option.some.inj (taken.symm.trans h)
    exact ⟨count ▸ fits.1, count ▸ fits.2.1⟩
  · rw [geometryOf_refused fits] at h; cases h

theorem State.Guarded.resting_clear {s : State} {b : Bool} (h : s.Guarded b) (rest : s.ixc.state = .halt ∨ s.ixc.state = .collect) :
    s.ixc.motion = none := by
  have clear : s.ixc.motion.isSome = false := h.restingClear rest
  simpa using clear

theorem State.Guarded.halted {s : State} (h : s.interlock.Lawful) (halted : s.ixc.state = .halt) (clear : s.ixc.motion = none) : s.Guarded false :=
  Interlock.Lawful.rests h (by simp [State.interlock, halted, IxcState.moving]) (by simp [State.interlock, halted])
    (by simp [State.interlock, clear])

theorem State.rebuildLine_ixc (u : State) (cells : List Cell) (g : Geometry) : (u.rebuildLine cells g).ixc = u.ixc := by
  obtain ⟨w, e, -, built⟩ := u.rebuildLine_eq cells g
  rw [built]

theorem State.Guarded.setGeometry {s : State} (h : s.Guarded false) {g : Option Geometry}
    (range : ∀ x, g = some x → 3 ≤ x.count ∧ x.count ≤ 16) : (s.setGeometry g).1.Guarded false := by
  unfold State.setGeometry
  split
  · exact h
  · next halted =>
    have halted : s.ixc.state = .halt := by simpa using halted
    cases g with
    | none => exact h
    | some g =>
      have lawful := State.lawful_rebuildLine (State.lawful_clearOrders h.toLawful) (fun k hk => State.clearOrders_idle h.toLawful hk)
        s.geometryWrites (range g rfl)
      have ixc := (s.clearOrders.rebuildLine_ixc s.geometryWrites g).trans s.clearOrders_orders.ixc
      dsimp only [ok]
      rw [s.writeGeometry_eq]
      exact State.Guarded.halted lawful (by rw [ixc, halted]) (by rw [ixc, h.resting_clear (.inl halted)])

theorem State.loseOccupant_interlock (s : State) (k : Nat) : (s.loseOccupant k).interlock = s.interlock := by
  unfold State.loseOccupant
  split
  · rfl
  · split
    · rfl
    · exact (State.setOccupant_interlock _ k _).trans rfl

/-- LINE RESET leaves the line in HALT with no motion pending (R13, R43). -/
theorem State.Guarded.lineResetAll {s : State} (h : s.interlock.Lawful) : s.lineResetAll.Guarded false := by
  have held : s.clearOrders.clearHolds.interlock.Lawful := by rw [State.clearHolds_interlock]; exact State.lawful_clearOrders h
  have lost : (if s.ixc.motion.isSome then (List.range 16).foldl State.loseOccupant s.clearOrders.clearHolds
      else s.clearOrders.clearHolds).interlock.Lawful := by
    split
    · rw [foldl_interlock State.loseOccupant_interlock]; exact held
    · exact held
  exact Interlock.Lawful.rests (x := s.lineResetAll.interlock) ⟨lost.entries, lost.range, lost.kinds, lost.bypassIdle, lost.unusedIdle⟩
    rfl nofun rfl

/-! ### SET TRANSFER, SET MODE and SET OCCUPANT -/

theorem State.setTransfer_interlock (s : State) (xs : List (Nat × Int)) : (s.setTransfer xs).1.interlock = s.interlock := by
  unfold State.setTransfer
  split
  · split
    · rfl
    · dsimp only [ok]
      split
      · exact State.directWritten_interlock _
      · rfl
  · rfl

theorem State.endForBypass_interlock (s : State) (k : Nat) : (s.endForBypass k).interlock = s.interlock :=
  (s.endForBypass_orders k).interlock (s.endForBypass_pos k)

/-- A position that changes its mode becomes IDLE (R15). -/
theorem State.Guarded.changeMode {s : State} (h : s.Guarded false) (k : Nat) (m : Mode) : (s.changeMode k m).Guarded false := by
  cases m with
  | bypass =>
    have ended : ((s.endForBypass k).writeOrder k ((s.endForBypass k).pos k).orderNumber .noOrder none none).Guarded false :=
      h.of_same (by rw [State.writeOrder_interlock, State.endForBypass_interlock])
    exact ended.onPos k _ (fun _ => Interlock.fits_idle rfl rfl) (fun _ _ => rfl) fun _ _ _ => by simp
  | active =>
    have written : (s.writeOrder k (s.pos k).orderNumber .noOrder none none).Guarded false := h.of_same (State.writeOrder_interlock ..)
    exact (written.onPos k (fun p => { p with mode := .active, phase := .idle, faultCode := none }) (fun _ => Interlock.fits_idle rfl rfl)
      (fun _ _ => rfl) fun _ _ _ => by simp).of_same rfl

theorem State.Guarded.setMode {s : State} (h : s.Guarded false) (k : Nat) (m : Option Mode) : (s.setMode k m).1.Guarded false := by
  cases m with
  | none => exact h
  | some m =>
    unfold State.setMode
    dsimp only
    split <;> [exact h; split] <;> [exact h; exact (h.changeMode k m).collect _]

theorem State.nameOccupant_interlock (s : State) (k : Nat) (o : Occupant) : (s.nameOccupant k o).1.interlock = s.interlock := by
  unfold State.nameOccupant; split <;> [rfl; exact s.setOccupant_interlock k o]

/-! ### Running the line -/

theorem State.Guarded.runLine {s : State} (h : s.Guarded false) (m : Option RunMode) : (s.runLine m).1.Guarded false := by
  cases m with
  | none => exact h
  | some m =>
    have moded : (s.onIxc fun i => { i with runMode := m }).Guarded false := h
    unfold State.runLine
    dsimp only
    split <;> try exact h
    · next halted =>
      split
      · exact h
      · exact State.Guarded.enterCollect moded.toLawful (h.resting_clear (.inl halted)) (test := (·.collect .supervisor)) fun _ hu => hu.collect _
    · exact moded.collect _

theorem State.Guarded.haltLine {s : State} (h : s.Guarded false) : s.haltLine.1.Guarded false := by
  unfold State.haltLine
  split <;> try exact h
  next collecting => exact State.Guarded.enterHalt h.toLawful (h.resting_clear (.inr collecting))

theorem State.Guarded.indexLine {s : State} (h : s.Guarded false) : s.indexLine.1.Guarded false := by
  unfold State.indexLine
  split <;> [exact State.Guarded.collect (s := s.onIxc fun i => { i with indexPending := true }) h _; exact h]

theorem State.Guarded.clearFaultLine {s : State} (h : s.Guarded false) : s.clearFaultLine.1.Guarded false := by
  unfold State.clearFaultLine
  split
  · next clear =>
    have away : s.ixc.motion = none := by
      simp only [Bool.and_eq_true, Option.isNone_iff_eq_none] at clear; exact clear.2
    exact State.Guarded.enterHalt (s := s.onIxc fun i => { i with currentFault := none }) h.toLawful away
  · exact h

/-- A RECOVER is taken with motion pending and no ACTIVE position in FAULT (R64). -/
theorem State.recoverRefusal_none {s : State} (h : s.recoverRefusal = none) : s.ixc.motion.isSome = true ∧
    ∀ k, k < s.count → (s.pos k).mode = .active → (s.pos k).phase ≠ .fault := by
  unfold State.recoverRefusal at h
  split_ifs at h with _ pending _ faults _
  refine ⟨Option.isSome_iff_ne_none.mpr (by simpa using pending), fun k hk active fault => ?_⟩
  exact faults ((anyBelow_iff _ _).mpr ⟨k, hk, by simp [State.active, active, fault]⟩)

theorem State.Guarded.recover {s : State} (h : s.Guarded false) (taken : s.recoverRefusal = none) {u : State} (same : u.interlock = s.interlock)
    (k : MotionKind) (m : Mask) : (u.recover k m).1.Guarded false := by
  obtain ⟨pending, sound⟩ := State.recoverRefusal_none taken
  refine State.Guarded.checkEntry ?_
  rw [State.Guarded, State.beginMotion_interlock]
  have cleared : (u.onIxc fun i => { i with currentFault := none }).interlock = s.interlock := same
  rw [cleared]
  refine h.toLawful.begins fun j hj => ?_
  have quiet : (s.pos j).phase.outstanding = false := h.pendingQuiet pending j hj
  by_cases fault : (s.pos j).phase = .fault
  · exfalso
    have active : (s.pos j).mode = .active := by
      cases mode : (s.pos j).mode with
      | active => rfl
      | bypass => exact absurd (fault.symm.trans (h.bypassIdle j hj mode)) nofun
    refine sound j (Nat.lt_of_not_le fun out => ?_) active fault
    exact absurd (fault.symm.trans (h.toLawful.outside_idle hj out)) nofun
  · change (s.pos j).phase = .idle ∨ (s.pos j).phase = .done
    cases phase : (s.pos j).phase with
    | idle => exact .inl rfl
    | done => exact .inr rfl
    | fault => exact absurd phase fault
    | ordered | working => simp [phase, Phase.outstanding] at quiet

theorem State.Guarded.recoverForwards {s : State} (h : s.Guarded false) : s.recoverForwards.1.Guarded false := by
  unfold State.recoverForwards
  split
  · exact h
  · next taken =>
    split
    · exact h
    · exact h.recover taken (u := s.onCtm fun c => { c with indexRecovered := c.indexTimer.isSome }) rfl _ _

theorem State.Guarded.recoverBackwards {s : State} (h : s.Guarded false) : s.recoverBackwards.1.Guarded false := by
  unfold State.recoverBackwards; split
  · exact h
  · next taken => exact h.recover taken (u := s) rfl _ _

/-! ### Pallets, tables and lists -/

theorem State.atPallet_interlock (s : State) (n : Nat) {op : Pallet → State → State × Reply}
    (hop : ∀ p, (op p s).1.interlock = s.interlock) : (s.atPallet n op).1.interlock = s.interlock := by
  unfold State.atPallet
  split <;> [rfl; split] <;> [rfl; exact hop _]

theorem State.registerPallet_interlock (s : State) (n : Nat) (m : Mask) : (s.registerPallet n m).1.interlock = s.interlock := by
  unfold State.registerPallet
  split_ifs
  · rfl
  · rfl
  · split <;> rfl

theorem State.retirePallet_interlock (s : State) (n : Nat) (p : Pallet) : (State.retirePallet n p s).1.interlock = s.interlock := by
  unfold State.retirePallet; split <;> rfl

theorem State.resetClamps_interlock (s : State) (n : Nat) (m : Option Mask) (p : Pallet) :
    (State.resetClamps n m p s).1.interlock = s.interlock := by
  unfold State.resetClamps; split <;> rfl

theorem State.setDisposition_interlock (s : State) (n : Nat) (d : Disposition) (p : Pallet) :
    (State.setDisposition n d p s).1.interlock = s.interlock := by
  unfold State.setDisposition
  split <;> [rfl; split] <;> rfl

theorem State.setRouting_interlock (s : State) (v k g : Nat) : (s.setRouting v k g).1.interlock = s.interlock := by
  unfold State.setRouting; split <;> rfl

theorem State.insertReturn_interlock (s : State) (n : Nat) (p : Pallet) : (State.insertReturn n p s).1.interlock = s.interlock := by
  unfold State.insertReturn; split <;> rfl

theorem State.withdrawReturn_interlock (s : State) (n : Nat) (p : Pallet) : (State.withdrawReturn n p s).1.interlock = s.interlock := by
  unfold State.withdrawReturn; split <;> rfl

theorem State.appendSchedule_interlock (s : State) (v q : Nat) : (s.appendSchedule v q).1.interlock = s.interlock := by
  unfold State.appendSchedule; split_ifs <;> rfl

theorem State.clearScheduleAll_interlock (s : State) : s.clearScheduleAll.1.interlock = s.interlock := by
  unfold State.clearScheduleAll State.noteSchedule
  dsimp only [ok]
  split <;> rfl

theorem State.fetchCompletion_interlock (s : State) : s.fetchCompletion.1.interlock = s.interlock := by
  unfold State.fetchCompletion; split <;> rfl

theorem State.setTarget_interlock (s : State) (x : Int) : (s.setTarget x).1.interlock = s.interlock := by
  unfold State.setTarget; split <;> rfl

theorem State.armLearn_interlock (s : State) : s.armLearn.1.interlock = s.interlock := by
  unfold State.armLearn; split <;> rfl

theorem State.writeWindows_interlock (s : State) : s.writeWindows.interlock = s.interlock :=
  foldl_interlock (fun u i => by unfold State.writeMeasured; dsimp only; split <;> rfl) _ s

theorem State.takeHeld_interlock (s : State) (x : Int) (f : Wlu → Wlu) : ((s.setPendingTarget x).onWlu f).interlock = s.interlock := rfl

theorem State.acceptLearn_interlock (s : State) : s.acceptLearn.1.interlock = s.interlock := by
  unfold State.acceptLearn
  by_cases held : (s.wlu.record.state != .held) = true
  · rw [if_pos held]; rfl
  · rw [if_neg held]
    by_cases narrow : s.tooNarrow = true
    · rw [if_pos narrow]; rfl
    · rw [if_neg narrow]
      dsimp only [ok]
      rw [State.takeHeld_interlock, State.writeWindows_interlock]

theorem State.discardLearn_interlock (s : State) : s.discardLearn.1.interlock = s.interlock := by
  unfold State.discardLearn; split <;> rfl

theorem State.setBudget_interlock (s : State) (k g b : Nat) : (s.setBudget k g b).1.interlock = s.interlock := by
  unfold State.setBudget
  split
  · rfl
  · dsimp only [ok]; split <;> [exact State.reformLimit_interlock _ k; rfl]

theorem State.acknowledge_interlock (s : State) (m : Mask) : (s.acknowledge m).1.interlock = s.interlock := by
  unfold State.acknowledge; split <;> rfl

theorem State.readAt_interlock (s : State) (k : Option Nat) (b : State → List Byte) : (s.readAt k b).1.interlock = s.interlock := by
  unfold State.readAt; split <;> rfl

theorem State.readPallets_interlock (s : State) (n : Option Nat) : (s.readPallets n).1.interlock = s.interlock := by
  unfold State.readPallets
  split <;> [rfl; split] <;> [rfl; split] <;> rfl

end Sys2Proof.Machine
end

section
/-! SUPPORT. The interlock (O7): the grants of the Index Controller, the wired inputs, and every command. -/

namespace Sys2Proof.Machine

/-! ### The expiry write (R87) -/

theorem State.Guarded.writeNoStart {s : State} (h : s.Guarded false) {k : Nat} (hk : k < 16) : (s.writeNoStart k).Guarded false := by
  unfold State.writeNoStart
  split
  · next ordered =>
    have ordered : (s.pos k).phase = .ordered := by simpa using ordered
    refine State.Guarded.abortMotion (b := true) ?_ _
    have cancelled : (s.cancelOrder k .missed).Guarded false := h.of_same (s.cancelOrder_interlock k .missed)
    exact State.Guarded.setPhase cancelled.weaken hk (by rw [s.cancelOrder_pos]; simp [ordered]) _ rfl rfl (fun _ => rfl) fun e => by cases e
  · exact h

/-! ### The advance (R55 to R58) -/

theorem State.shift_interlock (s : State) : s.shift.interlock = s.interlock :=
  s.mapIdx_interlock _ fun k p => by split <;> rfl

theorem State.sendAway_interlock (s : State) : s.sendAway.interlock = s.interlock := by
  unfold State.sendAway
  split
  · rfl
  · dsimp only
    split_ifs <;> rfl

/-- The advance orders an ACTIVE position of the line, which may take any phase (R57). -/
theorem State.lawful_issueNext {s : State} (h : s.interlock.Lawful) {k : Nat} (active : (s.pos k).mode = .active) :
    (s.issueNext k).interlock.Lawful := by
  by_cases used : (s.pos k).kind = .unused
  · have same : s.issueNext k = s := by unfold State.issueNext; rw [used]
    rw [same]; exact h
  · rw [State.issueNext_eq active used, State.issueOrder_interlock]
    exact State.lawful_onPos h k _ fun _ => ⟨rfl, fun bypass => absurd (active.symm.trans bypass) nofun, fun unused => absurd unused used⟩

theorem State.lawful_passBypass {s : State} (h : s.interlock.Lawful) (k : Nat) : (s.passBypass k).interlock.Lawful := by
  unfold State.passBypass
  dsimp only
  refine State.lawful_onPos ?_ k (fun p => { p with phase := .idle, faultCode := none }) fun _ => Interlock.fits_idle rfl rfl
  rw [State.writeOrder_interlock]
  split
  · exact h
  · rw [State.recordResult_interlock]; exact h

theorem State.lawful_orderNext {s : State} (h : s.interlock.Lawful) (k : Nat) : (s.orderNext k).interlock.Lawful := by
  unfold State.orderNext
  split <;> [exact h; split]
  · next active =>
    have issued := State.lawful_issueNext h (k := k) (by simpa [State.active] using active)
    dsimp only
    split <;> exact issued
  · exact State.lawful_passBypass h k

theorem State.onCtm_interlock (s : State) (f : Ctm → Ctm) : (s.onCtm f).interlock = s.interlock := rfl

/-- The advance ends with no motion pending, so the orders it issues are free to stand (R58). -/
theorem State.Guarded.advanceLine {s : State} (h : s.interlock.Lawful) : s.advanceLine.Guarded false := by
  have sent : s.sendAway.shift.interlock.Lawful := by rw [State.shift_interlock, State.sendAway_interlock]; exact h
  have ordered := State.lawful_foldl (fun _ k hu => State.lawful_orderNext hu k) (List.range 16) sent
  unfold State.advanceLine
  exact .endMotion (by rw [State.onCtm_interlock]; exact ordered) fun _ hu => hu.collect _

theorem State.Guarded.advanceGrant {s : State} (h : s.Guarded false) : s.advanceGrant.Guarded false := by
  have opened : (s.readStages advanceOpening true).Guarded true := State.Guarded.readStages h.weaken _
  unfold State.advanceGrant
  dsimp only
  split
  · exact opened.enterFault _ _
  · exact .advanceLine (opened.readStages [State.advanceCells]).toLawful

/-! ### The learn write (R145) -/

theorem State.Guarded.enterReseat {s : State} (h : s.Guarded false) (sweeping : s.ixc.state = .sweep) (t : Int) :
    (s.enterReseat t).Guarded false := by
  have moved := h.moves (y := .reseat) (by rw [show s.interlock.state = .sweep from sweeping]; rfl) rfl
  unfold State.enterReseat
  refine State.Guarded.checkEntry ?_
  refine Interlock.Holds.of_eq moved ?_
  rw [State.postMotion_interlock, State.tightenReseat_interlock]
  simp [State.interlock, State.onIxc, State.onBtk, State.pos]

theorem State.writeTargets_interlock (s : State) (t : Int) : (s.setBothTargets t).writeWindows.interlock = s.interlock :=
  (State.writeWindows_interlock _).trans rfl

theorem State.writeTargets_ixc (s : State) (t : Int) : (s.setBothTargets t).writeWindows.ixc = s.ixc :=
  foldl_keeps (g := State.ixc) (fun u i => by unfold State.writeMeasured; dsimp only; split <;> rfl) _ _

/-- The record of a learn that is written, and the move to RESEAT after it (R145). -/
theorem State.Guarded.recordLearn {s : State} (h : s.Guarded false) (sweeping : s.ixc.state = .sweep) (f : Wlu → Wlu)
    (g : Attentions → Attentions) (x : Int) : (((s.onWlu f).attend g).enterReseat x).Guarded false :=
  State.Guarded.enterReseat (s := (s.onWlu f).attend g) h sweeping x

theorem State.Guarded.writeLearn {s : State} (h : s.Guarded false) (sweeping : s.ixc.state = .sweep) (o : LearnOutcome) :
    (s.writeLearn o).Guarded false := by
  have applied : (s.setBothTargets (s.wlu.record.result o)).writeWindows.Guarded false := h.of_same (s.writeTargets_interlock _)
  have still := (congrArg Ixc.state (s.writeTargets_ixc (s.wlu.record.result o))).trans sweeping
  unfold State.writeLearn
  dsimp only
  refine State.Guarded.recordLearn ?_ ?_ _ _ _
  · cases o with
    | applied => dsimp only; exact applied
    | held | failed _ => exact h
  · cases o with
    | applied => dsimp only; exact still
    | held | failed _ => exact sweeping

theorem State.Guarded.learnGrant {s : State} (h : s.Guarded false) : s.learnGrant.Guarded false := by
  have read := h.readCells [⟨.transfer, 0⟩, ⟨.transfer, 4⟩, ⟨.transfer, 7⟩]
  unfold State.learnGrant
  dsimp only
  split
  · next sweeping _ => exact read.writeLearn sweeping _
  · exact read

/-! ### Wired inputs -/

theorem State.Guarded.homeRises {s : State} (h : s.Guarded false) : s.homeRises.Guarded false := by
  have referenced : (((s.onPins fun p => { p with home := true }).onBtk Btk.reference).checkHomeDrift s.btk.counter).Guarded false := by
    unfold State.checkHomeDrift
    split <;> exact h
  exact referenced.counterChanged.testCollection _

theorem State.ipEdge_interlock (s : State) (k : Nat) (r : Bool) : (s.ipEdge k r).interlock = s.interlock := by
  unfold State.ipEdge State.entryEdge State.captureEntry
  dsimp only
  repeat' split
  all_goals rfl

theorem State.Guarded.encoderChange {s : State} (h : s.Guarded false) (c : EncoderChange) : (s.encoderChange c).Guarded false := by
  cases c with
  | both => exact h
  | edge _ d =>
    change (s.countEdge d).Guarded false
    unfold State.countEdge
    dsimp only
    split_ifs
    · exact h
    · exact State.Guarded.abortMoving (s := s.onBtk fun b => { b with saturated := true }) h _
    · exact State.Guarded.counterChanged (s := s.onBtk fun b => { b with counter := Travel.count d s.btk.counter }) h

theorem State.Guarded.lineStop {s t : State} (h : s.Guarded false) :
    (execLineStopActive s = .next t → t.Guarded false) ∧ (execLineStopInactive s = .next t → t.Guarded false) := by
  constructor <;> intro e
  · unfold execLineStopActive at e
    dsimp only at e
    split_ifs at e <;> rw [← Host.Outcome.next.inj e]
    · exact h
    · exact h
    · exact (State.Guarded.abortMotion (b := false) (s := s.onPins fun p => { p with lineStop := true }) h _).of_same
        (State.closeEvent_interlock _ _)
  · unfold execLineStopInactive at e
    dsimp only at e
    split_ifs at e <;> rw [← Host.Outcome.next.inj e]
    · exact h
    · exact (State.Guarded.testCollection (s := s.onPins fun p => { p with lineStop := false }) h _).of_same (State.closeEvent_interlock _ _)
    · exact h

theorem State.Guarded.encoderEdge {s t : State} (h : s.Guarded false) (c : EncoderChange) (e : execEncoderEdge c s = .next t) :
    t.Guarded false := by
  unfold execEncoderEdge at e
  dsimp only at e
  split at e <;> rw [← Host.Outcome.next.inj e]
  · exact h
  · exact (State.Guarded.encoderChange (s := s.onPins fun p => p.encoder c) h c).of_same (State.closeEvent_interlock _ _)

/-! ### Device reset (R193) -/

theorem State.reset_guarded : State.reset.Guarded false := by
  have idle : ∀ k, k < 16 → State.reset.pos k = Position.reset := by decide
  refine .halted ⟨rfl, nofun, fun k hk => ?_, fun k hk _ => ?_, fun k hk _ => ?_⟩ rfl rfl <;>
    simp only [State.interlock, idle k hk] <;> rfl

theorem State.Guarded.resetComplete {s t : State} (h : s.Guarded false) (e : execDeviceResetComplete s = .next t) : t.Guarded false := by
  unfold execDeviceResetComplete at e
  split at e <;> rw [← Host.Outcome.next.inj e]
  · exact State.reset_guarded
  · exact h

/-! ### Links -/

theorem State.handleFrame_interlock (s : State) (l : Link) (k t : Byte) (b : List Byte) (c : BitVec 16) :
    (s.handleFrame l k t b c).interlock = s.interlock := by
  unfold State.handleFrame
  dsimp only
  split <;> [rfl; exact State.place_interlock _ _ _ _]

theorem State.takeCharacter_interlock (s : State) (l : Link) (c : Option Byte) : (s.takeCharacter l c).interlock = s.interlock := by
  have taken : ∀ bs, (s.frameBytesTaken l bs).interlock = s.interlock := fun bs => by
    cases bs with
    | nil => rfl
    | cons n rest =>
      unfold State.frameBytesTaken
      dsimp only
      split_ifs
      · rfl
      · exact s.handleFrame_interlock _ _ _ _ _
      · rfl
  unfold State.takeCharacter
  split
  · rfl
  · split <;> rfl
  · rfl
  · exact taken _

/-! ### Every command -/

/-- Every command keeps the interlock. The commands that order and start work stand outside motion, those that fault a position abort
it, and PERMIT is entered only where every position is IDLE or DONE. -/
theorem State.Guarded.of_exec {s t : State} (h : s.Guarded false) (c : Instr) (e : exec c s = .next t) : t.Guarded false := by
  cases c with
  -- wired lines and timers
  | deviceReset => exact Host.Outcome.next.inj e ▸ h
  | deviceResetComplete => exact h.resetComplete e
  | homeRising =>
    rw [exec, execHomeRising] at e
    exact h.event (fun h => by split <;> [exact h; exact h.homeRises]) e
  | homeFalling => exact h.event (fun h => by split <;> [(dsimp only; split <;> exact h); exact h]) e
  | inPositionEdge k a =>
    rw [exec, execInPositionEdge] at e
    refine h.event (fun h => ?_) e
    split
    · exact h
    · exact h.of_same (State.ipEdge_interlock (s.onPins fun p => p.setIp k.val a) k.val a)
  | lineStopActive => exact h.lineStop.1 e
  | lineStopInactive => exact h.lineStop.2 e
  | encoderEdge c => exact h.encoderEdge c e
  | liftTimeout | carryTimeout | sweepTimeout | homeTimeout =>
    exact h.event (fun h => by split <;> [exact h.enterFault _ _; exact h]) e
  | settleEnd =>
    refine h.event (fun h => ?_) e
    split
    · next settling =>
      simp only [Bool.and_eq_true, beq_iff_eq] at settling
      exact h.endSettle (by rw [settling.1]; rfl) fun _ hu => hu.testCollection _
    · exact h
  | startTimeout k => exact h.event (fun h => by split <;> exact h) e
  | overrun k =>
    rw [exec, execOverrun] at e
    exact h.event (fun h => h.of_same (s.checkOverrun_interlock k.val)) e
  -- grants of the Index Controller and of the scrubber
  | startTimeoutWrite k =>
    refine h.event (fun h => ?_) e
    split
    · exact (State.Guarded.readStages (s := s.popWork) h _).writeNoStart k.isLt
    · exact h
  | advance => exact h.event (fun h => by split <;> [exact State.Guarded.advanceGrant (s := s.popWork) h; exact h]) e
  | learnWrite => exact h.event (fun h => by split <;> [exact State.Guarded.learnGrant (s := s.popWork) h; exact h]) e
  | scrubberRead us =>
    rw [exec, execScrubberRead] at e
    exact h.event (fun h => by split <;> [exact State.Guarded.readCells (s := s.upset us) h _; exact h]) e
  -- link events
  | frameReceived l k tag b c =>
    rw [exec, execFrameReceived] at e
    exact h.event (fun h => h.of_same (s.handleFrame_interlock l k tag b c)) e
  | receiveGapTimeout l => exact h.event (fun h => by split <;> exact h) e
  | frameSent l =>
    rw [exec, execFrameSent] at e
    exact h.event (fun h => h) e
  | characterReceived l c =>
    rw [exec, execCharacterReceived] at e
    exact h.event (fun h => h.of_same (s.takeCharacter_interlock l c)) e
  -- reads
  | readPosition l tag k | readOrder l tag k | readBudget l tag k | readTiming l tag k =>
    exact h.grant_same (fun u => u.readAt_interlock _ _) e
  | readPallet l tag n => exact h.grant_same (fun u => u.readPallets_interlock _) e
  | readRouting l tag v k => exact h.grant_same (fun u => by split <;> rfl) e
  | readIndex l tag | readReturn l tag | readSchedule l tag | readCompletion l tag | readTarget l tag | readLearn l tag
  | readStore l tag | readStatus l tag | readLinks l tag => exact h.grant_same (fun u => rfl) e
  -- stations
  | join l tag m x => exact h.grant (fun u hu => hu.atStation l fun k _ => hu.joinStation m x k) e
  | leave l tag => exact h.grant (fun u hu => hu.atStation l fun k _ => hu.of_same (u.leaveStation_interlock k)) e
  | hold l tag => exact h.grant (fun u hu => hu.atStation l fun k _ => hu.of_same (u.holdStation_interlock k)) e
  | unhold l tag => exact h.grant (fun u hu => hu.atStation l fun k _ => hu.unholdStation k) e
  | start l tag o => exact h.grant (fun u hu => hu.atStation l fun k hk => hu.startReport o hk) e
  | clear l tag o r => exact h.grant (fun u hu => hu.atStation l fun k hk => hu.clearPlain o r hk) e
  | clearLoaded l tag o cs =>
    exact h.grant (fun u hu => hu.atStation l fun k hk => hu.clearReport _ _ _ _ _ _ k (hu.loadedResult cs hk)) e
  | clearReady l tag o =>
    exact h.grant (fun u hu => hu.atStation l fun k hk => hu.clearReport _ _ _ _ _ _ k (hu.readyResult hk)) e
  | clearEmpty l tag o | clearKept l tag o =>
    exact h.grant (fun u hu => hu.atStation l fun k hk => hu.clearReport _ _ _ _ _ _ k fun w => hu.finishOrder rfl hk w _) e
  | clearRemoved l tag o =>
    exact h.grant (fun u hu => hu.atStation l fun k hk => hu.clearReport _ _ _ _ _ _ k (hu.completeResult _ _ hk)) e
  | clearUnloaded l tag o =>
    exact h.grant (fun u hu => hu.atStation l fun k hk => hu.clearReport _ _ _ _ _ _ k (hu.unloadedResult hk)) e
  | clearStuck l tag o =>
    exact h.grant (fun u hu => hu.atStation l fun k hk => hu.clearReport _ _ _ _ _ _ k (hu.stuckResult hk)) e
  | stationFault l tag c => exact h.grant (fun u hu => hu.atStation l fun k _ => hu.faultReport c k) e
  | recovered l tag => exact h.grant (fun u hu => hu.atStation l fun k hk => hu.recoveredReport hk) e
  | arrivedNoPallet l tag o => exact h.grant (fun u hu => hu.atStation l fun k hk => hu.arriveNone o hk) e
  | arrived l tag o n =>
    exact h.grant (fun u hu => hu.atStation l fun k hk => by split <;> [exact hu.arriveNone o hk; exact hu.arrive o n hk]) e
  -- the drive
  | driveJoin l tag => exact h.grant (fun u hu => hu.joinDrive) e
  | lifted l tag => exact h.grant (fun u hu => hu.driveReport hu.lift) e
  | lowered l tag => exact h.grant (fun u hu => hu.driveReport hu.lower) e
  | driveFault l tag => exact h.grant (fun u hu => hu.driveReport hu.faultDrive) e
  | driveRecovered l tag => exact h.grant (fun u hu => hu.driveReport hu.recoverDrive) e
  -- the supervisor: line, occupants and pallets
  | setGeometry l tag n ks p q v => exact h.grant (fun u hu => hu.setGeometry fun _ => geometryOf_range) e
  | setTransfer l tag xs => exact h.grant_same (fun u => u.setTransfer_interlock xs) e
  | setMode l tag k m => exact h.grant (fun u hu => hu.setMode k m) e
  | setOccupant l tag k o => exact h.grant_same (fun u => u.nameOccupant_interlock k o) e
  | survey l tag => exact h.grant_same (fun u => u.surveyLine_interlock) e
  | registerPallet l tag n m => exact h.grant_same (fun u => u.registerPallet_interlock n m) e
  | retirePallet l tag n => exact h.grant_same (fun u => u.atPallet_interlock n fun p => u.retirePallet_interlock n p) e
  | markOut l tag n => exact h.grant_same (fun u => u.atPallet_interlock n fun _ => rfl) e
  | resetClamps l tag n m => exact h.grant_same (fun u => u.atPallet_interlock n fun p => u.resetClamps_interlock n m p) e
  | setDisposition l tag n d =>
    refine h.grant_same (fun u => ?_) e
    cases d with
    | none => rfl
    | some d => exact u.atPallet_interlock n fun p => u.setDisposition_interlock n d p
  -- the supervisor: running the line
  | run l tag m => exact h.grant (fun u hu => hu.runLine m) e
  | halt l tag => exact h.grant (fun u hu => hu.haltLine) e
  | index l tag => exact h.grant (fun u hu => hu.indexLine) e
  | abort l tag => exact h.grant (fun u hu => hu.abortMotion _) e
  | clearFault l tag => exact h.grant (fun u hu => hu.clearFaultLine) e
  | recoverForward l tag => exact h.grant (fun u hu => hu.recoverForwards) e
  | recoverBack l tag => exact h.grant (fun u hu => hu.recoverBackwards) e
  | holdLine l tag => exact h.grant (fun u hu => hu) e
  | releaseLine l tag =>
    exact h.grant (fun u hu => State.Guarded.collect (s := u.onIxc fun i => { i with lineHold := false }) hu .supervisor) e
  | lineReset l tag => exact h.grant (fun u hu => .lineResetAll hu.toLawful) e
  -- the supervisor: tables and lists
  | setRouting l tag v k g => exact h.grant_same (fun u => u.setRouting_interlock v k g) e
  | insertReturn l tag n => exact h.grant_same (fun u => u.atPallet_interlock n fun p => u.insertReturn_interlock n p) e
  | withdrawReturn l tag n => exact h.grant_same (fun u => u.atPallet_interlock n fun p => u.withdrawReturn_interlock n p) e
  | appendSchedule l tag v q => exact h.grant_same (fun u => u.appendSchedule_interlock v q) e
  | clearSchedule l tag => exact h.grant_same (fun u => u.clearScheduleAll_interlock) e
  | fetchCompletion l tag => exact h.grant_same (fun u => u.fetchCompletion_interlock) e
  | setTarget l tag x => exact h.grant_same (fun u => u.setTarget_interlock x) e
  | learn l tag => exact h.grant_same (fun u => u.armLearn_interlock) e
  | acceptLearn l tag => exact h.grant_same (fun u => u.acceptLearn_interlock) e
  | discardLearn l tag => exact h.grant_same (fun u => u.discardLearn_interlock) e
  | setBudget l tag k g b => exact h.grant_same (fun u => u.setBudget_interlock k g b) e
  | clearTiming l tag => exact h.grant_same (fun u => rfl) e
  | acknowledge l tag m => exact h.grant_same (fun u => u.acknowledge_interlock m) e

/-- What the block does on its own moves only timers and frames. -/
theorem State.idle_interlock (s : State) : s.idle.interlock = s.interlock := by
  unfold State.idle
  split <;> [rfl; split] <;> rfl

/-- Settles O7: every step keeps the interlock of R44. -/
theorem interlockIsKeptByEveryStep : Obligations.InterlockIsKeptByEveryStep := by
  intro s t h e
  rw [State.interlocked_iff] at h ⊢
  unfold step at e
  split at e
  · exact Host.Outcome.next.inj e ▸ h.of_same s.idle_interlock
  · next c rest _ => exact State.Guarded.of_exec (s := { s with pending := rest }) h c e

end Sys2Proof.Machine
end

section
/-! SUPPORT. The machine apart from its links and wires, and what the entry to FAULT says of it (O15, O17, O18): two states that differ
in links and wires only are told apart by no fault. -/

namespace Sys2Proof.Machine

/-- Two states that differ at most in their links, their wires, the pointer of the arbiter and the waiting commands. -/
structure State.Alike (s t : State) : Prop where
  rst : t.rst = s.rst
  ixc : t.ixc = s.ixc
  btk : t.btk = s.btk
  wlu : t.wlu = s.wlu
  ctm : t.ctm = s.ctm
  work : t.aar.workList = s.aar.workList
  attentions : t.liu.attentions = s.liu.attentions

theorem State.Alike.refl (s : State) : s.Alike s := ⟨rfl, rfl, rfl, rfl, rfl, rfl, rfl⟩

theorem State.Alike.trans {s t u : State} (a : s.Alike t) (b : t.Alike u) : s.Alike u :=
  ⟨b.rst.trans a.rst, b.ixc.trans a.ixc, b.btk.trans a.btk, b.wlu.trans a.wlu, b.ctm.trans a.ctm, b.work.trans a.work,
    b.attentions.trans a.attentions⟩

theorem State.Alike.symm {s t : State} (a : s.Alike t) : t.Alike s :=
  ⟨a.rst.symm, a.ixc.symm, a.btk.symm, a.wlu.symm, a.ctm.symm, a.work.symm, a.attentions.symm⟩

theorem State.alike_onPins (s : State) (f : Pins → Pins) : s.Alike (s.onPins f) := ⟨rfl, rfl, rfl, rfl, rfl, rfl, rfl⟩

theorem State.alike_granted (s : State) (i : Instr) (l : Link) : s.Alike (s.granted i l) := ⟨rfl, rfl, rfl, rfl, rfl, rfl, rfl⟩

theorem State.alike_closeEvent (s t : State) : t.Alike (State.closeEvent s t) := by
  obtain ⟨rst, ixc, btk, wlu, ctm, aar, -, -, attentions⟩ := State.closeEvent_blocks s t
  exact ⟨rst, ixc, btk, wlu, ctm, by rw [aar], attentions⟩

theorem State.alike_closeGrant (s u : State) (l : Link) (tag : Byte) (r : Reply) : u.Alike (State.closeGrant s l tag (u, r)) := by
  obtain ⟨rst, ixc, btk, wlu, ctm, aar, -, -, attentions⟩ := State.closeGrant_blocks s u l tag r
  exact ⟨rst, ixc, btk, wlu, ctm, by rw [aar], attentions⟩

/-- An entry to FAULT tells alike states apart neither before it nor after. -/
theorem State.EntersFault.alike {s s' t t' : State} {c : Cause} {x : Option SeatCheck} (h : s.EntersFault t c x) (before : s.Alike s')
    (after : t.Alike t') : s'.EntersFault t' c x := by
  obtain ⟨-, ixc, btk, wlu, ctm, work, -⟩ := before
  obtain ⟨-, ixc', btk', wlu', -, work', attentions'⟩ := after
  have kind : s'.motionKind = s.motionKind := by rw [State.motionKind, ixc]; rfl
  constructor <;> simp only [kind, ixc, btk, wlu, ctm, work, ixc', btk', wlu', work', attentions']
  exacts [h.state, h.current, h.last, h.motion, h.timers, h.flags, h.attention, h.work, h.counter, h.closed, h.captures, h.aborted, h.kept]

/-! ### What an event leaves of links and wires -/

theorem State.LinksKept.closeEvent {s t : State} (h : s.LinksKept t) (before : State) : s.LinksKept (State.closeEvent before t) := by
  unfold State.closeEvent; split <;> [exact h; exact h.trans (.postStatus t)]

@[simp] theorem State.enterFault_ctm (s : State) (c : Cause) (x : Option SeatCheck) : (s.enterFault c x).ctm = s.ctm := by
  unfold State.enterFault; dsimp only; split_ifs <;> rfl

@[simp] theorem State.enterFault_liftPermit (s : State) (c : Cause) (x : Option SeatCheck) : (s.enterFault c x).liftPermit = false := by
  simp [State.liftPermit, (s.enterFault_enters c x).state]

theorem State.closeEvent_pins (s t : State) : (State.closeEvent s t).pins = t.pins := (State.closeEvent_blocks s t).2.2.2.2.2.2.1

/-- An event that enters FAULT: what it enters, and what it keeps. -/
theorem State.event_faults {s : State} {f : State → State} (live : s.Live) {c : Cause} {x : Option SeatCheck} (hf : f s = s.enterFault c x) :
    ∃ t, s.event f = .next t ∧ s.EntersFault t c x ∧ t.rst = s.rst ∧ t.ctm = s.ctm ∧ t.pins = s.pins ∧ s.LinksKept t := by
  have same := State.alike_closeEvent s (s.enterFault c x)
  have kept := s.enterFault_collects c x
  refine ⟨_, (s.event_live f live).trans (by rw [hf]), (s.enterFault_enters c x).alike (.refl s) same, ?_, ?_, ?_, kept.links.closeEvent s⟩
  · rw [same.rst, State.enterFault_rst]
  · rw [same.ctm, State.enterFault_ctm]
  · rw [State.closeEvent_pins, kept.wires]

/-- An event that changes nothing. -/
theorem State.event_rests {s : State} {f : State → State} (live : s.Live) (hf : f s = s) : s.event f = .next s := by
  rw [s.event_live f live, hf, State.closeEvent_same s s rfl]

/-! ### LINE STOP (O15) and the timers (O17) -/

/-- Settles O15: LINE STOP aborts a motion or a pending advance, and is a level otherwise. -/
theorem lineStopAbortsTheMotion : Obligations.LineStopAbortsTheMotion := by
  intro s live
  have live : s.pins.resetInput = false := live
  have abortable := IxcState.abortable_iff s.ixc.state
  let u := s.onPins fun p => { p with lineStop := true }
  have active : s.pins.lineStop = false → exec .lineStopActive s = .next (State.closeEvent s (u.abortMotion .stopped)) := fun off => by
    rw [exec, execLineStopActive]; simp [live, off, u]
  refine ⟨fun on => ?_, fun off still away => ?_, fun off moving => ?_, fun off => ?_, fun on => ?_⟩
  · rw [exec, execLineStopActive]; simp [live, on]
  · rw [active off, u.abortMotion_rests _ (Bool.eq_false_iff.mpr fun c => (abortable.mp c).elim (by simp [still]) away)]
    rw [State.closeEvent_same _ _ (by simp [u])]
    rfl
  · have aborts : u.abortMotion .stopped = u.enterFault .stopped := if_pos (abortable.mpr moving)
    have same := State.alike_closeEvent s (u.enterFault .stopped)
    have kept := u.enterFault_collects .stopped none
    have enters := (u.enterFault_enters .stopped none).alike (s.alike_onPins _).symm same
    refine ⟨_, (active off).trans (by rw [aborts]), enters, ?_, ?_, ?_, ?_, ?_, ?_⟩
    · rw [State.closeEvent_pins, kept.wires]; rfl
    · rw [same.rst, State.enterFault_rst]; rfl
    · rw [same.ctm, State.enterFault_ctm]; rfl
    · exact (State.LinksKept.trans (s := s) (t := u) (.of_links rfl) kept.links).closeEvent s
    · simp [State.liftPermit, enters.state]
    · simp [State.returnPermit, enters.state]
  · rw [exec, execLineStopInactive]; simp [live, off]
  · intro u waits
    rw [exec, execLineStopInactive]
    have rests : (s.onPins fun p => { p with lineStop := false }).testCollection .stop = u := State.testCollection_waits _ _ waits
    simp only [live, on, rests]
    rw [State.closeEvent_same s u rfl]
    simp

/-- Settles O17: the expiries of the four timers enter FAULT with their causes, and a stopped timer does not expire. -/
theorem timeoutsEnterFault : Obligations.TimeoutsEnterFault := by
  intro s live
  refine ⟨fun state runs => ?_, fun state runs => ?_, fun state runs => ?_, fun state runs => ?_, fun off => ?_, fun off => ?_,
    fun off => ?_, fun off => ?_⟩
  · exact s.event_faults live (if_pos (by simp [state, runs]))
  · exact s.event_faults live (if_pos (by rcases state with e | e <;> simp [e, runs]))
  · exact s.event_faults live (if_pos (by simp [state, runs]))
  · exact s.event_faults live (if_pos (by simp [state, runs]))
  all_goals exact s.event_rests live (if_neg (by simp [off]))

end Sys2Proof.Machine
end

section
/-! SUPPORT. The checks at the end of the settle time (O18): what each of them comes to. -/

namespace Sys2Proof.Machine

/-! ### The stop check and the seat check (R53, R54) -/

theorem maskOf_eq_zero (p : Nat → Bool) : maskOf p = 0#16 ↔ ∀ k, k < 16 → p k = false := by
  constructor
  · intro zero k hk
    rw [← member_maskOf p k hk, zero]
    simp [member]
  · intro none
    have same : maskOf p = maskOf fun _ => false := by
      unfold maskOf
      exact List.foldl_ext _ _ _ fun m k hk => by rw [none k (List.mem_range.mp hk)]
    rw [same]; decide

theorem State.missing_iff (s : State) (m : Motion) {k : Nat} (hk : k < 16) :
    member (s.missingMask m) k = true ↔ s.expected m k = true ∧ member s.pins.ip k = false := by
  rw [State.missingMask, member_maskOf _ k hk]; simp

theorem State.unexpected_iff (s : State) (m : Motion) {k : Nat} (hk : k < 16) :
    member (s.unexpectedMask m) k = true ↔ k < s.count ∧ s.expected m k = false ∧ member s.pins.ip k = true := by
  rw [State.unexpectedMask, member_maskOf _ k hk]; simp [and_assoc]

/-- The seat check passes where the positions of the line that are expected are those whose inputs are active (R54). -/
theorem State.seated_iff (s : State) (m : Motion) : s.missingMask m = 0#16 ∧ s.unexpectedMask m = 0#16 ↔
    ∀ k, k < 16 → k < s.count → (s.expected m k = true ↔ member s.pins.ip k = true) := by
  have line : ∀ k, s.expected m k = true → k < s.count := fun k h => by
    rw [State.expected, Bool.and_eq_true] at h; exact of_decide_eq_true h.1
  rw [State.missingMask, State.unexpectedMask, maskOf_eq_zero, maskOf_eq_zero]
  constructor
  · rintro ⟨missing, unexpected⟩ k hk inLine
    have missing := missing k hk
    have unexpected := unexpected k hk
    cases e : s.expected m k <;> simp_all
  · intro seated
    refine ⟨fun k hk => ?_, fun k hk => ?_⟩
    · cases e : s.expected m k with
      | false => rfl
      | true => simp [(seated k hk (line k e)).mp e]
    · by_cases inLine : k < s.count
      · cases e : s.expected m k with
        | false => simp [Bool.eq_false_iff.mpr fun active => Bool.eq_false_iff.mp e ((seated k hk inLine).mpr active)]
        | true => simp
      · simp [inLine]

/-! ### The outcomes -/

theorem State.endSettle_misses {s : State} {m : Motion} (test : State → State) (hm : s.ixc.motion = some m) (miss : s.stopPasses m = false) :
    s.endSettle test = s.enterFault .stopMiss (some (s.seatCheck m)) := by
  simp [State.endSettle, hm, miss]

theorem State.endSettle_unseated {s : State} {m : Motion} (test : State → State) (hm : s.ixc.motion = some m) (stops : s.stopPasses m = true)
    (unseated : ¬(s.missingMask m = 0#16 ∧ s.unexpectedMask m = 0#16)) :
    s.endSettle test = s.enterFault .seat (some (s.seatCheck m)) := by
  have failed : (s.missingMask m != 0#16 || s.unexpectedMask m != 0#16) = true := by
    simpa [imp_iff_not_or, or_comm] using unseated
  simp [State.endSettle, hm, stops, failed]

theorem State.endSettle_succeeds {s : State} {m : Motion} (test : State → State) (hm : s.ixc.motion = some m) (stops : s.stopPasses m = true)
    (seated : s.missingMask m = 0#16 ∧ s.unexpectedMask m = 0#16) : s.endSettle test = s.motionSucceeded test m := by
  simp [State.endSettle, hm, stops, seated]

/-- A motion whose checks passed has requested the advance (R49, R55). -/
def State.advanceDue (s : State) : State :=
  { s with ixc := { s.ixc with state := .advance, settleTimer := none }, aar := { s.aar with workList := s.aar.workList ++ [.advance] } }

/-- A motion whose checks passed, but for BACK, requests the advance (R49, R55). -/
theorem State.motionSucceeded_advances {s : State} {m : Motion} (test : State → State) (hk : m.kind ≠ .back) :
    s.motionSucceeded test m = s.advanceDue := by
  unfold State.motionSucceeded
  cases kind : m.kind with
  | back => exact absurd kind hk
  | index | learn | forward => rfl

/-- A BACK motion whose checks passed, before its end: the settle timer and the index timer have stopped (R66, R173). -/
def State.backed (s : State) : State :=
  { s with ixc := { s.ixc with settleTimer := none }, ctm := { s.ctm with indexTimer := none, indexRecovered := false } }

theorem State.motionSucceeded_back {s : State} {m : Motion} (test : State → State) (hk : m.kind = .back) :
    s.motionSucceeded test m = s.backed.endMotion test := by
  unfold State.motionSucceeded; rw [hk]; rfl

/-- On the entry to COLLECT the home timer starts where HOME is inactive (R136). -/
theorem State.collecting_btk (s : State) : s.collecting.btk =
    if s.pins.home then s.btk else { s.btk with homeTimer := some { elapsed := 0, limit := s.working.homeTimeout } } := by
  rw [State.collecting, State.collectTimer]; split <;> rfl

/-! ### The event -/

theorem State.settleEnd_next {s : State} (live : s.Live) (settling : s.ixc.state = .settle) (runs : s.ixc.settleTimer.isSome = true) {t : State}
    (ht : s.endSettle (·.testCollection .drive) = t) : exec .settleEnd s = .next (State.closeEvent s t) := by
  rw [exec, execSettleEnd, s.event_live _ live, ← ht]
  simp [settling, runs]

/-- Settles O18: the stop check and the seat check decide between STOP_MISS, SEAT, ADVANCE and the end of BACK. -/
theorem settleEndMakesTheChecks : Obligations.SettleEndMakesTheChecks := by
  intro m s live settling runs hm target expected stops seated recorded
  have target_eq : s.stopTarget m = target := by
    cases kind : m.kind <;> simp [State.stopTarget, target, kind]
  have expected_iff : ∀ k, s.expected m k = true ↔ k < s.count ∧ expected k := fun k => by
    cases kind : m.kind <;> simp [State.expected, expected, kind]
  have stops_iff : s.stopPasses m = true ↔ stops := by rw [State.stopPasses, target_eq, decide_eq_true_iff]
  have seated_iff : s.missingMask m = 0#16 ∧ s.unexpectedMask m = 0#16 ↔ seated := by
    rw [s.seated_iff]
    exact forall₃_congr fun k hk line => by rw [expected_iff]; simp [line]
  have note : recorded (s.seatCheck m) := by
    refine ⟨rfl, target_eq, fun k hk => ?_, fun k hk => ?_⟩
    · rw [show (s.seatCheck m).missing = s.missingMask m from rfl, s.missing_iff m hk, expected_iff, and_assoc]
    · rw [show (s.seatCheck m).unexpected = s.unexpectedMask m from rfl, s.unexpected_iff m hk, Bool.eq_false_iff, Ne, expected_iff]
      exact ⟨fun ⟨line, out, active⟩ => ⟨line, fun e => out ⟨line, e⟩, active⟩, fun ⟨line, out, active⟩ => ⟨line, fun e => out e.2, active⟩⟩
  have ends : ∀ {t}, s.endSettle (·.testCollection .drive) = t → exec .settleEnd s = .next (State.closeEvent s t) :=
    fun ht => State.settleEnd_next live settling runs ht
  have backs : stops → seated → m.kind = .back → s.endSettle (·.testCollection .drive) = s.backed.endMotion (·.testCollection .drive) :=
    fun a b back => (State.endSettle_succeeds _ hm (stops_iff.mpr a) (seated_iff.mpr b)).trans (State.motionSucceeded_back _ back)
  refine ⟨fun miss => ?_, fun a unseated => ?_, fun a b back => ?_, fun a b back halt => ?_, fun a b back halt due => ?_,
    fun a b back halt due waits => ?_⟩
  · have faults := State.endSettle_misses (·.testCollection .drive) hm (Bool.eq_false_iff.mpr fun c => miss (stops_iff.mp c))
    have same := State.alike_closeEvent s (s.enterFault .stopMiss (some (s.seatCheck m)))
    exact ⟨_, _, ends faults, (s.enterFault_enters _ _).alike (.refl s) same, note, same.rst.trans (s.enterFault_rst _ _)⟩
  · have faults := State.endSettle_unseated (·.testCollection .drive) hm (stops_iff.mpr a) fun c => unseated (seated_iff.mp c)
    have same := State.alike_closeEvent s (s.enterFault .seat (some (s.seatCheck m)))
    exact ⟨_, _, ends faults, (s.enterFault_enters _ _).alike (.refl s) same, note, same.rst.trans (s.enterFault_rst _ _)⟩
  · have advances := (State.endSettle_succeeds (·.testCollection .drive) hm (stops_iff.mpr a) (seated_iff.mpr b)).trans
      (State.motionSucceeded_advances _ back)
    obtain ⟨rst, ixc, btk, wlu, ctm, work, -⟩ := State.alike_closeEvent s s.advanceDue
    have kept : s.LinksKept s.advanceDue := .of_links rfl
    exact ⟨_, ends advances, ixc, work, rst, btk, wlu, ctm, State.closeEvent_pins _ _, kept.closeEvent s⟩
  · have halts := (backs a b back).trans (State.endMotion_halts (s := s.backed) _ halt)
    obtain ⟨rst, ixc, btk, -, ctm, -, -⟩ := State.alike_closeEvent s { s.backed with
      ixc := { s.backed.ixc with state := .halt, motion := none, indexPending := false, haltRequested := false, configDue := false }
      ctm := { s.backed.ctm with cycleTimer := none }
      btk := { s.backed.btk with homeTimer := none } }
    exact ⟨_, ends halts, by rw [ixc], by rw [ixc], by rw [ixc], by rw [ixc]; rfl, by rw [btk]; rfl, by rw [ctm]; rfl, by rw [ctm]; rfl,
      by rw [rst]; rfl⟩
  · have collects := (backs a b back).trans (State.endMotion_collects (s := s.backed) _ halt)
    rw [if_pos (show s.backed.ixc.configDue = true from due)] at collects
    have same := State.alike_closeEvent s (s.backed.collecting.enterFault .config)
    refine ⟨_, ends collects, ?_⟩
    rw [same.rst, same.ixc, same.btk, same.ctm, same.attentions, State.collecting_faults]
    exact ⟨rfl, rfl, rfl, rfl, rfl, rfl, rfl, rfl, rfl, rfl⟩
  · have collects := (backs a b back).trans (State.endMotion_collects (s := s.backed) _ halt)
    have still : ¬s.backed.collecting.Released := by
      rw [State.released_iff] at waits ⊢
      exact waits
    rw [if_neg (by simp [show s.backed.ixc.configDue = false from due]), State.testCollection_waits _ _ still] at collects
    have same := State.alike_closeEvent s s.backed.collecting
    refine ⟨_, ends collects, ?_⟩
    rw [same.rst, same.ixc, same.btk, same.ctm]
    exact ⟨rfl, rfl, rfl, rfl, rfl, s.backed.collecting_btk⟩

end Sys2Proof.Machine
end

section
/-! SUPPORT. The start of a motion (O36, O50, O56): what the entry to PERMIT writes, what its tests come to, and a collection that completes. -/

namespace Sys2Proof.Machine

theorem getD_map_of_lt {α β : Type} (f : α → β) (l : List α) (d : α) {e : β} {n : Nat} (h : n < l.length) :
    (l.map f).getD n e = f (l.getD n d) := by
  rw [List.getD_eq_getElem _ _ (by simpa using h), List.getD_eq_getElem _ _ h, List.getElem_map]

/-! ### What the entry to PERMIT writes -/

/-- The MOTION frame with which a motion of a kind starts (R127). -/
def State.startFrame (s : State) (kind : MotionKind) : Unsolicited :=
  .motion
    { step := .start, kind := kind, target := s.sentTo kind, stopBand := s.staged.stopBand
      limit := if kind = .back then -s.staged.overtravel else s.sentTo kind + s.staged.overtravel
      sense := if kind = .back then .lower else .upper }

/-- The settings with which a learn starts (R139). -/
def State.learnStart (s : State) : LearnSettings :=
  { start := s.staged.target, sweepMargin := s.staged.sweepMargin, limit := s.sentTo .learn, bias := s.staged.bias
    minWidth := s.staged.minWidth, driftLimit := s.staged.driftLimit, extend := s.staged.extend }

/-- The entry captures at the PERMIT of a motion (R132, R137). -/
def State.captureStart (s : State) (kind : MotionKind) : List EntryCapture :=
  if kind = .index then s.btk.captures.mapIdx fun i c => s.captureSetup (i + 1) c else s.btk.captures.map fun c => { c with state := .idle }

/-- The entry to PERMIT before its tests. -/
structure State.Launches (s t : State) (kind : MotionKind) (origin : Mask) : Prop where
  ixc : t.ixc = { s.ixc with
    state := .permit, motion := some { kind := kind, origin := origin, target := s.sentTo kind, sample := none }
    liftTimer := some { elapsed := 0, limit := s.staged.liftTimeout } }
  store : ∃ e, t.rst = { s.rst with transfer := s.rst.transfer.map fun x => { x with working := x.pending }, errors := e }
  counter : t.btk.counter = s.btk.counter ∧ t.btk.saturated = s.btk.saturated
  captures : t.btk.captures = s.captureStart kind
  learn : kind = .learn → t.wlu.record.state = .inProgress ∧ t.wlu.record.settings = some s.learnStart
  clock : t.ctm.clock = s.ctm.clock
  frame : (t.link .drvl).unsolicited = some (s.startFrame kind)
  wires : t.pins = s.pins

theorem State.working_copyStaged (s : State) : s.copyStaged.working = s.staged := by
  have store : s.copyStaged.rst.transfer = s.rst.transfer.map fun t => { t with working := t.pending } := rfl
  unfold State.working State.staged
  rw [store]
  cases s.rst.transfer <;> rfl

/-- The entry to PERMIT with a motion record, before the MOTION frame is posted. -/
def State.lifting (s : State) (kind : MotionKind) (origin : Mask) : State :=
  ((s.copyStaged.onIxc fun i =>
    { i with state := .permit, motion := some { kind := kind, origin := origin, target := s.sentTo kind, sample := none }
             liftTimer := some { elapsed := 0, limit := s.staged.liftTimeout } }).onBtk
    fun b => { b with homeTimer := none, reseatTight := false }).setUpCaptures kind origin

theorem State.beginMotion_eq (s : State) (kind : MotionKind) (origin : Mask) :
    s.beginMotion kind origin = (s.lifting kind origin).postMotion .start := by
  have target : kind.startTarget s.copyStaged.working = s.sentTo kind := by
    rw [State.working_copyStaged]; cases kind <;> rfl
  unfold State.beginMotion State.lifting
  dsimp only
  rw [target, State.working_copyStaged]

/-- The frame that is posted carries the limit under which the motion starts (R127, R128). -/
theorem State.lifting_posts (s : State) (kind : MotionKind) (origin : Mask) :
    (s.lifting kind origin).postMotion .start = (s.lifting kind origin).post .drvl (s.startFrame kind) := by
  have working : (s.lifting kind origin).working = s.staged := by
    rw [← State.working_copyStaged]; cases kind <;> rfl
  have limit : (s.lifting kind origin).sweepLimit = s.sentTo kind ∨ kind ≠ .learn := by
    cases kind with
    | learn => exact .inl (congrArg (fun w : Staged => w.target + w.sweepMargin) s.working_copyStaged)
    | index | forward | back => exact .inr nofun
  have motion : (s.lifting kind origin).ixc.motion = some { kind := kind, origin := origin, target := s.sentTo kind, sample := none } := by
    cases kind <;> rfl
  have state : (s.lifting kind origin).ixc.state = .permit := by cases kind <;> rfl
  unfold State.postMotion
  rw [motion]
  dsimp only [State.overtravelLimit]
  rw [working, state]
  cases kind with
  | learn => rw [limit.resolve_right (fun c => c rfl)]; rfl
  | index | forward | back => rfl

theorem State.beginMotion_launches (s : State) (kind : MotionKind) (origin : Mask) (links : s.liu.links.length = 18) :
    s.Launches (s.beginMotion kind origin) kind origin := by
  have liu : (s.lifting kind origin).liu = s.liu := by cases kind <;> rfl
  rw [s.beginMotion_eq, s.lifting_posts]
  refine ⟨?_, ⟨s.copyStaged.rst.errors, ?_⟩, ?_, ?_, ?_, ?_, ?_, ?_⟩
  · cases kind <;> rfl
  · cases kind <;> rfl
  · cases kind <;> exact ⟨rfl, rfl⟩
  · cases kind <;> rfl
  · rintro rfl
    exact ⟨rfl, congrArg (fun w : Staged => some (LearnSettings.mk w.target w.sweepMargin (w.target + w.sweepMargin) w.bias w.minWidth
      w.driftLimit w.extend)) s.working_copyStaged⟩
  · cases kind <;> rfl
  · rw [State.post, State.link_onLink_self _ _ _ (by rw [liu]; exact links)]
  · cases kind <;> rfl

/-- The timers of the Cycle Timer are no part of what starts the motion. -/
theorem State.Launches.onCtm {s t : State} {kind : MotionKind} {origin : Mask} (h : s.Launches t kind origin) {f : Ctm → Ctm}
    (clock : (f t.ctm).clock = t.ctm.clock) : s.Launches (t.onCtm f) kind origin :=
  { h with clock := clock.trans h.clock }

/-! ### The tests on the entry to PERMIT (R122, R129) -/

theorem State.Launches.working {s t : State} {kind : MotionKind} {origin : Mask} (h : s.Launches t kind origin) : t.working = s.staged := by
  obtain ⟨e, store⟩ := h.store
  unfold State.working State.staged
  rw [store]
  cases s.rst.transfer <;> rfl

theorem State.Launches.overtravels {s t : State} {kind : MotionKind} {origin : Mask} (h : s.Launches t kind origin) :
    t.overtravels = true ↔ ¬s.WithinLimit kind s.btk.counter := by
  have working := h.working
  have limit : kind = .learn → t.sweepLimit = s.sentTo .learn := fun learn => by
    rw [State.sweepLimit, (h.learn learn).2]; rfl
  unfold State.overtravels
  rw [h.ixc, h.counter.1]
  simp only [IxcState.moving, Option.any_some, Bool.true_and]
  unfold State.overtravelLimit State.WithinLimit
  rw [h.ixc, working]
  cases kind with
  | learn => simp [limit rfl, beyond]
  | index | forward | back => simp [beyond]

theorem State.Launches.passes {s t : State} {kind : MotionKind} {origin : Mask} (h : s.Launches t kind origin) (clear : s.ClearToMove kind) :
    t.checkEntry = t := by
  have within : t.overtravels = false := Bool.eq_false_iff.mpr fun c => h.overtravels.mp c clear.2
  simp [State.checkEntry, h.counter.2, clear.1, within]

theorem State.Launches.fails {s t : State} {kind : MotionKind} {origin : Mask} (h : s.Launches t kind origin) (barred : ¬s.ClearToMove kind) :
    ∃ x, t.checkEntry = t.enterFault x ∧
      (x = .encoderRange ∧ s.btk.saturated = true ∨ x = .overtravel ∧ ¬s.WithinLimit kind s.btk.counter) := by
  have moving : t.ixc.state.moving = true := by rw [h.ixc]; rfl
  cases saturated : s.btk.saturated with
  | true => exact ⟨_, by simp [State.checkEntry, moving, h.counter.2, saturated], .inl ⟨rfl, rfl⟩⟩
  | false =>
    have out : ¬s.WithinLimit kind s.btk.counter := fun within => barred ⟨saturated, within⟩
    exact ⟨_, by simp [State.checkEntry, moving, h.counter.2, saturated, h.overtravels.mpr out], .inr ⟨rfl, out⟩⟩

theorem State.captureStart_state (s : State) (kind : MotionKind) (shape : s.btk.captures.length = 15) {k : Nat} (low : 1 ≤ k) (high : k ≤ 15) :
    ((s.captureStart kind).getD (k - 1) EntryCapture.reset).state =
      if kind = .index ∧ k < s.count then (if (s.palletAt k).isSome = true then .awaitDeparture else .armed)
      else if kind = .index then (s.btk.captures.getD (k - 1) EntryCapture.reset).state else .idle := by
  unfold State.captureStart
  have place : k - 1 < s.btk.captures.length := by omega
  by_cases index : kind = .index
  · rw [if_pos index, getD_mapIdx _ _ _ _ EntryCapture.reset place, Nat.sub_add_cancel low, State.captureSetup]
    by_cases line : k < s.count <;> simp [index, line]
  · rw [if_neg index, getD_map_of_lt _ _ EntryCapture.reset place, if_neg fun c => index c.1, if_neg index]

/-- The motion that its tests let begin. -/
theorem State.Launches.enters {s t : State} {kind : MotionKind} {origin : Mask} (h : s.Launches t kind origin) (live : s.Live)
    (free : s.pins.lineStop = false) (shape : s.btk.captures.length = 15) : s.EntersPermit t kind origin := by
  have live : s.pins.resetInput = false := live
  obtain ⟨e, store⟩ := h.store
  refine ⟨by rw [h.ixc], by rw [h.ixc], by rw [store], by rw [h.ixc], ?_, h.frame, by rw [store]; exact ⟨rfl, rfl, rfl⟩, h.learn,
    fun k low high => ?_⟩
  · simp [State.liftPermit, h.ixc, h.wires, free, live]
  · rw [h.captures, s.captureStart_state kind shape low high]

/-- The motion that its tests abort. -/
theorem State.Launches.aborts {s t : State} {kind : MotionKind} {origin : Mask} (h : s.Launches t kind origin)
    (shape : s.btk.captures.length = 15) (x : Cause) : s.AbortsAtEntry (t.enterFault x) kind origin x := by
  have faults := t.enterFault_enters x none
  have moved : t.motionKind = some kind := by rw [State.motionKind, h.ixc]; rfl
  have permit : t.ixc.state = .permit := by rw [h.ixc]
  obtain ⟨e, store⟩ := h.store
  have links : (t.enterFault x).liu.links = t.liu.links := by
    unfold State.enterFault; dsimp only; split_ifs <;> rfl
  refine ⟨faults.state, ?_, faults.last, ?_, ?_, faults.timers, t.enterFault_liftPermit x none, faults.attention, faults.flags.1, ?_, ?_, ?_, ?_⟩
  · rw [faults.current, moved, h.clock]
  · rw [faults.motion, h.ixc]
  · rw [State.enterFault_rst, store]
  · rw [State.link, links]; exact h.frame
  · rw [State.enterFault_rst, store]; exact ⟨rfl, rfl, rfl⟩
  · intro learn
    obtain ⟨state, cause, time, -, attention⟩ := faults.aborted (.inl permit) (by rw [moved, learn])
    exact ⟨state, cause, time.trans (congrArg some h.clock), attention⟩
  · intro k low high
    have at_k := s.captureStart_state kind shape low high
    have place : k - 1 < (s.captureStart kind).length := by
      unfold State.captureStart; split <;> simp <;> omega
    refine ⟨fun index line => ?_, fun other => ?_⟩
    · rw [faults.closed (.inl permit) (by rw [moved, index]), h.captures, getD_map_of_lt _ _ EntryCapture.reset place]
      rw [if_pos ⟨index, line⟩] at at_k
      rw [at_k]
      cases (s.palletAt k).isSome <;> rfl
    · rw [faults.captures (by rw [moved]; exact fun c => other (Option.some.inj c)), h.captures, at_k, if_neg fun c => other c.1, if_neg other]

/-- What the entry to PERMIT comes to. -/
theorem State.Launches.begins {s t : State} {kind : MotionKind} {origin : Mask} (h : s.Launches t kind origin) (live : s.Live)
    (free : s.pins.lineStop = false) (shape : s.btk.captures.length = 15) : s.BeginsMotion t.checkEntry kind origin := by
  refine ⟨fun clear => ?_, fun barred => ?_, ?_⟩
  · rw [h.passes clear]; exact h.enters live free shape
  · obtain ⟨x, aborts, why⟩ := h.fails barred
    exact ⟨x, by rw [aborts]; exact h.aborts shape x, why⟩
  · by_cases clear : s.ClearToMove kind
    · rw [h.passes clear]; exact h.counter
    · obtain ⟨x, aborts, -⟩ := h.fails clear
      have kept := (t.enterFault_enters x none).counter
      rw [aborts]
      exact ⟨kept.1.trans h.counter.1, kept.2.trans h.counter.2⟩

end Sys2Proof.Machine
end

section
/-! SUPPORT. A collection that completes (O36, O50): the motion it begins, the flags it clears and the gate it counts; and what the close
of a grant or an event leaves of that. -/

namespace Sys2Proof.Machine

/-! ### What does not tell two starts of a motion apart -/

theorem State.staged_of_transfer {s t : State} (h : t.rst.transfer = s.rst.transfer) : t.staged = s.staged := by
  simp only [State.staged, h]

theorem State.sentTo_of_transfer {s t : State} (h : t.rst.transfer = s.rst.transfer) (kind : MotionKind) : t.sentTo kind = s.sentTo kind := by
  simp only [State.sentTo, State.staged_of_transfer h]

theorem State.withinLimit_of_transfer {s t : State} (h : t.rst.transfer = s.rst.transfer) (kind : MotionKind) (x : Int) :
    t.WithinLimit kind x ↔ s.WithinLimit kind x := by
  simp only [State.WithinLimit, State.sentTo_of_transfer h, State.staged_of_transfer h]

theorem State.palletMask_congr {s t : State} (occupants : ∀ k, (t.pos k).occupant = (s.pos k).occupant)
    (geometry : t.rst.geometry = s.rst.geometry) : t.palletMask = s.palletMask := by
  simp only [State.palletMask, State.palletAt, occupants, State.count_of_geometry geometry]

theorem State.palletMask_onPos (s : State) (k : Nat) (f : Position → Position) (h : ∀ p, (f p).occupant = p.occupant) :
    (s.onPos k f).palletMask = s.palletMask := by
  refine State.palletMask_congr (fun j => ?_) rfl
  by_cases e : j = k
  · subst e
    by_cases c : j < s.rst.positions.length
    · rw [s.pos_onPos_self f c, h]
    · rw [s.onPos_outside f (Nat.not_lt.mp c)]
  · rw [s.pos_onPos_ne f e]

/-! ### The close of a grant and of an event -/

/-- A state as a grant or an event leaves it that closes on `s`: the machine, the wires and every link's frame but the supervisor's as
they were. -/
structure State.Closes (s t : State) : Prop extends s.Alike t where
  wires : t.pins = s.pins
  frames : ∀ l, l ≠ .supl → (t.link l).unsolicited = (s.link l).unsolicited

theorem State.Closes.refl (s : State) : s.Closes s := ⟨.refl s, rfl, fun _ _ => rfl⟩

theorem State.postStatus_unsolicited (s : State) {l : Link} (h : l ≠ .supl) : (s.postStatus.link l).unsolicited = (s.link l).unsolicited :=
  congrArg LinkRecord.unsolicited (State.link_onLink_ne _ _ h)

theorem State.closes_closeEvent (s t : State) : t.Closes (State.closeEvent s t) := by
  refine ⟨State.alike_closeEvent s t, State.closeEvent_pins s t, fun l h => ?_⟩
  unfold State.closeEvent; split <;> [rfl; exact t.postStatus_unsolicited h]

theorem State.closes_closeGrant (s u : State) (l : Link) (tag : Byte) (r : Reply) : u.Closes (State.closeGrant s l tag (u, r)) := by
  obtain ⟨-, -, -, -, -, -, pins, -, -⟩ := State.closeGrant_blocks s u l tag r
  refine ⟨State.alike_closeGrant s u l tag r, pins, fun x h => ?_⟩
  have here : ((u.onLink l fun x => { x with slot := none, responses := x.responses ++ [{ tag := tag, result := r.result, data := r.data }] }).link x).unsolicited =
      (u.link x).unsolicited := by
    rcases u.link_onLink_cases x l fun x => { x with slot := none, responses := x.responses ++ [{ tag := tag, result := r.result, data := r.data }] } with e | e <;>
      rw [e]
  unfold State.closeGrant
  dsimp only
  split <;> [exact here; exact (State.postStatus_unsolicited _ h).trans here]

theorem State.EntersPermit.closes {s t t' : State} {kind : MotionKind} {origin : Mask} (h : s.EntersPermit t kind origin) (after : t.Closes t') :
    s.EntersPermit t' kind origin := by
  obtain ⟨⟨rst, ixc, btk, wlu, -, -, -⟩, wires, frames⟩ := after
  have permit : t'.liftPermit = t.liftPermit := by simp only [State.liftPermit, ixc, wires]
  constructor <;> simp only [permit, rst, ixc, btk, wlu, frames .drvl nofun]
  exacts [h.state, h.motion, h.settings, h.timer, h.permit, h.frame, h.positions, h.learn, h.captures]

theorem State.AbortsAtEntry.closes {s t t' : State} {kind : MotionKind} {origin : Mask} {x : Cause} (h : s.AbortsAtEntry t kind origin x)
    (after : t.Closes t') : s.AbortsAtEntry t' kind origin x := by
  obtain ⟨⟨rst, ixc, btk, wlu, -, -, attentions⟩, wires, frames⟩ := after
  have permit : t'.liftPermit = t.liftPermit := by simp only [State.liftPermit, ixc, wires]
  constructor <;> simp only [permit, rst, ixc, btk, wlu, attentions, frames .drvl nofun]
  exacts [h.state, h.current, h.last, h.motion, h.settings, h.timers, h.permit, h.attention, h.pending, h.frame, h.positions, h.learn, h.captures]

theorem State.BeginsMotion.closes {s t t' : State} {kind : MotionKind} {origin : Mask} (h : s.BeginsMotion t kind origin) (after : t.Closes t') :
    s.BeginsMotion t' kind origin := by
  obtain ⟨enters, aborts, kept⟩ := h
  refine ⟨fun clear => (enters clear).closes after, fun barred => ?_, by rw [after.btk]; exact kept⟩
  obtain ⟨x, aborts, why⟩ := aborts barred
  exact ⟨x, aborts.closes after, why⟩

/-- The store, the Bar Tracker and the clock before the entry are all that the entry reads. -/
structure State.StartsAs (s s' : State) : Prop where
  rst : s'.rst = s.rst
  btk : s'.btk = s.btk
  clock : s'.ctm.clock = s.ctm.clock

theorem State.EntersPermit.before {s s' t : State} {kind : MotionKind} {origin : Mask} (h : s.EntersPermit t kind origin) (same : s.StartsAs s') :
    s'.EntersPermit t kind origin := by
  obtain ⟨rst, btk, -⟩ := same
  have staged := State.staged_of_transfer (s := s) (t := s') (by rw [rst])
  have sent := State.sentTo_of_transfer (s := s) (t := s') (by rw [rst])
  have count := State.count_of_geometry (s := s) (t := s') (by rw [rst])
  have pallets : ∀ k, s'.palletAt k = s.palletAt k := fun k => by simp only [State.palletAt, State.pos, rst]
  refine ⟨h.state, ?_, ?_, ?_, h.permit, ?_, ?_, ?_, ?_⟩ <;> simp only [staged, sent, count, pallets, rst, btk]
  exacts [h.motion, h.settings, h.timer, h.frame, h.positions, h.learn, h.captures]

theorem State.AbortsAtEntry.before {s s' t : State} {kind : MotionKind} {origin : Mask} {x : Cause} (h : s.AbortsAtEntry t kind origin x)
    (same : s.StartsAs s') : s'.AbortsAtEntry t kind origin x := by
  obtain ⟨rst, -, clock⟩ := same
  have staged := State.staged_of_transfer (s := s) (t := s') (by rw [rst])
  have sent := State.sentTo_of_transfer (s := s) (t := s') (by rw [rst])
  have count := State.count_of_geometry (s := s) (t := s') (by rw [rst])
  refine ⟨h.state, ?_, h.last, ?_, ?_, h.timers, h.permit, h.attention, h.pending, ?_, ?_, ?_, ?_⟩ <;>
    simp only [staged, sent, count, rst, clock]
  exacts [h.current, h.motion, h.settings, h.frame, h.positions, h.learn, h.captures]

theorem State.StartsAs.clear {s s' : State} (same : s.StartsAs s') (kind : MotionKind) : s'.ClearToMove kind ↔ s.ClearToMove kind := by
  rw [State.ClearToMove, same.btk, State.withinLimit_of_transfer (s := s) (t := s') (by rw [same.rst])]; rfl

theorem State.BeginsMotion.before {s s' t : State} {kind : MotionKind} {origin : Mask} (h : s.BeginsMotion t kind origin)
    (same : s.StartsAs s') : s'.BeginsMotion t kind origin := by
  obtain ⟨enters, aborts, kept⟩ := h
  have limit := State.withinLimit_of_transfer (s := s) (t := s') (by rw [same.rst]) kind s.btk.counter
  have clear := same.clear kind
  refine ⟨fun c => (enters (clear.mp c)).before same, fun c => ?_, by rw [same.btk]; exact kept⟩
  obtain ⟨x, aborts, why⟩ := aborts fun d => c (clear.mpr d)
  exact ⟨x, aborts.before same, by rw [same.btk, limit]; exact why⟩

/-! ### A collection that completes (R46 to R48) -/

/-- A collection that completes from `s` in `t` with gating source `g`. -/
structure State.Completes (s t : State) (g : Gate) : Prop where
  begins : s.BeginsMotion t (if s.ixc.learnArmed then .learn else .index) s.palletMask
  flags : t.ixc.indexPending = false ∧ t.ixc.learnArmed = false ∧ t.ixc.haltRequested = s.ixc.haltRequested
  line : t.ixc.lineHold = s.ixc.lineHold
  drive : t.ixc.driveJoined = s.ixc.driveJoined ∧ t.ixc.driveFaulted = s.ixc.driveFaulted
  times : t.ctm = ((s.recordGate g).startIndexTimer).ctm
  store : ∃ x e, t.rst = { s.rst with transfer := x, errors := e }

theorem State.Completes.closes {s t t' : State} {g : Gate} (h : s.Completes t g) (after : t.Closes t') : s.Completes t' g := by
  refine ⟨h.begins.closes after, ?_, ?_, ?_, after.ctm.trans h.times, by rw [after.rst]; exact h.store⟩ <;> rw [after.ixc]
  exacts [h.flags, h.line, h.drive]

@[simp] theorem State.enterFault_driveFaulted (s : State) (c : Cause) (x : Option SeatCheck) :
    (s.enterFault c x).ixc.driveFaulted = s.ixc.driveFaulted := by
  unfold State.enterFault; dsimp only; split_ifs <;> rfl

@[simp] theorem State.checkEntry_ctm (s : State) : s.checkEntry.ctm = s.ctm := by
  unfold State.checkEntry; split_ifs <;> simp

theorem State.beginMotion_ctm (s : State) (kind : MotionKind) (origin : Mask) : (s.beginMotion kind origin).ctm = s.ctm := by
  rw [s.beginMotion_eq, s.lifting_posts]; cases kind <;> rfl

theorem State.gate_ctm {s t : State} (h : t.ctm = s.ctm) (g : Gate) : ((t.recordGate g).startIndexTimer).ctm = ((s.recordGate g).startIndexTimer).ctm := by
  simp only [State.recordGate, State.startIndexTimer, State.onCtm, h]

theorem State.gate_eq (s : State) (g : Gate) :
    (s.recordGate g).startIndexTimer = s.onCtm fun _ => ((s.recordGate g).startIndexTimer).ctm := by cases g <;> rfl

theorem State.Launches.gate {s t : State} {kind : MotionKind} {origin : Mask} (h : s.Launches t kind origin) (g : Gate) :
    s.Launches ((t.recordGate g).startIndexTimer) kind origin := by
  rw [t.gate_eq g]
  exact h.onCtm (by cases g <;> rfl)

/-- The tests on entry keep the flags, whatever they come to. -/
theorem State.checkEntry_flags (s : State) : s.checkEntry.ixc.learnArmed = s.ixc.learnArmed ∧
    s.checkEntry.ixc.haltRequested = s.ixc.haltRequested ∧ s.checkEntry.ixc.lineHold = s.ixc.lineHold ∧
    s.checkEntry.ixc.driveJoined = s.ixc.driveJoined ∧ s.checkEntry.ixc.driveFaulted = s.ixc.driveFaulted := by
  have faults : ∀ c, (s.enterFault c).ixc.learnArmed = s.ixc.learnArmed ∧
      (s.enterFault c).ixc.haltRequested = s.ixc.haltRequested ∧ (s.enterFault c).ixc.lineHold = s.ixc.lineHold ∧
      (s.enterFault c).ixc.driveJoined = s.ixc.driveJoined ∧ (s.enterFault c).ixc.driveFaulted = s.ixc.driveFaulted := fun c => by
    obtain ⟨-, halt, -, armed, line, joined⟩ := (s.enterFault_enters c none).flags
    exact ⟨armed, halt, line, joined, s.enterFault_driveFaulted c none⟩
  unfold State.checkEntry
  split_ifs
  · exact ⟨rfl, rfl, rfl, rfl, rfl⟩
  · exact faults _
  · exact faults _
  · exact ⟨rfl, rfl, rfl, rfl, rfl⟩

theorem State.checkEntry_pending {s : State} (clear : s.ixc.indexPending = false) : s.checkEntry.ixc.indexPending = false := by
  unfold State.checkEntry
  split_ifs
  · exact clear
  · exact (s.enterFault_enters .encoderRange none).flags.1
  · exact (s.enterFault_enters .overtravel none).flags.1
  · exact clear

/-- Where the six conditions of R46 hold, the collection test begins the motion (R47, R48). -/
theorem State.testCollection_completes {s : State} (g : Gate) (released : s.Released) (live : s.Live) (links : s.liu.links.length = 18)
    (shape : s.btk.captures.length = 15) : s.Completes (s.testCollection g) g := by
  let kind : MotionKind := if s.ixc.learnArmed then .learn else .index
  let t := s.onIxc fun i => { i with indexPending := false, learnArmed := false }
  have launches := (t.beginMotion_launches kind s.palletMask links).gate g
  have taken : s.testCollection g = (((t.beginMotion kind s.palletMask).recordGate g).startIndexTimer).checkEntry :=
    if_pos (s.released_iff.mp released)
  have flags := State.checkEntry_flags (((t.beginMotion kind s.palletMask).recordGate g).startIndexTimer)
  have pending := State.checkEntry_pending (s := ((t.beginMotion kind s.palletMask).recordGate g).startIndexTimer) (by rw [launches.ixc]; rfl)
  rw [launches.ixc] at flags
  rw [taken]
  obtain ⟨armed, halt, line, drive⟩ := flags
  refine ⟨?_, ⟨pending, armed, halt⟩, line, drive, ?_, ?_⟩
  · exact (launches.begins live released.line.2.2 shape).before ⟨rfl, rfl, rfl⟩
  · rw [State.checkEntry_ctm]
    exact State.gate_ctm (t.beginMotion_ctm kind s.palletMask) g
  · rw [← taken]; exact (s.testCollection_collects g).store

/-! ### What a completed collection has counted (R173, R175) -/

theorem State.Completes.indexTimer {s t : State} {g : Gate} (h : s.Completes t g) : t.ctm.indexTimer = some 0 := by rw [h.times]; rfl

theorem State.Completes.lastGate {s t : State} {g : Gate} (h : s.Completes t g) : t.ctm.lastGate = some (g, s.ctm.clock) := by
  rw [h.times]; cases g <;> rfl

theorem State.Completes.gating {s t : State} {k : Nat} (h : s.Completes t (.position k)) (shape : k < s.ctm.stats.length) :
    (t.stats k).gating = countUp 65535 (s.stats k).gating := by
  rw [State.stats, h.times]
  exact congrArg WorkStats.gating (getD_modify_self s.ctm.stats k (fun x => { x with gating := countUp 65535 x.gating }) _ shape)

/-! ### Grants -/

/-- What an operation leaves around it: the pointer, the wires, the waiting commands, and the links but for their frames. -/
structure State.Frames (s t : State) : Prop where
  pointer : t.aar.pointer = s.aar.pointer
  wires : t.pins = s.pins
  queue : t.pending = s.pending
  links : s.LinksKept t

theorem State.Frames.refl (s : State) : s.Frames s := ⟨rfl, rfl, rfl, .refl s⟩

theorem State.Frames.trans {s t u : State} (a : s.Frames t) (b : t.Frames u) : s.Frames u :=
  ⟨b.pointer.trans a.pointer, b.wires.trans a.wires, b.queue.trans a.queue, a.links.trans b.links⟩

theorem State.Collects.frames {s t : State} (h : s.Collects t) : s.Frames t := ⟨h.pointer, h.wires, h.queue, h.links⟩

theorem State.OrdersOnly.frames {s t : State} (h : s.OrdersOnly t) : s.Frames t :=
  ⟨by rw [h.aar], h.pins, h.pending, .of_links (congrArg Liu.links h.liu)⟩

/-- A request that is taken to its grant: its answer, and the state its operation leaves. -/
theorem State.grant_does {s u : State} {i : Instr} {p : Permit} {l : Link} {tag : Byte} {cells : List (State → List Cell)}
    {op : State → State × Reply} {r : Reply} (hr : s.Ready l) (hp : p.refusal l = none) (hop : op (s.granted i l) = (u, r))
    (frames : (s.granted i l).Frames u) :
    ∃ t, s.grant i p l tag cells op = .next t ∧ s.Answered t l tag r.result r.data ∧ u.Closes t := by
  refine ⟨_, (s.grant_ready i p l tag cells op hr hp).trans (by rw [hop]), ?_, State.closes_closeGrant s u l tag r⟩
  exact State.closeGrant_answered hr.2.1 frames.links frames.pointer frames.wires frames.queue

/-- A request whose operation completes a collection. -/
theorem State.grant_completes {s u : State} {i : Instr} {p : Permit} {l : Link} {tag : Byte} {cells : List (State → List Cell)}
    {op : State → State × Reply} {r : Reply} {g : Gate} (hr : s.Ready l) (hp : p.refusal l = none)
    (hop : op (s.granted i l) = (u.collect g, r)) (frames : (s.granted i l).Frames u) (sound : u.rst.errors = []) (released : u.Released)
    (shape : u.btk.captures.length = 15) :
    ∃ t, s.grant i p l tag cells op = .next t ∧ s.Answered t l tag r.result r.data ∧ u.Completes t g := by
  rw [u.collect_sound g sound] at hop
  obtain ⟨t, next, answered, closes⟩ := State.grant_does (tag := tag) (cells := cells) hr hp hop (frames.trans (u.testCollection_collects g).frames)
  refine ⟨t, next, answered, (State.testCollection_completes g released ?_ ?_ shape).closes closes⟩
  · rw [State.Live, frames.wires]; exact hr.1.1
  · rw [frames.links.length]; exact ((s.onLink_length l _).trans hr.2.1)

/-- The close of a grant that has led to the state `u`, with the STATUS frame where the content has changed. -/
theorem State.closeGrant_replied (s u : State) (i : Instr) (l : Link) (tag : Byte) (r : ResponseResult) (d : List Byte) :
    State.closeGrant s l tag (u.granted i l, { result := r, data := d }) = s.replied u l tag r d := by
  have e := u.granted_answer i l fun x => { x with slot := none, responses := x.responses ++ [{ tag := tag, result := r, data := d }] }
  unfold State.closeGrant State.replied State.closeEvent
  dsimp only
  rw [e]
  simp only [Bool.not_false, Bool.and_true, decide_eq_true_eq]
  rfl

/-- A request whose operation leads to the state `u`. -/
theorem State.grant_leads {s u : State} {i : Instr} {p : Permit} {l : Link} {tag : Byte} {cells : List (State → List Cell)}
    {op : State → State × Reply} {r : ResponseResult} {d : List Byte} (hr : s.Ready l) (hp : p.refusal l = none)
    (hop : op (s.granted i l) = (u.granted i l, { result := r, data := d })) :
    s.grant i p l tag cells op = .next (s.replied u l tag r d) := by
  rw [s.grant_ready i p l tag cells op hr hp, hop, State.closeGrant_replied]

theorem State.replied_same {s u : State} (l : Link) (tag : Byte) (r : ResponseResult) (d : List Byte) (h : u.statusContent = s.statusContent) :
    s.replied u l tag r d = u.answered l tag r d := State.closeEvent_same _ _ h

end Sys2Proof.Machine
end

section
/-! SUPPORT. ABORT, CLEAR FAULT and RECOVER (O56). -/

namespace Sys2Proof.Machine

/-! ### RECOVER (R64) -/

theorem State.recoverRefusal_refuses {s : State} (h : s.ixc.state ≠ .fault ∨ s.ixc.motion = none ∨ s.pins.lineStop = true ∨
    (∃ k, k < s.count ∧ (s.pos k).mode = .active ∧ (s.pos k).phase = .fault) ∨ s.ixc.driveFaulted = true) :
    s.recoverRefusal = some .wrongState := by
  unfold State.recoverRefusal
  split_ifs with state motion stop faults drive
  · rfl
  · rfl
  · rfl
  · rfl
  · rfl
  · exfalso
    rcases h with h | h | h | ⟨k, hk, active, fault⟩ | h
    · exact state (by simpa using h)
    · exact motion (by simp [h])
    · exact stop h
    · exact faults ((anyBelow_iff _ _).mpr ⟨k, hk, by simp [State.active, active, fault]⟩)
    · exact drive h

theorem State.recoverRefusal_takes {s : State} (fault : s.ixc.state = .fault) (pending : s.ixc.motion.isSome = true)
    (free : s.pins.lineStop = false) (sound : ¬∃ k, k < s.count ∧ (s.pos k).mode = .active ∧ (s.pos k).phase = .fault)
    (drive : s.ixc.driveFaulted = false) : s.recoverRefusal = none := by
  have none : (anyBelow s.count fun k => s.active k && (s.pos k).phase == .fault) = false :=
    Bool.eq_false_iff.mpr fun c => by
      obtain ⟨k, hk, h⟩ := (anyBelow_iff _ _).mp c
      exact sound ⟨k, hk, by simpa [State.active] using h⟩
  simp [State.recoverRefusal, fault, Option.isSome_iff_ne_none.mp pending, free, none, drive]

theorem State.lifting_liu (s : State) (kind : MotionKind) (origin : Mask) : (s.lifting kind origin).liu = s.liu := by cases kind <;> rfl

theorem State.beginMotion_attentions (s : State) (kind : MotionKind) (origin : Mask) :
    (s.beginMotion kind origin).liu.attentions = s.liu.attentions := by
  rw [s.beginMotion_eq, s.lifting_posts]
  exact (show ((s.lifting kind origin).post .drvl (s.startFrame kind)).liu.attentions = (s.lifting kind origin).liu.attentions from rfl).trans
    (congrArg Liu.attentions (s.lifting_liu kind origin))

/-- What a RECOVER that is taken leaves (R64): `s` is the state before it. -/
structure State.Recovers (s t : State) (kind : MotionKind) (origin : Mask) : Prop where
  begins : s.BeginsMotion t kind origin
  cleared : s.ClearToMove kind → t.ixc.currentFault = none ∧ t.ixc.lastFault = s.ixc.lastFault ∧ t.liu.attentions = s.liu.attentions
  flags : t.ixc.haltRequested = s.ixc.haltRequested ∧ t.ixc.learnArmed = s.ixc.learnArmed
  times : t.ctm = s.ctm
  store : ∃ x e, t.rst = { s.rst with transfer := x, errors := e }

theorem State.Recovers.closes {s t t' : State} {kind : MotionKind} {origin : Mask} (h : s.Recovers t kind origin) (after : t.Closes t') :
    s.Recovers t' kind origin := by
  refine ⟨h.begins.closes after, ?_, ?_, after.ctm.trans h.times, by rw [after.rst]; exact h.store⟩ <;> rw [after.ixc]
  · rw [after.attentions]; exact h.cleared
  · exact h.flags

theorem State.Recovers.lists {s t : State} {kind : MotionKind} {origin : Mask} (h : s.Recovers t kind origin) : s.SameLists t := by
  obtain ⟨x, e, store⟩ := h.store
  rw [State.SameLists, store]; exact ⟨rfl, rfl, rfl, rfl⟩

theorem State.recover_frames (s : State) (kind : MotionKind) (origin : Mask) : s.Frames (s.recover kind origin).1 := by
  have opened : s.Frames (s.onIxc fun i => { i with currentFault := none }) := ⟨rfl, rfl, rfl, .of_links rfl⟩
  exact opened.trans ((State.beginMotion_collects _ kind origin).trans (State.checkEntry_collects _)).frames

theorem State.recover_recovers {s : State} (kind : MotionKind) (origin : Mask) (live : s.Live) (links : s.liu.links.length = 18)
    (free : s.pins.lineStop = false) (shape : s.btk.captures.length = 15) : s.Recovers (s.recover kind origin).1 kind origin := by
  let t := s.onIxc fun i => { i with currentFault := none }
  have launches := t.beginMotion_launches kind origin links
  obtain ⟨armed, halt, -⟩ := State.checkEntry_flags (t.beginMotion kind origin)
  rw [launches.ixc] at armed halt
  have same : t.StartsAs s := ⟨rfl, rfl, rfl⟩
  refine ⟨(launches.begins live free shape).before same, fun clear => ?_, ⟨halt, armed⟩, ?_, ?_⟩
  · change (t.beginMotion kind origin).checkEntry.ixc.currentFault = none ∧ _ ∧ (t.beginMotion kind origin).checkEntry.liu.attentions = _
    rw [show (s.recover kind origin).1 = (t.beginMotion kind origin).checkEntry from rfl, launches.passes ((same.clear kind).mp clear),
      launches.ixc, t.beginMotion_attentions]
    exact ⟨rfl, rfl, rfl⟩
  · exact (State.checkEntry_ctm _).trans (t.beginMotion_ctm kind origin)
  · exact ((State.beginMotion_collects t kind origin).trans (State.checkEntry_collects _)).store

/-- A RECOVER that is taken to its grant. -/
theorem State.grant_recovers {s u : State} {i : Instr} {tag : Byte} {cells : List (State → List Cell)} {op : State → State × Reply}
    {kind : MotionKind} {origin : Mask} (hr : s.Ready .supl) (hop : op (s.granted i .supl) = u.recover kind origin)
    (frames : (s.granted i .supl).Frames u) (free : s.pins.lineStop = false) (shape : u.btk.captures.length = 15) :
    ∃ t data, s.grant i .supervisor .supl tag cells op = .next t ∧ s.Answered t .supl tag .accepted data ∧ u.Recovers t kind origin := by
  obtain ⟨t, next, answered, closes⟩ := State.grant_does (tag := tag) (cells := cells) (p := .supervisor) hr rfl
    (hop.trans (Prod.mk.eta (p := u.recover kind origin)).symm) (frames.trans (u.recover_frames kind origin))
  refine ⟨t, _, next, answered, (State.recover_recovers kind origin ?_ ?_ ?_ shape).closes closes⟩
  · rw [State.Live, frames.wires]; exact hr.1.1
  · rw [frames.links.length]; exact (s.onLink_length .supl _).trans hr.2.1
  · rw [frames.wires]; exact free

theorem State.recoverForwards_takes {s : State} (taken : s.recoverRefusal = none) (known : ¬∃ k, k < s.count ∧ (s.pos k).occupant = .unknown) :
    s.recoverForwards = (s.onCtm fun c => { c with indexRecovered := c.indexTimer.isSome }).recover .forward s.palletMask := by
  have none : (anyBelow s.count fun k => (s.pos k).occupant == .unknown) = false := Bool.eq_false_iff.mpr fun c => by
    obtain ⟨k, hk, h⟩ := (anyBelow_iff _ _).mp c
    exact known ⟨k, hk, by simpa using h⟩
  simp [State.recoverForwards, taken, none]

theorem State.recoverForwards_unknown {s : State} (taken : s.recoverRefusal = none) (unknown : ∃ k, k < s.count ∧ (s.pos k).occupant = .unknown) :
    s.recoverForwards = refuse s .trackingIncomplete := by
  have some : (anyBelow s.count fun k => (s.pos k).occupant == .unknown) = true := by
    obtain ⟨k, hk, h⟩ := unknown
    exact (anyBelow_iff _ _).mpr ⟨k, hk, by simp [h]⟩
  simp [State.recoverForwards, taken, some]

/-! ### The three requests -/

/-- Settles O56: ABORT, CLEAR FAULT and RECOVER in every state. -/
theorem faultsAreClearedOrRecovered : Obligations.FaultsAreClearedOrRecovered := by
  intro tag s hr refused moving hindered unknown recovers
  have abortable := IxcState.abortable_iff s.ixc.state
  have takes : s.ixc.state = .fault → s.ixc.motion.isSome = true → ¬hindered → ∀ i, (s.granted i .supl).recoverRefusal = none := by
    intro fault pending free i
    obtain ⟨stop, faults, drive⟩ : s.pins.lineStop ≠ true ∧ ¬(∃ k, k < s.count ∧ (s.pos k).mode = .active ∧ (s.pos k).phase = .fault) ∧
        s.ixc.driveFaulted ≠ true := by simpa only [hindered, not_or] using free
    exact State.recoverRefusal_takes (s := s.granted i .supl) fault pending (Bool.eq_false_iff.mpr stop) faults
      (Bool.eq_false_iff.mpr drive)
  have refuses : s.ixc.state ≠ .fault ∨ s.ixc.motion = none ∨ hindered → ∀ i, (s.granted i .supl).recoverRefusal = some .wrongState :=
    fun h i => State.recoverRefusal_refuses (s := s.granted i .supl) h
  refine ⟨fun h => ?_, fun h => ?_, fun fault clear => ?_, fun h => ?_, fun h => ⟨?_, ?_⟩, fun fault pending free h => ?_,
    fun fault pending free known shape => ?_, fun m fault hm free shape => ?_⟩
  · let g := s.granted (.abort .supl tag) .supl
    have aborts : g.abortLine = (g.enterFault .aborted, { result := .ok, data := [] }) :=
      congrArg (fun t => (t, ({ result := .ok, data := [] } : Reply))) (if_pos (abortable.mpr h))
    obtain ⟨t, next, answered, closes⟩ := State.grant_does (tag := tag) (p := .supervisor) (cells := []) hr rfl aborts
      (g.enterFault_collects .aborted none).frames
    refine ⟨t, next, answered, (g.enterFault_enters .aborted none).alike (s.alike_granted _ _).symm closes.toAlike, ?_, ?_⟩
    · rw [closes.rst, State.enterFault_rst]; rfl
    · rw [closes.ctm, State.enterFault_ctm]; rfl
  · refine State.grant_answers hr rfl ?_
    exact congrArg (fun t => (t, ({ result := .ok, data := [] } : Reply))) (if_neg fun c => h (abortable.mp c))
  · refine State.grant_leads hr rfl ?_
    exact if_pos (by simp [fault, clear])
  · refine State.grant_answers hr rfl (if_neg ?_)
    rcases h with h | h
    · simp [h]
    · simp [Option.isSome_iff_ne_none.mp h]
  · refine State.grant_answers hr rfl ?_
    rw [State.recoverForwards, refuses h]; rfl
  · refine State.grant_answers hr rfl ?_
    rw [State.recoverBackwards, refuses h]; rfl
  · refine State.grant_answers hr rfl ?_
    exact State.recoverForwards_unknown (takes fault pending free _) h
  · obtain ⟨-, -, -, -, -, shape⟩ := shape
    obtain ⟨t, data, next, answered, h⟩ := State.grant_recovers (tag := tag) (cells := State.recoverReads) (i := .recoverForward .supl tag) hr
      (State.recoverForwards_takes (takes fault pending free _) known) ⟨rfl, rfl, rfl, .of_links rfl⟩
      (Bool.eq_false_iff.mpr fun c => free (.inl c)) shape
    refine ⟨t, data, next, answered, h.begins.before ⟨rfl, rfl, rfl⟩, h.cleared, h.flags.1, h.flags.2, ?_, ?_, ?_, ?_⟩
    · rw [h.times]; rfl
    · rw [h.times]; rfl
    · rw [h.times]; rfl
    · exact h.lists
  · obtain ⟨-, -, -, -, -, shape⟩ := shape
    let g := s.granted (.recoverBack .supl tag) .supl
    have taken : g.recoverBackwards = g.recover .back m.origin := by
      rw [State.recoverBackwards, takes fault (by simp [hm]) free]
      change g.recover .back ((s.ixc.motion.map (·.origin)).getD 0#16) = _
      rw [hm]; rfl
    obtain ⟨t, data, next, answered, h⟩ := State.grant_recovers (tag := tag) (cells := State.recoverReads) hr taken (.refl g)
      (Bool.eq_false_iff.mpr fun c => free (.inl c)) shape
    refine ⟨t, data, next, answered, h.begins.before ⟨rfl, rfl, rfl⟩, h.cleared, h.flags.1, h.flags.2, ?_, ?_, ?_, ?_⟩
    · rw [h.times]; rfl
    · rw [h.times]; rfl
    · rw [h.times]; rfl
    · exact h.lists

end Sys2Proof.Machine
end

section
/-! SUPPORT. The drive joins, faults and recovers by its flags (O50). -/

namespace Sys2Proof.Machine

/-- A request that writes flags of the Index Controller outside the status content, and leaves a condition of R46 unmet. -/
theorem State.grant_flags {s : State} {i : Instr} {p : Permit} {l : Link} {tag : Byte} {cells : List (State → List Cell)}
    {op : State → State × Reply} {f : Ixc → Ixc} {d : List Byte} {g : Gate} (hr : s.Ready l) (hp : p.refusal l = none)
    (hop : op (s.granted i l) = (((s.granted i l).onIxc f).collect g, { result := .ok, data := d })) (waits : ¬(s.onIxc f).Released)
    (same : (s.onIxc f).statusContent = s.statusContent) : s.grant i p l tag cells op = .next ((s.onIxc f).answered l tag .ok d) := by
  have still : ¬((s.granted i l).onIxc f).Released := fun c =>
    waits ((State.released_congr (s := (s.granted i l).onIxc f) (t := s.onIxc f) rfl (fun _ => rfl) rfl rfl).mpr c)
  have sound : ((s.granted i l).onIxc f).rst.errors = [] := hr.1.2
  rw [State.collect_sound _ _ sound, State.testCollection_waits _ _ still] at hop
  rw [State.grant_leads (u := s.onIxc f) hr hp hop, State.replied_same _ _ _ _ same]

/-- A request of the drive that writes its flags and completes the collection. -/
theorem State.grant_drives {s : State} {i : Instr} {p : Permit} {tag : Byte} {cells : List (State → List Cell)} {op : State → State × Reply}
    {f : Ixc → Ixc} (hr : s.Ready .drvl) (hp : p.refusal .drvl = none) (armed : (f s.ixc).learnArmed = s.ixc.learnArmed)
    (hop : op (s.granted i .drvl) = (((s.granted i .drvl).onIxc f).collect .drive, { result := .ok, data := [] }))
    (released : (s.onIxc f).Released) (shape : s.Shaped) :
    ∃ t, s.grant i p .drvl tag cells op = .next t ∧ s.Answered t .drvl tag .ok [] ∧
      s.BeginsMotion t (if s.ixc.learnArmed then .learn else .index) s.palletMask ∧
      t.ctm.lastGate = some (.drive, s.ctm.clock) ∧ t.ctm.gateDrive = countUp 65535 s.ctm.gateDrive ∧
      t.ixc.driveJoined = true ∧ t.ixc.driveFaulted = false := by
  obtain ⟨-, -, -, -, -, captures⟩ := shape
  have ready := (State.released_congr (s := s.onIxc f) (t := (s.granted i .drvl).onIxc f) rfl (fun _ => rfl) rfl rfl).mpr released
  obtain ⟨t, next, answered, done⟩ := State.grant_completes (tag := tag) (cells := cells) hr hp hop ⟨rfl, rfl, rfl, .of_links rfl⟩ hr.1.2
    ready captures
  have kind : ((s.granted i .drvl).onIxc f).ixc.learnArmed = s.ixc.learnArmed := armed
  have begins := done.begins
  rw [kind] at begins
  refine ⟨t, next, answered, begins.before ⟨rfl, rfl, rfl⟩, done.lastGate, ?_, done.drive.1.trans ready.drive.1, done.drive.2.trans ready.drive.2⟩
  rw [done.times]; rfl

/-- The entry to FAULT does not look at the faulted flag of the drive. -/
theorem State.EntersFault.of_driveFaulted {s t : State} {b : Bool} {c : Cause} {x : Option SeatCheck}
    (h : (s.onIxc fun i => { i with driveFaulted := b }).EntersFault t c x) : s.EntersFault t c x := { h with }

theorem State.driveReport_joined {s : State} {op : State → State × Reply} (joined : s.ixc.driveJoined = true) : State.driveReport op s = op s :=
  if_pos joined

theorem State.driveReport_refused {s : State} {op : State → State × Reply} (away : s.ixc.driveJoined = false) :
    State.driveReport op s = refuse s .notJoined := if_neg (by simp [away])

theorem State.joinDrive_lifting {s : State} (h : s.ixc.state = .permit ∨ s.ixc.state = .carry ∨ s.ixc.state = .sweep ∨ s.ixc.state = .reseat) :
    s.joinDrive = refuse s .wrongState := by
  unfold State.joinDrive
  rcases h with h | h | h | h <;> rw [h]

theorem State.joinDrive_joins {s : State} (h : ¬(s.ixc.state = .permit ∨ s.ixc.state = .carry ∨ s.ixc.state = .sweep ∨ s.ixc.state = .reseat)) :
    s.joinDrive = ok ((s.onIxc fun i => { i with driveJoined := true, driveFaulted := false }).collect .drive) := by
  unfold State.joinDrive
  cases state : s.ixc.state with
  | permit | carry | sweep | reseat => simp [state] at h
  | halt | collect | settle | advance | fault => rfl

/-- Settles O50: the drive joins, faults and recovers by its flags. -/
theorem driveReportsKeepTheFlags : Obligations.DriveReportsKeepTheFlags := by
  intro tag s hr refused lifting kind completes joined cleared
  refine ⟨fun h => ?_, fun h waits => ?_, fun released shape => ?_, fun away => ⟨?_, ?_⟩, fun member still => ?_, fun member moving => ?_,
    fun member waits => ?_, fun member released shape => ?_⟩
  · refine State.grant_answers hr rfl ?_
    exact State.joinDrive_lifting (s := s.granted (.driveJoin .drvl tag) .drvl) h
  · exact State.grant_flags (f := fun i => { i with driveJoined := true, driveFaulted := false }) hr rfl
      (State.joinDrive_joins (s := s.granted (.driveJoin .drvl tag) .drvl) h) waits rfl
  · have collecting : s.ixc.state = .collect := released.collecting
    have resting : ¬lifting := by simp [lifting, collecting]
    exact State.grant_drives (f := fun i => { i with driveJoined := true, driveFaulted := false }) hr rfl rfl
      (State.joinDrive_joins (s := s.granted (.driveJoin .drvl tag) .drvl) resting) released shape
  · exact State.grant_answers hr rfl (State.driveReport_refused away)
  · exact State.grant_answers hr rfl (State.driveReport_refused away)
  · let u := s.onIxc fun i => { i with driveFaulted := true }
    have rests : State.driveReport State.faultDrive (s.granted (.driveFault .drvl tag) .drvl) =
        (u.granted (.driveFault .drvl tag) .drvl, { result := .ok, data := [] }) :=
      (State.driveReport_joined (s := s.granted (.driveFault .drvl tag) .drvl) member).trans
        (congrArg (fun t => (t, ({ result := .ok, data := [] } : Reply))) (if_neg (Bool.eq_false_iff.mp still)))
    have same : u.statusContent = s.statusContent := rfl
    exact (State.grant_leads hr rfl rests).trans (congrArg Host.Outcome.next (State.replied_same _ _ _ _ same))
  · let g := (s.granted (.driveFault .drvl tag) .drvl).onIxc fun i => { i with driveFaulted := true }
    have aborts : State.driveReport State.faultDrive (s.granted (.driveFault .drvl tag) .drvl) = (g.enterFault .driveFault, { result := .ok, data := [] }) :=
      (State.driveReport_joined (s := s.granted (.driveFault .drvl tag) .drvl) member).trans
        (congrArg (fun t => (t, ({ result := .ok, data := [] } : Reply))) (if_pos moving))
    have frames : (s.granted (.driveFault .drvl tag) .drvl).Frames g := ⟨rfl, rfl, rfl, .of_links rfl⟩
    obtain ⟨t, next, answered, closes⟩ := State.grant_does (tag := tag) (p := .drive) (cells := []) hr rfl aborts
      (frames.trans (g.enterFault_collects .driveFault none).frames)
    refine ⟨t, next, answered, ?_, ?_, ?_⟩
    · have alike : g.Alike (s.onIxc fun i => { i with driveFaulted := true }) := ⟨rfl, rfl, rfl, rfl, rfl, rfl, rfl⟩
      exact ((g.enterFault_enters .driveFault none).alike alike closes.toAlike).of_driveFaulted
    · rw [closes.ixc, State.enterFault_driveFaulted]; rfl
    · rw [closes.rst, State.enterFault_rst]; rfl
  · exact State.grant_flags (f := fun i => { i with driveFaulted := false }) hr rfl (State.driveReport_joined member) waits rfl
  · exact State.grant_drives (f := fun i => { i with driveFaulted := false }) hr rfl rfl (State.driveReport_joined member) released shape

end Sys2Proof.Machine
end

section
/-! SUPPORT. LIFTED and LOWERED (O49): the tests on entry by the statement's terms, and the checks of a settle time of 0, which are those of
the settle timer's end: no operation of the motion looks at the links. -/

namespace Sys2Proof.Machine

/-! ### The tests on entry (R122, R129) -/

/-- The overtravel test by motion kind and state, where the kind runs through the state and RESEAT is apart; `t` is the state that the
statement speaks of. -/
theorem State.overtravels_iff {s t : State} {m : Motion} (hm : s.ixc.motion = some m) (runs : m.kind.runsIn s.ixc.state = true)
    (away : s.ixc.state ≠ .reseat) (state : t.ixc.state = s.ixc.state) (settings : t.working = s.working) (limit : t.sweepLimit = s.sweepLimit) :
    s.overtravels = true ↔ t.InOvertravel m s.btk.counter := by
  unfold State.overtravels State.InOvertravel State.overtravelLimit
  rw [hm, state, settings, limit]
  cases kind : m.kind <;> cases state : s.ixc.state <;> simp [kind, state, MotionKind.runsIn, IxcState.moving, beyond] at runs away ⊢

theorem State.checkEntry_saturated {s : State} (moving : s.ixc.state.moving = true) (h : s.btk.saturated = true) :
    s.checkEntry = s.enterFault .encoderRange := by
  simp [State.checkEntry, moving, h]

theorem State.checkEntry_overtravels {s : State} (moving : s.ixc.state.moving = true) (h : s.btk.saturated = false) (out : s.overtravels = true) :
    s.checkEntry = s.enterFault .overtravel := by
  simp [State.checkEntry, moving, h, out]

theorem State.checkEntry_passes {s : State} (h : s.btk.saturated = false) (within : s.overtravels = false) : s.checkEntry = s := by
  simp [State.checkEntry, h, within]

/-! ### The links and the motion -/

/-- The state with other link records and another pointer. -/
def State.rewired (s : State) (ls : List LinkRecord) (p : Link) : State :=
  { s with liu := { s.liu with links := ls }, aar := { s.aar with pointer := p } }

/-- An operation that does the same whatever the links hold. -/
def LinkBlind (f : State → State) : Prop := ∀ s ls p, ∃ ls' p', f (s.rewired ls p) = (f s).rewired ls' p'

theorem LinkBlind.comp {f g : State → State} (hg : LinkBlind g) (hf : LinkBlind f) : LinkBlind fun s => g (f s) := fun s ls p => by
  obtain ⟨ls', p', e⟩ := hf s ls p
  obtain ⟨ls'', p'', e'⟩ := hg (f s) ls' p'
  exact ⟨ls'', p'', (congrArg g e).trans e'⟩

theorem State.alike_rewired (s : State) (ls : List LinkRecord) (p : Link) : s.Alike (s.rewired ls p) := ⟨rfl, rfl, rfl, rfl, rfl, rfl, rfl⟩

theorem LinkBlind.alike {f : State → State} (hf : LinkBlind f) (s : State) (ls : List LinkRecord) (p : Link) :
    (f s).Alike (f (s.rewired ls p)) := by
  obtain ⟨ls', p', e⟩ := hf s ls p
  rw [e]; exact State.alike_rewired _ _ _

theorem State.enterFault_rewired (s : State) (ls : List LinkRecord) (p : Link) (c : Cause) (x : Option SeatCheck) :
    (s.rewired ls p).enterFault c x = (s.enterFault c x).rewired ls p := by
  have ixc : (s.rewired ls p).ixc = s.ixc := rfl
  have kind : (s.rewired ls p).motionKind = s.motionKind := rfl
  unfold State.enterFault
  simp only [ixc, kind]
  split_ifs <;> rfl

theorem State.checkEntry_blind : LinkBlind State.checkEntry := fun s ls p => by
  refine ⟨ls, p, ?_⟩
  have tests : (s.rewired ls p).ixc = s.ixc ∧ (s.rewired ls p).btk = s.btk ∧ (s.rewired ls p).overtravels = s.overtravels := ⟨rfl, rfl, rfl⟩
  unfold State.checkEntry
  simp only [tests]
  split_ifs
  · rfl
  · exact s.enterFault_rewired ls p _ _
  · exact s.enterFault_rewired ls p _ _
  · rfl

theorem State.beginMotion_blind (kind : MotionKind) (origin : Mask) : LinkBlind fun s => s.beginMotion kind origin := fun s ls p => by
  refine ⟨ls.modify Link.drvl.place fun r => { r with unsolicited := some (s.startFrame kind) }, p, ?_⟩
  beta_reduce
  rw [State.beginMotion_eq, State.lifting_posts, s.beginMotion_eq, s.lifting_posts]
  cases kind <;> rfl

theorem State.testCollection_blind (g : Gate) : LinkBlind fun s => s.testCollection g := fun s ls p => by
  have tests : (s.rewired ls p).collected = s.collected := rfl
  unfold State.testCollection
  beta_reduce
  rw [tests]
  split
  · let kind : MotionKind := if s.ixc.learnArmed then .learn else .index
    let t := s.onIxc fun i => { i with indexPending := false, learnArmed := false }
    have gate : LinkBlind fun u => (u.recordGate g).startIndexTimer := fun u ls p => ⟨ls, p, by cases g <;> rfl⟩
    exact (State.checkEntry_blind.comp (gate.comp (State.beginMotion_blind kind s.palletMask))) t ls p
  · exact ⟨ls, p, rfl⟩

theorem State.endMotion_blind {test : State → State} (ht : LinkBlind test) : LinkBlind fun s => s.endMotion test := fun s ls p => by
  have flags : (s.rewired ls p).ixc = s.ixc := rfl
  beta_reduce
  cases halt : s.ixc.haltRequested with
  | true => exact ⟨ls, p, by rw [State.endMotion_halts _ halt, State.endMotion_halts _ (by rw [flags, halt])]; rfl⟩
  | false =>
    have before : (s.rewired ls p).collecting = s.collecting.rewired ls p := rfl
    rw [State.endMotion_collects _ halt, State.endMotion_collects (s := s.rewired ls p) _ (by rw [flags, halt]), flags, before]
    split
    · exact ⟨ls, p, s.collecting.enterFault_rewired ls p _ _⟩
    · exact ht s.collecting ls p

theorem State.endSettle_blind {test : State → State} (ht : LinkBlind test) : LinkBlind fun s => s.endSettle test := fun s ls p => by
  have flags : (s.rewired ls p).ixc = s.ixc := rfl
  beta_reduce
  cases hm : s.ixc.motion with
  | none => exact ⟨ls, p, by simp only [State.endSettle, hm, flags]⟩
  | some m =>
    cases stops : s.stopPasses m with
    | false =>
      rw [State.endSettle_misses test hm stops, State.endSettle_misses (s := s.rewired ls p) test hm stops]
      exact ⟨ls, p, s.enterFault_rewired ls p _ _⟩
    | true =>
      by_cases seated : s.missingMask m = 0#16 ∧ s.unexpectedMask m = 0#16
      · rw [State.endSettle_succeeds test hm stops seated, State.endSettle_succeeds (s := s.rewired ls p) test hm stops seated]
        by_cases back : m.kind = .back
        · rw [State.motionSucceeded_back test back, State.motionSucceeded_back test back]
          exact State.endMotion_blind ht s.backed ls p
        · rw [State.motionSucceeded_advances test back, State.motionSucceeded_advances test back]
          exact ⟨ls, p, rfl⟩
      · rw [State.endSettle_unseated test hm stops seated, State.endSettle_unseated (s := s.rewired ls p) test hm stops seated]
        exact ⟨ls, p, s.enterFault_rewired ls p _ _⟩

/-! ### The checks in the grant of LOWERED -/

theorem State.endMotion_sound {s : State} (sound : s.rst.errors = []) (g : Gate) : s.endMotion (·.collect g) = s.endMotion (·.testCollection g) := by
  cases halt : s.ixc.haltRequested with
  | true => rw [State.endMotion_halts _ halt, State.endMotion_halts _ halt]
  | false => rw [State.endMotion_collects _ halt, State.endMotion_collects _ halt, State.collect_sound _ _ (show s.collecting.rst.errors = [] from sound)]

theorem State.endSettle_sound {s : State} (sound : s.rst.errors = []) (g : Gate) : s.endSettle (·.collect g) = s.endSettle (·.testCollection g) := by
  unfold State.endSettle
  split
  · rfl
  · next m _ =>
    by_cases back : m.kind = .back
    · rw [State.motionSucceeded_back _ back, State.motionSucceeded_back _ back, State.endMotion_sound (s := s.backed) sound]
    · rw [State.motionSucceeded_advances _ back, State.motionSucceeded_advances _ back]

theorem State.endMotion_frames (s : State) (g : Gate) : s.Frames (s.endMotion (·.testCollection g)) := by
  cases halt : s.ixc.haltRequested with
  | true => rw [State.endMotion_halts _ halt]; exact ⟨rfl, rfl, rfl, .of_links rfl⟩
  | false =>
    have collecting : s.Frames s.collecting := ⟨rfl, rfl, rfl, .of_links rfl⟩
    rw [State.endMotion_collects _ halt]
    split
    · exact collecting.trans (s.collecting.enterFault_collects _ _).frames
    · exact collecting.trans (s.collecting.testCollection_collects g).frames

theorem State.endSettle_frames (s : State) (g : Gate) : s.Frames (s.endSettle (·.testCollection g)) := by
  unfold State.endSettle
  split
  · exact .refl s
  · next m _ =>
    split_ifs
    · exact (s.enterFault_collects _ _).frames
    · exact (s.enterFault_collects _ _).frames
    · by_cases back : m.kind = .back
      · rw [State.motionSucceeded_back _ back]
        have backed : s.Frames s.backed := ⟨rfl, rfl, rfl, .of_links rfl⟩
        exact backed.trans (s.backed.endMotion_frames g)
      · rw [State.motionSucceeded_advances _ back]
        exact ⟨rfl, rfl, rfl, .of_links rfl⟩

/-! ### LIFTED (R50) -/

/-- The state after LIFTED, before its tests. -/
def State.lifted (s : State) (kind : MotionKind) : State := s.onIxc fun i => i.lift kind s.working

theorem State.lift_takes {s : State} {m : Motion} (hm : s.ixc.motion = some m) (permit : s.ixc.state = .permit) :
    s.lift = ok ((s.lifted m.kind).checkEntry.checkSweepEnd) := by
  unfold State.lift
  rw [permit, State.motionKind, hm]; rfl

theorem State.lift_refuses {s : State} (h : s.ixc.state ≠ .permit) : s.lift = refuse s .wrongState := by
  unfold State.lift
  split
  · next permit _ => exact absurd permit h
  · rfl

theorem State.lifted_carries (s : State) {k : MotionKind} (h : k ≠ .learn) : s.lifted k = s.onIxc fun i => { i with
    state := if k = .learn then .sweep else .carry, liftTimer := none, carryTimer := some { elapsed := 0, limit := s.working.carryTimeout } } := by
  cases k with
  | learn => exact absurd rfl h
  | index | forward | back => rfl

theorem State.lifted_sweeps (s : State) {k : MotionKind} (h : k = .learn) : s.lifted k = s.onIxc fun i => { i with
    state := if k = .learn then .sweep else .carry, liftTimer := none, sweepTimer := some { elapsed := 0, limit := s.working.sweepTimeout } } := by
  subst h; rfl

theorem State.lifted_state (s : State) (k : MotionKind) : (s.lifted k).ixc.state = if k = .learn then .sweep else .carry := by cases k <;> rfl

theorem State.lifted_motion (s : State) (k : MotionKind) : (s.lifted k).ixc.motion = s.ixc.motion := by cases k <;> rfl

theorem State.checkSweepEnd_rests {s : State} (h : s.ixc.state ≠ .sweep ∨ s.btk.counter < s.sweepLimit) : s.checkSweepEnd = s := by
  refine if_neg ?_
  rcases h with h | h
  · simp [h]
  · simp [Int.not_le.mpr h]

theorem State.endSweep_ends {s : State} (settings : s.wlu.record.settings.isSome = true) (present : s.rst.geometry.isSome = true) :
    ∃ w, w.outcome.isSome = true ∧ s.endSweep = { s with
      wlu := w, ixc := { s.ixc with sweepTimer := none }, aar := { s.aar with workList := s.aar.workList ++ [.learnWrite] } } := by
  obtain ⟨x, hx⟩ := Option.isSome_iff_exists.mp settings
  obtain ⟨g, hg⟩ := Option.isSome_iff_exists.mp present
  unfold State.endSweep
  rw [hx, hg]
  exact ⟨_, rfl, rfl⟩

theorem MotionKind.runsIn_lifted (k : MotionKind) : k.runsIn (if k = .learn then .sweep else .carry) = true := by cases k <;> rfl

/-- A report of the joined drive whose tests on entry abort the motion. -/
theorem State.grant_aborts {s u : State} {i : Instr} {tag : Byte} {cells : List (State → List Cell)} {op : State → State × Reply} {x : Cause}
    (hr : s.Ready .drvl) (joined : s.ixc.driveJoined = true) (hop : op (s.granted i .drvl) = ok (u.enterFault x))
    (frames : (s.granted i .drvl).Frames u) (pending : u.ixc.motion.isSome = true) (rst : u.rst = s.rst) :
    ∃ t, s.grant i .drive .drvl tag cells (State.driveReport op) = .next t ∧ s.Answered t .drvl tag .ok [] ∧ t.ixc.state = .fault ∧
      t.liu.attentions.fault = some x ∧ t.ixc.motion.isSome = true ∧ t.rst = s.rst := by
  have enters := u.enterFault_enters x none
  obtain ⟨t, next, answered, closes⟩ := State.grant_does (tag := tag) (cells := cells) (p := .drive) hr rfl
    ((State.driveReport_joined (s := s.granted i .drvl) joined).trans hop) (frames.trans (u.enterFault_collects x none).frames)
  refine ⟨t, next, answered, ?_, ?_, ?_, ?_⟩
  · rw [closes.ixc, enters.state]
  · rw [closes.attentions, enters.attention]
  · rw [closes.ixc, enters.motion, pending]
  · rw [closes.rst, State.enterFault_rst, rst]

/-- LIFTED from the joined drive in PERMIT. -/
theorem State.lifted_moves {tag : Byte} {s : State} {m : Motion} (hr : s.Ready .drvl) (joined : s.ixc.driveJoined = true)
    (hm : s.ixc.motion = some m) (permit : s.ixc.state = .permit) :
    let c := s.btk.counter
    let faulted (x : Cause) := ∃ t, exec (.lifted .drvl tag) s = .next t ∧ s.Answered t .drvl tag .ok [] ∧ t.ixc.state = .fault ∧
      t.liu.attentions.fault = some x ∧ t.ixc.motion.isSome = true ∧ t.rst = s.rst
    let next : IxcState := if m.kind = .learn then .sweep else .carry
    let out := ({ s with ixc := { s.ixc with state := next } } : State).InOvertravel m c
    let i := { s.ixc with state := next, liftTimer := none }
    (s.btk.saturated = true → faulted .encoderRange) ∧
    (s.btk.saturated = false → out → faulted .overtravel) ∧
    (s.btk.saturated = false → ¬out → m.kind ≠ .learn → exec (.lifted .drvl tag) s = .next (s.replied { s with
      ixc := { i with carryTimer := some { elapsed := 0, limit := s.working.carryTimeout } } } .drvl tag .ok [])) ∧
    (s.btk.saturated = false → ¬out → m.kind = .learn → c < s.sweepLimit → exec (.lifted .drvl tag) s = .next (s.replied { s with
      ixc := { i with sweepTimer := some { elapsed := 0, limit := s.working.sweepTimeout } } } .drvl tag .ok [])) ∧
    (s.btk.saturated = false → ¬out → m.kind = .learn → s.sweepLimit ≤ c → s.wlu.outcome = none →
      s.wlu.record.settings.isSome = true → s.rst.geometry.isSome = true →
      ∃ t, exec (.lifted .drvl tag) s = .next t ∧ s.Answered t .drvl tag .ok [] ∧ t.ixc = { i with sweepTimer := none } ∧
        t.wlu.outcome.isSome = true ∧ t.aar.workList = s.aar.workList ++ [.learnWrite] ∧ t.rst = s.rst ∧ t.btk = s.btk) := by
  intro c faulted next out i
  let g := s.granted (.lifted .drvl tag) .drvl
  let u := g.lifted m.kind
  have taken : g.lift = ok (u.checkEntry.checkSweepEnd) := State.lift_takes (s := g) hm permit
  have state : u.ixc.state = next := g.lifted_state m.kind
  have moving : u.ixc.state.moving = true := by rw [state]; dsimp only [next]; split <;> rfl
  have pending : u.ixc.motion = some m := (g.lifted_motion m.kind).trans hm
  have frames : g.Frames u := ⟨rfl, rfl, rfl, .of_links rfl⟩
  have test : u.overtravels = true ↔ out :=
    State.overtravels_iff (s := u) (t := { s with ixc := { s.ixc with state := next } }) pending (by rw [state]; exact m.kind.runsIn_lifted)
      (by rw [state]; dsimp only [next]; split <;> nofun) state.symm rfl rfl
  have passes : s.btk.saturated = false → ¬out → g.lift = ok u.checkSweepEnd := fun sound within => by
    rw [taken, State.checkEntry_passes (s := u) sound (Bool.eq_false_iff.mpr fun c => within (test.mp c))]
  have faults : ∀ x, u.checkEntry = u.enterFault x → faulted x := fun x hx => by
    refine State.grant_aborts (u := u) hr joined ?_ frames (by rw [pending]; rfl) rfl
    rw [taken, hx, State.checkSweepEnd_rests (.inl (by rw [(u.enterFault_enters x none).state]; nofun))]
  have report : State.driveReport State.lift g = g.lift := State.driveReport_joined joined
  refine ⟨fun full => faults _ (State.checkEntry_saturated moving full), fun sound far => faults _ (State.checkEntry_overtravels moving sound (test.mpr far)),
    fun sound within other => ?_, fun sound within learn below => ?_, fun sound within learn reached fresh settings present => ?_⟩
  · refine State.grant_leads hr rfl (report.trans ?_)
    rw [passes sound within, State.checkSweepEnd_rests (.inl (by rw [state]; simp [next, other]))]
    exact congrArg ok (g.lifted_carries other)
  · refine State.grant_leads hr rfl (report.trans ?_)
    rw [passes sound within, State.checkSweepEnd_rests (s := u) (.inr below)]
    exact congrArg ok (g.lifted_sweeps learn)
  · obtain ⟨w, outcome, ends⟩ := State.endSweep_ends (s := u) settings present
    have ended : u.checkSweepEnd = u.endSweep := if_pos (by
      have sweeping : u.ixc.state = .sweep := by rw [state]; exact if_pos learn
      have fresh : u.wlu.outcome = none := fresh
      have reached : u.sweepLimit ≤ u.btk.counter := reached
      simp [sweeping, fresh, reached])
    obtain ⟨t, next, answered, closes⟩ := State.grant_does (tag := tag) (p := .drive) (cells := _) hr rfl
      (report.trans (passes sound within)) (frames.trans ⟨by rw [ended, ends], by rw [ended, ends], by rw [ended, ends], .of_links (by rw [ended, ends])⟩)
    rw [ended, ends] at closes
    refine ⟨t, next, answered, closes.ixc.trans ?_, by rw [closes.wlu]; exact outcome, closes.work, closes.rst, closes.btk⟩
    rw [show u = _ from g.lifted_sweeps learn]
    rfl

/-! ### LOWERED (R51) -/

/-- The state after LOWERED, before its tests (R51, R130, R134). -/
def State.settling (s : State) (m : Motion) : State :=
  { s with
    ixc := { s.ixc with state := .settle, carryTimer := none, motion := some { m with sample := some s.btk.counter }
                        settleTimer := some { elapsed := 0, limit := s.working.settleTime } }
    btk := if m.kind = .index then { s.btk with captures := s.btk.captures.map fun x => { x with
      state := match x.state with
        | .awaitDeparture | .armed => .noEntry | .idle => .idle | .captured => .captured | .noEntry => .noEntry } } else s.btk }

theorem State.closeCaptures_eq (s : State) : s.closeCaptures = s.onBtk fun b => { b with captures := b.captures.map fun x => { x with
    state := match x.state with
      | .awaitDeparture | .armed => .noEntry | .idle => .idle | .captured => .captured | .noEntry => .noEntry } } := by
  unfold State.closeCaptures
  congr 1
  funext b
  congr 1
  refine List.map_congr_left fun x _ => ?_
  obtain ⟨state, _, _, _⟩ := x
  cases state <;> rfl

theorem State.lowerBar_eq {s : State} {m : Motion} (hm : s.ixc.motion = some m) : s.lowerBar =
    if (s.settling m).checkEntry.ixc.state == .settle && s.working.settleTime == 0 then (s.settling m).checkEntry.endSettle (·.collect .drive)
    else (s.settling m).checkEntry := by
  have lowered : (s.onIxc fun i => i.lower s.btk.counter s.working) =
      { s with ixc := { s.ixc with state := .settle, carryTimer := none, motion := some { m with sample := some s.btk.counter }
                                   settleTimer := some { elapsed := 0, limit := s.working.settleTime } } } := by
    simp only [State.onIxc, Ixc.lower, hm, Option.map_some]
  have settled : (if s.motionKind == some .index then (s.onIxc fun i => i.lower s.btk.counter s.working).closeCaptures
      else s.onIxc fun i => i.lower s.btk.counter s.working) = s.settling m := by
    rw [State.motionKind, hm, State.closeCaptures_eq, lowered, State.settling]
    by_cases index : m.kind = .index
    · rw [if_pos (by simp [index]), if_pos index]; rfl
    · rw [if_neg (by simp [index]), if_neg index]
  unfold State.lowerBar
  dsimp only
  rw [settled]

theorem State.lower_takes {s : State} (h : s.ixc.state = .carry ∨ s.ixc.state = .reseat) : s.lower = ok s.lowerBar :=
  if_pos (by rcases h with h | h <;> simp [h])

theorem State.lower_refuses {s : State} (carry : s.ixc.state ≠ .carry) (reseat : s.ixc.state ≠ .reseat) : s.lower = refuse s .wrongState :=
  if_neg (by simp [carry, reseat])

theorem MotionKind.runsIn_settle (k : MotionKind) : k.runsIn .settle = true := by cases k <;> rfl

theorem State.settling_saturated (s : State) (m : Motion) : (s.settling m).btk.saturated = s.btk.saturated ∧ (s.settling m).btk.counter = s.btk.counter := by
  unfold State.settling; dsimp only; split <;> exact ⟨rfl, rfl⟩

/-- LOWERED from the joined drive in CARRY and RESEAT. -/
theorem State.lowered_moves {tag : Byte} {s : State} {m : Motion} (hr : s.Ready .drvl) (joined : s.ixc.driveJoined = true)
    (hm : s.ixc.motion = some m) (lowering : s.ixc.state = .carry ∨ s.ixc.state = .reseat) :
    let faulted (x : Cause) := ∃ t, exec (.lowered .drvl tag) s = .next t ∧ s.Answered t .drvl tag .ok [] ∧ t.ixc.state = .fault ∧
      t.liu.attentions.fault = some x ∧ t.ixc.motion.isSome = true ∧ t.rst = s.rst
    let out := ({ s with ixc := { s.ixc with state := .settle } } : State).InOvertravel m s.btk.counter
    let u := s.settling m
    (s.btk.saturated = true → faulted .encoderRange) ∧
    (s.btk.saturated = false → out → faulted .overtravel) ∧
    (s.btk.saturated = false → ¬out → 0 < s.working.settleTime → exec (.lowered .drvl tag) s = .next (s.replied u .drvl tag .ok [])) ∧
    (s.btk.saturated = false → ¬out → s.working.settleTime = 0 →
      ∃ t v, exec (.lowered .drvl tag) s = .next t ∧ exec .settleEnd u = .next v ∧ s.Answered t .drvl tag .ok [] ∧ t.rst = v.rst ∧
        t.ixc = v.ixc ∧ t.btk = v.btk ∧ t.wlu = v.wlu ∧ t.ctm = v.ctm ∧ t.aar.workList = v.aar.workList ∧
        t.liu.attentions = v.liu.attentions) := by
  intro faulted out u
  let g := s.granted (.lowered .drvl tag) .drvl
  let w := u.granted (.lowered .drvl tag) .drvl
  have bar : g.lowerBar = if w.checkEntry.ixc.state == .settle && s.working.settleTime == 0 then w.checkEntry.endSettle (·.collect .drive)
      else w.checkEntry := State.lowerBar_eq (s := g) hm
  have report : State.driveReport State.lower g = ok g.lowerBar :=
    (State.driveReport_joined (s := g) joined).trans (State.lower_takes (s := g) lowering)
  have frames : g.Frames w := ⟨rfl, rfl, rfl, .of_links rfl⟩
  obtain ⟨saturated, counter⟩ := s.settling_saturated m
  have test : w.overtravels = true ↔ out := by
    have e := State.overtravels_iff (s := w) (m := { m with sample := some s.btk.counter })
      (t := { s with ixc := { s.ixc with state := .settle } }) rfl m.kind.runsIn_settle nofun rfl rfl rfl
    rw [show w.btk.counter = s.btk.counter from counter] at e
    exact e
  have passes : s.btk.saturated = false → ¬out → w.checkEntry = w := fun sound within =>
    State.checkEntry_passes (s := w) (saturated.trans sound) (Bool.eq_false_iff.mpr fun c => within (test.mp c))
  have faults : ∀ x, w.checkEntry = w.enterFault x → faulted x := fun x hx => by
    refine State.grant_aborts (u := w) hr joined ?_ frames rfl rfl
    rw [State.lower_takes (s := g) lowering, bar, hx, (w.enterFault_enters x none).state]
    rfl
  refine ⟨fun full => faults _ (State.checkEntry_saturated (s := w) rfl (saturated.trans full)),
    fun sound far => faults _ (State.checkEntry_overtravels (s := w) rfl (saturated.trans sound) (test.mpr far)),
    fun sound within later => ?_, fun sound within atOnce => ?_⟩
  · refine State.grant_leads hr rfl (report.trans ?_)
    rw [bar, passes sound within, if_neg (by simp [Nat.pos_iff_ne_zero.mp later])]
    rfl
  · have checks : g.lowerBar = w.endSettle (·.testCollection .drive) := by
      rw [bar, passes sound within, if_pos (by rw [atOnce]; rfl), State.endSettle_sound (s := w) hr.1.2]
    obtain ⟨t, next, answered, closes⟩ := State.grant_does (tag := tag) (p := .drive) (cells := _) hr rfl
      (report.trans (congrArg ok checks)) (frames.trans (w.endSettle_frames .drive))
    have alike : (u.endSettle (·.testCollection .drive)).Alike (w.endSettle (·.testCollection .drive)) :=
      (State.endSettle_blind (State.testCollection_blind .drive)).alike u _ _
    obtain ⟨rst, ixc, btk, wlu, ctm, work, attentions⟩ :=
      ((State.alike_closeEvent u _).symm.trans alike).trans closes.toAlike
    exact ⟨t, _, next, State.settleEnd_next (s := u) hr.1.1 rfl rfl rfl, answered, rst, ixc, btk, wlu, ctm, work, attentions⟩

/-- Settles O49: LIFTED and LOWERED move the bar. -/
theorem liftedAndLoweredMoveTheBar : Obligations.LiftedAndLoweredMoveTheBar := by
  intro tag s hr c refused inState faulted
  refine ⟨fun away => ⟨?_, ?_⟩, fun joined => ⟨fun other => ?_, fun carry reseat => ?_⟩, fun m joined hm => ⟨fun permit => ?_, fun lowering => ?_⟩⟩
  · exact State.grant_answers hr rfl (State.driveReport_refused away)
  · exact State.grant_answers hr rfl (State.driveReport_refused away)
  · exact State.grant_answers hr rfl ((State.driveReport_joined (s := s.granted _ .drvl) joined).trans
      (State.lift_refuses (s := s.granted (.lifted .drvl tag) .drvl) other))
  · exact State.grant_answers hr rfl ((State.driveReport_joined (s := s.granted _ .drvl) joined).trans
      (State.lower_refuses (s := s.granted (.lowered .drvl tag) .drvl) carry reseat))
  · exact State.lifted_moves hr joined hm permit
  · exact State.lowered_moves hr joined hm lowering

end Sys2Proof.Machine
end

section
/-! SUPPORT. ARRIVED without a pallet (O47), and what a grant that tests the collection leaves, whether it completes or not. -/

namespace Sys2Proof.Machine

/-! ### The checks of a report (R79, R103) -/

theorem State.Member.passes {s : State} {k : Nat} (h : s.Member k) : s.membership k = none := by
  obtain ⟨-, used, joined⟩ := h
  simp [State.membership, used, Option.isSome_iff_ne_none.mp joined]

theorem State.Reports.passes {s : State} {k o : Nat} (h : s.Reports k o) : s.reportRefusal k o false = none := by
  obtain ⟨member, range, current⟩ := h
  simp [State.reportRefusal, member.passes, Nat.not_lt.mpr range, current]

theorem State.Reports.arrives {s : State} {k o : Nat} (h : s.Reports k o) : s.arrivalRefusal k o false =
    if (s.pos k).orderKind == .feed && ((s.pos k).phase == .ordered || (s.pos k).phase == .done) then none else some .wrongState := by
  rw [State.arrivalRefusal, h.passes]

/-! ### A grant that tests the collection -/

/-- A request whose operation ends with the collection test: the state `v` after the test, on which the grant closes. -/
theorem State.grant_collects {s u : State} {i : Instr} {p : Permit} {l : Link} {tag : Byte} {cells : List (State → List Cell)}
    {op : State → State × Reply} {r : Reply} {g : Gate} (hr : s.Ready l) (hp : p.refusal l = none)
    (hop : op (s.granted i l) = (u.collect g, r)) (frames : (s.granted i l).Frames u) (sound : u.rst.errors = []) :
    ∃ t v, s.grant i p l tag cells op = .next t ∧ s.Answered t l tag r.result r.data ∧ u.Collects v ∧ (¬u.Released → v = u) ∧ v.Closes t := by
  rw [u.collect_sound g sound] at hop
  have tests := u.testCollection_collects g
  obtain ⟨t, next, answered, closes⟩ := State.grant_does (tag := tag) (cells := cells) hr hp hop (frames.trans tests.frames)
  exact ⟨t, _, next, answered, tests, u.testCollection_waits g, closes⟩

/-- The six conditions in a state that has changed one position. -/
theorem State.released_at {s u : State} {k : Nat} (hk : k < s.rst.positions.length) (elsewhere : ∀ j, j ≠ k → u.pos j = s.pos j)
    (ixc : u.ixc = s.ixc) (geometry : u.rst.geometry = s.rst.geometry) (wires : u.pins = s.pins) :
    u.Released ↔ (s.onPos k fun _ => u.pos k).Released := by
  refine State.released_congr ixc (fun j => ?_) geometry wires
  by_cases e : j = k
  · subst e; exact (s.pos_onPos_self (fun _ => u.pos j) hk).symm
  · rw [s.pos_onPos_ne _ e, elsewhere j e]

/-- What is kept of the positions, the records and the timers when the grant closes on a collection test. -/
structure State.Keeps (u t : State) : Prop where
  positions : ∀ j, t.pos j = u.pos j ∧ t.detail j = u.detail j ∧ t.work j = u.work j ∧ t.startTimer j = u.startTimer j
  store : ∃ x e, t.rst = { u.rst with transfer := x, errors := e }

theorem State.Collects.keeps {u v t : State} (tests : u.Collects v) (closes : v.Closes t) : u.Keeps t := by
  obtain ⟨x, e, store⟩ := tests.store
  refine ⟨fun j => ?_, x, e, closes.rst.trans store⟩
  simp only [State.pos, State.detail, State.work, State.startTimer, closes.rst, closes.ctm, store, tests.work, tests.startTimers, and_self]

theorem State.Keeps.pallet {u t : State} (h : u.Keeps t) (n : Nat) : t.pallet n = u.pallet n := by
  obtain ⟨x, e, store⟩ := h.store
  rw [State.pallet, store]; rfl

theorem State.Keeps.tables {u t : State} (h : u.Keeps t) : u.SameTables t := by
  obtain ⟨x, e, store⟩ := h.store
  constructor <;> rw [store]

theorem State.Keeps.lists {u t : State} (h : u.Keeps t) : u.SameLists t := by
  obtain ⟨x, e, store⟩ := h.store
  rw [State.SameLists, store]; exact ⟨rfl, rfl, rfl, rfl⟩

theorem State.Keeps.slots {u t : State} (h : u.Keeps t) : t.rst.slots = u.rst.slots := by
  obtain ⟨x, e, store⟩ := h.store
  rw [store]

theorem State.Alike.sameMotion {s t : State} (h : s.Alike t) : s.SameMotion t := ⟨h.ixc, h.btk, h.wlu, h.work, by rw [h.rst]⟩

/-! ### ARRIVED without a pallet (R104) -/

/-- The FEED order of position `k` has ended without a pallet. -/
def State.fedNothing (s : State) (k : Nat) : State :=
  (s.onPos k fun p => { p with phase := .done }).onDetail k fun d => { d with closing := .cleared, resultTaken := some .noPallet }

theorem State.arriveNone_ordered {s : State} {k o : Nat} (h : s.Reports k o) (feed : (s.pos k).orderKind = .feed)
    (ordered : (s.pos k).phase = .ordered) : s.arriveNone o k = ok ((s.fedNothing k).collect (.position k)) := by
  rw [State.arriveNone, h.arrives, if_pos (by simp [feed, ordered])]
  simp only [ordered]
  rfl

theorem State.arriveNone_done {s : State} {k o : Nat} (h : s.Reports k o) (feed : (s.pos k).orderKind = .feed) (done : (s.pos k).phase = .done) :
    s.arriveNone o k = if (s.detail k).resultTaken = some .noPallet then ok s else refuse s .wrongState := by
  rw [State.arriveNone, h.arrives, if_pos (by simp [feed, done])]
  simp only [done]
  rfl

theorem State.arriveNone_refuses {s : State} {k o : Nat} (h : s.Reports k o)
    (other : (s.pos k).orderKind ≠ .feed ∨ ((s.pos k).phase ≠ .ordered ∧ (s.pos k).phase ≠ .done)) :
    s.arriveNone o k = refuse s .wrongState := by
  have fails : ¬((s.pos k).orderKind == .feed && ((s.pos k).phase == .ordered || (s.pos k).phase == .done)) = true := by
    rcases other with kind | ⟨ordered, done⟩
    · simp [kind]
    · simp [ordered, done]
  rw [State.arriveNone, h.arrives, if_neg fails]

/-- Settles O47: an ARRIVED without a pallet ends the FEED order. -/
theorem arrivalWithoutPalletEndsTheFeed : Obligations.ArrivalWithoutPalletEndsTheFeed := by
  intro k tag o s hr reports l p
  let g := s.granted (.arrivedNoPallet l tag o) l
  refine ⟨fun other => ?_, fun feed done => ?_, fun feed ordered shape => ?_⟩
  · exact State.grant_answers hr rfl (State.arriveNone_refuses (s := g) reports other)
  · have answer : g.arriveNone o k.val = if (s.detail k.val).resultTaken = some .noPallet then ok g else refuse g .wrongState :=
      State.arriveNone_done (s := g) reports feed done
    by_cases repeated : (s.detail k.val).resultTaken = some .noPallet
    · rw [if_pos repeated] at answer ⊢
      exact State.grant_answers hr rfl answer
    · rw [if_neg repeated] at answer ⊢
      exact State.grant_answers hr rfl answer
  · obtain ⟨positions, details, -⟩ := shape
    have hk : k.val < s.rst.positions.length := by rw [positions]; exact k.isLt
    have hd : k.val < s.rst.details.length := by rw [details]; exact k.isLt
    have here : (g.fedNothing k.val).pos k.val = { p with phase := .done } := g.pos_onPos_self _ hk
    have record : (g.fedNothing k.val).detail k.val = { s.detail k.val with closing := .cleared, resultTaken := some .noPallet } :=
      State.detail_onDetail_self (g.onPos k.val fun p => { p with phase := .done }) _ hd
    have elsewhere : g.SameElsewhere (g.fedNothing k.val) k.val := (g.onPos_elsewhere k.val _).trans (State.onDetail_elsewhere _ k.val _)
    have fed : g.arriveNone o k.val = ok ((g.fedNothing k.val).collect (.position k.val)) := State.arriveNone_ordered reports feed ordered
    obtain ⟨t, v, next, answered, tests, waits, closes⟩ := State.grant_collects (tag := tag) (cells := positionReads l) (p := .station)
      (op := fun s => s.atStation l fun k s => s.arriveNone o k) (u := g.fedNothing k.val) hr rfl fed ⟨rfl, rfl, rfl, .of_links rfl⟩ hr.1.2
    have kept := tests.keeps closes
    have at_k : t.pos k.val = (g.fedNothing k.val).pos k.val := (kept.positions k.val).1
    refine ⟨t, next, answered, at_k.trans here, (kept.positions k.val).2.1.trans record, fun j hj => ?_, kept.slots, ?_, kept.lists,
      fun still => ?_⟩
    · obtain ⟨a, b, c, d⟩ := kept.positions j
      obtain ⟨a', b', c', d'⟩ := elsewhere j hj
      exact ⟨a.trans a', b.trans b', c.trans c', d.trans d'⟩
    · exact { kept.tables with }
    · have still : ¬(g.fedNothing k.val).Released := fun c =>
        still (at_k ▸ (State.released_at (s := s) hk (fun j hj => (elsewhere j hj).1) rfl rfl rfl).mp c)
      rw [waits still] at closes
      exact { closes.sameMotion with }

end Sys2Proof.Machine
end

section
/-! SUPPORT. The start of a motion by the command that completes a collection (O36): what of the state before the command it depends on. -/

namespace Sys2Proof.Machine

/-! ### The start of a motion, seen from the state before the command -/

/-- The settings, the pallets, the learn-armed flag and the clock of `u` are those of `s`: all but the counter that the entry to PERMIT
reads. -/
structure State.Prepares (s u : State) : Prop where
  transfer : u.rst.transfer = s.rst.transfer
  pallets : u.palletMask = s.palletMask
  armed : u.ixc.learnArmed = s.ixc.learnArmed
  clock : u.ctm.clock = s.ctm.clock

/-- A motion that starts in `t` with the settings and pallets of `s`, as the counter allows (R48, R122, R129). -/
def State.Starts (s t : State) (kind : MotionKind) (g : Gate) (saturated : Bool) (count : Int) : Prop :=
  t.ixc.indexPending = false ∧
  (saturated = false ∧ s.WithinLimit kind count → t.ixc.state = .permit ∧ t.liftPermit = true) ∧
  (¬(saturated = false ∧ s.WithinLimit kind count) → t.ixc.state = .fault ∧ t.liftPermit = false ∧
    ∃ x, (x = .encoderRange ∧ saturated = true ∨ x = .overtravel ∧ ¬s.WithinLimit kind count) ∧
      t.liu.attentions.fault = some x ∧
      t.ixc.currentFault = some { cause := x, check := none, kind := some kind, stamp := s.ctm.clock }) ∧
  t.ixc.motion = some { kind := kind, origin := s.palletMask, target := s.sentTo kind, sample := none } ∧
  t.ixc.learnArmed = false ∧ t.rst.transfer = s.rst.transfer.map (fun x => { x with working := x.pending }) ∧
  t.ctm.indexTimer = some 0 ∧ t.ctm.lastGate = some (g, s.ctm.clock)

/-- The motion record and the settings of a motion that begins, whether or not its tests abort it. -/
theorem State.BeginsMotion.set {s t : State} {kind : MotionKind} {origin : Mask} (h : s.BeginsMotion t kind origin) :
    t.ixc.motion = some { kind := kind, origin := origin, target := s.sentTo kind, sample := none } ∧
      t.rst.transfer = s.rst.transfer.map fun x => { x with working := x.pending } := by
  obtain ⟨enters, aborts, -⟩ := h
  by_cases clear : s.ClearToMove kind
  · exact ⟨(enters clear).motion, (enters clear).settings⟩
  · obtain ⟨x, aborted, -⟩ := aborts clear
    exact ⟨aborted.motion, aborted.settings⟩

theorem State.Completes.starts {s u t : State} {g : Gate} (h : u.Completes t g) (same : s.Prepares u) :
    s.Starts t (if s.ixc.learnArmed then .learn else .index) g u.btk.saturated u.btk.counter := by
  obtain ⟨transfer, pallets, armed, clock⟩ := same
  have begins := h.begins
  rw [armed, pallets] at begins
  obtain ⟨motion, settings⟩ := begins.set
  obtain ⟨enters, aborts, -⟩ := begins
  obtain ⟨pending, learn, -⟩ := h.flags
  have limit := State.withinLimit_of_transfer transfer
  refine ⟨pending, fun clear => ?_, fun barred => ?_, ?_, learn, settings.trans (by rw [transfer]), h.indexTimer, h.lastGate.trans (by rw [clock])⟩
  · have entered := enters ⟨clear.1, (limit _ _).mpr clear.2⟩
    exact ⟨entered.state, entered.permit⟩
  · obtain ⟨x, aborted, why⟩ := aborts fun c => barred ⟨c.1, (limit _ _).mp c.2⟩
    refine ⟨aborted.state, aborted.permit, x, ?_, aborted.attention, aborted.current.trans (by rw [clock])⟩
    rwa [limit] at why
  · rw [motion, State.sentTo_of_transfer transfer]

theorem State.Completes.lists {u t : State} {g : Gate} (h : u.Completes t g) : u.SameLists t := by
  obtain ⟨x, e, store⟩ := h.store
  rw [State.SameLists, store]; exact ⟨rfl, rfl, rfl, rfl⟩

/-- What a completed collection has begun, seen from a state that differs only in what the entry to PERMIT does not read. -/
theorem State.Completes.begun {s w u t : State} {g : Gate} (h : u.Completes t g) (same : s.Prepares u) (before : u.StartsAs w)
    (halt : u.ixc.haltRequested = s.ixc.haltRequested) (lists : s.SameLists u) :
    w.BeginsMotion t (if s.ixc.learnArmed then .learn else .index) s.palletMask ∧ t.ixc.indexPending = false ∧ t.ixc.learnArmed = false ∧
      t.ixc.haltRequested = s.ixc.haltRequested ∧ t.ctm.indexTimer = some 0 ∧ t.ctm.lastGate = some (g, s.ctm.clock) ∧ s.SameLists t := by
  have begins := h.begins
  rw [same.armed, same.pallets] at begins
  obtain ⟨pending, learn, kept⟩ := h.flags
  obtain ⟨queue, schedule, log, counter⟩ := lists
  obtain ⟨queue', schedule', log', counter'⟩ := h.lists
  exact ⟨begins.before before, pending, learn, kept.trans halt, h.indexTimer, h.lastGate.trans (by rw [same.clock]), queue'.trans queue,
    schedule'.trans schedule, log'.trans log, counter'.trans counter⟩

/-! ### The six conditions in a state that has written one position -/

/-- The conditions of R46 hold in a state whose positions let a motion start wherever those of `s` do. -/
theorem State.Released.mono {s u : State} (h : s.Released) (ixc : u.ixc = s.ixc) (wires : u.pins = s.pins)
    (geometry : u.rst.geometry = s.rst.geometry) (stands : ∀ j, (u.pos j).occupant = (s.pos j).occupant ∧
      ((s.pos j).released = true → (u.pos j).released = true)) : u.Released := by
  obtain ⟨collecting, mode, stations, occupants, line, drive⟩ := h
  have count := State.count_of_geometry geometry
  refine ⟨by rwa [ixc], by rwa [ixc], fun j hj => ?_, fun j hj => ?_, by rwa [ixc, wires], by rwa [ixc]⟩
  · rw [count] at hj
    exact (Position.released_iff _).mp ((stands j).2 ((Position.released_iff _).mpr (stations j hj)))
  · rw [count] at hj
    rw [(stands j).1]; exact occupants j hj

end Sys2Proof.Machine
end

section
/-! SUPPORT. The commands that complete a collection without the end of an order (O36): UNHOLD, RELEASE LINE, INDEX, the end of LINE STOP,
RECOVERED, ARRIVED without a pallet, SET MODE, the rising edge of HOME and the end of BACK. -/

namespace Sys2Proof.Machine

/-! ### Writes to one position -/

theorem State.prepares_onPos (s : State) (i : Instr) (l : Link) (k : Nat) (f : Position → Position) (h : ∀ p, (f p).occupant = p.occupant) :
    s.Prepares ((s.granted i l).onPos k f) := ⟨rfl, (s.granted i l).palletMask_onPos k f h, rfl, rfl⟩

theorem State.Shaped.position {s : State} (shape : s.Shaped) {k : Nat} (hk : k < 16) : k < s.rst.positions.length := by
  obtain ⟨positions, -⟩ := shape
  rwa [positions]

theorem State.Shaped.stat {s : State} (shape : s.Shaped) {k : Nat} (hk : k < 16) : k < s.ctm.stats.length := by
  obtain ⟨-, -, -, -, stats, -⟩ := shape
  rwa [stats]

theorem State.Shaped.captured {s : State} (shape : s.Shaped) : s.btk.captures.length = 15 := by
  obtain ⟨-, -, -, -, -, captures⟩ := shape
  exact captures

/-- A position written in two ways, of which the second leaves it free wherever the first does. -/
theorem State.Released.rewritten {s : State} {k : Nat} {f f' : Position → Position} (h : (s.onPos k f).Released) (hk : k < s.rst.positions.length)
    (occupant : (f' (s.pos k)).occupant = (f (s.pos k)).occupant) (free : (f (s.pos k)).released = true → (f' (s.pos k)).released = true) :
    (s.onPos k f').Released := by
  refine h.mono rfl rfl rfl fun j => ?_
  by_cases e : j = k
  · subst e
    rw [s.pos_onPos_self f hk, s.pos_onPos_self f' hk]
    exact ⟨occupant, free⟩
  · rw [s.pos_onPos_ne f e, s.pos_onPos_ne f' e]
    exact ⟨rfl, id⟩

/-- The grant of a request changes nothing that the conditions of R46 look at. -/
theorem State.Released.granted {s : State} (h : s.Released) (i : Instr) (l : Link) : (s.granted i l).Released := { h with }

/-! ### UNHOLD, RELEASE LINE, INDEX and the end of LINE STOP -/

theorem State.unholdStation_member {s : State} {k : Nat} (h : s.Member k) :
    s.unholdStation k = ok ((s.onPos k fun p => { p with hold := false }).collect (.position k)) := by
  rw [State.unholdStation, h.passes]

theorem unhold_completes {k : Fin 16} (tag : Byte) {s : State} (hr : s.Ready (.sl k)) (member : s.Member k.val) (shape : s.Shaped)
    (released : (s.onPos k.val fun p => { p with hold := false }).Released) :
    ∃ t, exec (.unhold (.sl k) tag) s = .next t ∧ s.Answered t (.sl k) tag .ok [] ∧
      ((s.granted (.unhold (.sl k) tag) (.sl k)).onPos k.val fun p => { p with hold := false }).Completes t (.position k.val) :=
  State.grant_completes (p := .station) (cells := positionReads (.sl k)) (op := fun s => s.atStation (.sl k) fun k s => s.unholdStation k)
    hr rfl (State.unholdStation_member (s := s.granted (.unhold (.sl k) tag) (.sl k)) member) ⟨rfl, rfl, rfl, .of_links rfl⟩ hr.1.2
    (released.granted (.unhold (.sl k) tag) (.sl k)) shape.captured

theorem releaseLine_completes (tag : Byte) {s : State} (hr : s.Ready .supl) (shape : s.Shaped)
    (released : (s.onIxc fun i => { i with lineHold := false }).Released) :
    ∃ t, exec (.releaseLine .supl tag) s = .next t ∧ s.Answered t .supl tag .ok [] ∧
      ((s.granted (.releaseLine .supl tag) .supl).onIxc fun i => { i with lineHold := false }).Completes t .supervisor :=
  State.grant_completes (p := .supervisor) (cells := [])
    (op := fun s => ok ((s.onIxc fun i => { i with lineHold := false }).collect .supervisor))
    (u := (s.granted (.releaseLine .supl tag) .supl).onIxc fun i => { i with lineHold := false }) hr rfl rfl ⟨rfl, rfl, rfl, .of_links rfl⟩
    hr.1.2 (released.granted (.releaseLine .supl tag) .supl) shape.captured

theorem State.indexLine_steps {s : State} (collecting : s.ixc.state = .collect) (step : s.ixc.runMode = .step) :
    s.indexLine = accepted ((s.onIxc fun i => { i with indexPending := true }).collect .supervisor) (flagByte true) :=
  if_pos (by simp [collecting, step])

theorem index_completes (tag : Byte) {s : State} (hr : s.Ready .supl) (step : s.ixc.runMode = .step) (shape : s.Shaped)
    (released : (s.onIxc fun i => { i with indexPending := true }).Released) :
    ∃ t, exec (.index .supl tag) s = .next t ∧ s.Answered t .supl tag .accepted (flagByte true) ∧
      ((s.granted (.index .supl tag) .supl).onIxc fun i => { i with indexPending := true }).Completes t .supervisor := by
  have collecting : s.ixc.state = .collect := released.collecting
  exact State.grant_completes (p := .supervisor) (cells := []) (op := State.indexLine) hr rfl
    (State.indexLine_steps (s := s.granted (.index .supl tag) .supl) collecting step) ⟨rfl, rfl, rfl, .of_links rfl⟩ hr.1.2
    (released.granted (.index .supl tag) .supl) shape.captured

theorem lineStopInactive_completes {s : State} (live : s.Live) (stopped : s.pins.lineStop = true) (links : s.liu.links.length = 18)
    (shape : s.Shaped) (released : (s.onPins fun p => { p with lineStop := false }).Released) :
    ∃ t, exec .lineStopInactive s = .next t ∧ s.LinksKept t ∧ (s.onPins fun p => { p with lineStop := false }).Completes t .stop := by
  let u := s.onPins fun p => { p with lineStop := false }
  have ends : exec .lineStopInactive s = .next (State.closeEvent s (u.testCollection .stop)) := by
    rw [exec, execLineStopInactive]
    simp [show s.pins.resetInput = false from live, stopped, u]
  have pinned : s.LinksKept u := .of_links rfl
  have kept : s.LinksKept (u.testCollection .stop) := pinned.trans (u.testCollection_collects .stop).links
  exact ⟨_, ends, kept.closeEvent s, (State.testCollection_completes .stop released live links shape.captured).closes (State.closes_closeEvent s _)⟩

/-! ### RECOVERED and ARRIVED without a pallet -/

/-- A position whose fault has been recovered (R84). -/
def Position.recovered (p : Position) : Position :=
  { p with phase := if p.orderKind == .noOrder then .idle else .done, faultCode := none }

theorem State.recoveredReport_takes {s : State} {k : Nat} (member : s.Member k) (fault : (s.pos k).phase = .fault)
    (other : (s.pos k).faultCode ≠ some .selfTest) : s.recoveredReport k = ok ((s.onPos k Position.recovered).collect (.position k)) := by
  rw [State.recoveredReport, member.passes]
  exact if_pos (by simp [fault, other])

/-- A position that is free in DONE is free once it has recovered. -/
theorem Position.recovered_released {p : Position} (h : ({ p with phase := .done, faultCode := none } : Position).released = true) :
    p.recovered.released = true := by
  rw [Position.released_iff] at h ⊢
  intro active
  obtain ⟨joined, -, free⟩ := h active
  refine ⟨joined, ?_, free⟩
  rw [Position.recovered]; dsimp only; split <;> simp

theorem recovered_completes {k : Fin 16} (tag : Byte) {s : State} (hr : s.Ready (.sl k)) (member : s.Member k.val)
    (fault : (s.pos k.val).phase = .fault) (other : (s.pos k.val).faultCode ≠ some .selfTest) (shape : s.Shaped)
    (released : (s.onPos k.val fun p => { p with phase := .done, faultCode := none }).Released) :
    ∃ t, exec (.recovered (.sl k) tag) s = .next t ∧ s.Answered t (.sl k) tag .ok [] ∧
      ((s.granted (.recovered (.sl k) tag) (.sl k)).onPos k.val Position.recovered).Completes t (.position k.val) := by
  have free : (s.onPos k.val Position.recovered).Released :=
    released.rewritten (shape.position k.isLt) rfl Position.recovered_released
  exact State.grant_completes (p := .station) (cells := positionReads (.sl k)) (op := fun s => s.atStation (.sl k) fun k s => s.recoveredReport k)
    hr rfl (State.recoveredReport_takes (s := s.granted (.recovered (.sl k) tag) (.sl k)) member fault other) ⟨rfl, rfl, rfl, .of_links rfl⟩
    hr.1.2 (free.granted (.recovered (.sl k) tag) (.sl k)) shape.captured

theorem arrivedNoPallet_completes {k : Fin 16} (tag : Byte) {o : Nat} {s : State} (hr : s.Ready (.sl k)) (reports : s.Reports k.val o)
    (feed : (s.pos k.val).orderKind = .feed) (ordered : (s.pos k.val).phase = .ordered) (shape : s.Shaped)
    (released : (s.onPos k.val fun p => { p with phase := .done }).Released) :
    ∃ t, exec (.arrivedNoPallet (.sl k) tag o) s = .next t ∧ s.Answered t (.sl k) tag .ok [] ∧
      ((s.granted (.arrivedNoPallet (.sl k) tag o) (.sl k)).fedNothing k.val).Completes t (.position k.val) := by
  have free : ((s.granted (.arrivedNoPallet (.sl k) tag o) (.sl k)).fedNothing k.val).Released :=
    released.mono rfl rfl rfl fun _ => ⟨rfl, id⟩
  exact State.grant_completes (p := .station) (cells := positionReads (.sl k)) (op := fun s => s.atStation (.sl k) fun k s => s.arriveNone o k)
    hr rfl (State.arriveNone_ordered (s := s.granted (.arrivedNoPallet (.sl k) tag o) (.sl k)) reports feed ordered)
    ⟨rfl, rfl, rfl, .of_links rfl⟩ hr.1.2 free shape.captured

/-! ### SET MODE -/

/-- Of the Cycle Timer at most the start and work timers of positions differ. -/
def State.TimersOnly (s t : State) : Prop := ∃ x w, t.ctm = { s.ctm with startTimers := x, work := w }

theorem State.TimersOnly.refl (s : State) : s.TimersOnly s := ⟨_, _, rfl⟩

theorem State.cancelOrder_timersOnly (s : State) (k : Nat) (c : Cancellation) : s.TimersOnly (s.cancelOrder k c) := by
  have same : ((s.closeHistory k c).onDetail k fun d => { d with closing := c.closing }).ctm = s.ctm := (s.closeHistory_same k c k).2.2
  rw [State.TimersOnly, s.cancelOrder_eq, ← same]
  exact ⟨_, _, rfl⟩

theorem State.cancelOutstanding_timersOnly (s : State) (k : Nat) : s.TimersOnly (s.cancelOutstanding k) := by
  unfold State.cancelOutstanding
  cases (s.pos k).phase with
  | ordered | working => exact s.cancelOrder_timersOnly k _
  | idle | done | fault => exact .refl s

theorem State.changeMode_timersOnly (s : State) (k : Nat) (m : Mode) : s.TimersOnly (s.changeMode k m) := by
  cases m with
  | active => exact .refl s
  | bypass =>
    have ended : s.TimersOnly (s.endForBypass k) := by
      unfold State.endForBypass
      cases (s.pos k).phase with
      | ordered | working => exact s.cancelOrder_timersOnly k _
      | idle | done | fault => exact .refl s
    exact ended

/-- The end of an order prepares for the motion what stood before it. -/
theorem State.OrdersOnly.prepares {s u : State} (orders : s.OrdersOnly u) (timers : s.TimersOnly u)
    (occupants : ∀ j, (u.pos j).occupant = (s.pos j).occupant) : s.Prepares u := by
  obtain ⟨m, ps, ds, store⟩ := orders.store
  obtain ⟨x, w, times⟩ := timers
  exact ⟨by rw [store], State.palletMask_congr occupants (by rw [store]), by rw [orders.ixc], by rw [times]⟩

theorem State.OrdersOnly.geometry {s u : State} (orders : s.OrdersOnly u) : u.rst.geometry = s.rst.geometry := by
  obtain ⟨m, ps, ds, store⟩ := orders.store
  rw [store]

theorem State.OrdersOnly.errors {s u : State} (orders : s.OrdersOnly u) : u.rst.errors = s.rst.errors := by
  obtain ⟨m, ps, ds, store⟩ := orders.store
  rw [store]

theorem State.setMode_takes {s : State} {k : Nat} {m : Mode} (taken : s.modeRefusal k m = none) (other : (s.pos k).mode ≠ m) :
    s.setMode k (some m) = ok ((s.changeMode k m).collect .supervisor) := by
  unfold State.setMode
  dsimp only
  rw [taken]
  exact if_neg other

/-- A position that is free in IDLE is free with its mode changed. -/
theorem Position.withMode_released {p : Position} {m : Mode}
    (h : ({ p with mode := m, phase := .idle, hold := if m = .bypass then false else p.hold } : Position).released = true) :
    (p.withMode m).released = true := by
  rw [Position.released_iff] at h ⊢
  exact h

/-- In COLLECT a SET MODE of a position that is neither a load nor an unload position is not refused (R14). -/
theorem State.modeRefusal_collecting {s : State} {k : Nat} (m : Mode) (hk : k ≤ 15) (geometry : s.rst.geometry.isSome = true)
    (kind : (s.pos k).kind = .process ∨ (s.pos k).kind = .check) (collecting : s.ixc.state = .collect) : s.modeRefusal k m = none := by
  obtain ⟨-, -, -, line⟩ := s.modeRefusal_cases k m
  obtain ⟨-, taken⟩ := line hk geometry (by rcases kind with e | e <;> rw [e] <;> decide)
  rw [taken (.inr (by rcases kind with e | e <;> rw [e] <;> decide)), if_neg (by rw [collecting]; decide)]

theorem setMode_completes {k : Nat} {m : Mode} (tag : Byte) {s : State} (hr : s.Ready .supl) (hk : k ≤ 15)
    (geometry : s.rst.geometry.isSome = true) (kind : (s.pos k).kind = .process ∨ (s.pos k).kind = .check) (other : (s.pos k).mode ≠ m)
    (shape : s.Shaped)
    (released : (s.onPos k fun p => { p with mode := m, phase := .idle, hold := if m = .bypass then false else p.hold }).Released) :
    ∃ t u, exec (.setMode .supl tag k (some m)) s = .next t ∧ s.Answered t .supl tag .ok [] ∧ u.Completes t .supervisor ∧
      s.Prepares u ∧ u.btk = s.btk ∧ u.ctm.gateSupervisor = s.ctm.gateSupervisor := by
  let g := s.granted (.setMode .supl tag k (some m)) .supl
  have orders := g.changeMode_orders k m
  have timers := g.changeMode_timersOnly k m
  have place : k < s.rst.positions.length := shape.position (by omega)
  have record : k < s.rst.details.length := by
    obtain ⟨-, details, -⟩ := shape
    omega
  have here : (g.changeMode k m).pos k = (s.pos k).withMode m := (g.changeMode_at m place record).1
  have elsewhere : ∀ j, j ≠ k → (g.changeMode k m).pos j = s.pos j := fun j e => (g.changeMode_elsewhere k m j e).1
  have occupants : ∀ j, ((g.changeMode k m).pos j).occupant = (s.pos j).occupant := fun j => by
    by_cases e : j = k
    · subst e; rw [here]; rfl
    · rw [elsewhere j e]
  have free : (g.changeMode k m).Released := by
    refine released.mono (orders.ixc.trans rfl) (orders.pins.trans rfl) (orders.geometry.trans rfl) fun j => ?_
    by_cases e : j = k
    · subst e
      rw [here, s.pos_onPos_self _ place]
      exact ⟨rfl, Position.withMode_released⟩
    · rw [elsewhere j e, s.pos_onPos_ne _ e]
      exact ⟨rfl, id⟩
  have taken : g.modeRefusal k m = none := State.modeRefusal_collecting (s := g) m hk geometry kind released.collecting
  obtain ⟨t, next, answered, done⟩ := State.grant_completes (tag := tag) (p := .supervisor)
    (cells := [fun _ => geometryCell ++ positionCells k, fun s => s.occupantCells k]) (op := fun s => s.setMode k (some m)) hr rfl
    (State.setMode_takes (s := g) taken other) orders.frames (orders.errors.trans hr.1.2) free (by rw [orders.btk]; exact shape.captured)
  obtain ⟨transfer, pallets, armed, clock⟩ := orders.prepares timers occupants
  obtain ⟨x, w, times⟩ := timers
  exact ⟨t, _, next, answered, done, ⟨transfer, pallets, armed, clock⟩, orders.btk, by rw [times]; rfl⟩

/-! ### The rising edge of HOME -/

/-- The state in which a rising edge of HOME has re-referenced the counter (R123). -/
def State.referenced (s : State) : State :=
  ((s.onPins fun p => { p with home := true }).onBtk Btk.reference).checkHomeDrift s.btk.counter

theorem State.referenced_eq (s : State) : ∃ a, s.referenced =
    { s with pins := { s.pins with home := true }, btk := s.btk.reference, liu := { s.liu with attentions := a } } := by
  unfold State.referenced State.checkHomeDrift
  split <;> exact ⟨_, rfl⟩

/-- Where no motion runs a change of the counter brings nothing about (R128, R129, R143). -/
theorem State.counterChanged_resting {s : State} (resting : s.ixc.state.moving = false) : s.counterChanged = s := by
  have tight : s.tightenReseat = s := by
    unfold State.tightenReseat
    cases s.ixc.motion with
    | none => rfl
    | some m => exact if_neg fun c => by cases e : s.ixc.state <;> simp [e, IxcState.moving] at resting c
  have sweep : s.ixc.state ≠ .sweep := fun e => by simp [e, IxcState.moving] at resting
  simp [State.counterChanged, tight, State.overtravels, resting, State.checkSweepEnd, sweep]

theorem homeRising_completes {s : State} (live : s.Live) (low : s.pins.home = false) (links : s.liu.links.length = 18) (shape : s.Shaped)
    (released : (s.onPins fun p => { p with home := true }).Released) :
    ∃ t, exec .homeRising s = .next t ∧ s.referenced.Completes t .home := by
  obtain ⟨a, same⟩ := s.referenced_eq
  have collecting : s.referenced.ixc.state = .collect := by rw [same]; exact released.collecting
  have rises : s.homeRises = s.referenced.testCollection .home :=
    congrArg (fun t => t.testCollection .home) (State.counterChanged_resting (s := s.referenced) (by rw [collecting]; rfl))
  have free : s.referenced.Released := released.mono (by rw [same]; rfl) (by rw [same]; rfl) (by rw [same]; rfl)
    fun j => by rw [same]; exact ⟨rfl, id⟩
  have event : exec .homeRising s = .next (State.closeEvent s (s.referenced.testCollection .home)) := by
    rw [exec, execHomeRising, s.event_live _ live, ← rises]; simp [low]
  refine ⟨_, event, (State.testCollection_completes .home free ?_ ?_ ?_).closes (State.closes_closeEvent s _)⟩
  · rw [same]; exact live
  · rw [same]; exact links
  · rw [same]; exact shape.captured

/-! ### The end of a BACK motion -/

theorem backEnd_completes {s : State} {m : Motion} (live : s.Live) (settling : s.ixc.state = .settle) (runs : s.ixc.settleTimer.isSome = true)
    (hm : s.ixc.motion = some m) (back : m.kind = .back) (stops : ((m.sample.getD 0).natAbs : Int) ≤ s.working.stopBand)
    (seated : ∀ k, k < 16 → k < s.count → (member m.origin k = true ↔ member s.pins.ip k = true)) (halt : s.ixc.haltRequested = false)
    (due : s.ixc.configDue = false) (links : s.liu.links.length = 18) (shape : s.Shaped)
    (released : (s.onIxc fun i => { i with state := .collect }).Released) :
    ∃ t, exec .settleEnd s = .next t ∧ s.backed.collecting.Completes t .drive := by
  have passes : s.stopPasses m = true := by
    simpa [State.stopPasses, State.stopTarget, back] using stops
  have expected : ∀ k, k < s.count → s.expected m k = member m.origin k := fun k line => by simp [State.expected, back, line]
  have sits : s.missingMask m = 0#16 ∧ s.unexpectedMask m = 0#16 :=
    (s.seated_iff m).mpr fun k hk line => by rw [expected k line]; exact seated k hk line
  have ends : s.endSettle (·.testCollection .drive) = s.backed.collecting.testCollection .drive := by
    rw [State.endSettle_succeeds _ hm passes sits, State.motionSucceeded_back _ back, State.endMotion_collects (s := s.backed) _ halt]
    exact if_neg (by simp [show s.backed.ixc.configDue = false from due])
  have free : s.backed.collecting.Released := { released with collecting := rfl }
  exact ⟨_, State.settleEnd_next live settling runs ends, (State.testCollection_completes .drive free live links (by
    rw [State.collecting_btk]; split <;> exact shape.captured)).closes (State.closes_closeEvent s _)⟩

end Sys2Proof.Machine
end

section
/-! SUPPORT. The CLEARs (O36): a report in WORKING is refused, or writes records and ends the order with the collection test. -/

namespace Sys2Proof.Machine

/-! ### What a CLEAR writes before the order ends -/

/-- At most pallet records, the completion log, the schedule and attentions differ, and sound cells stay sound. -/
structure State.Records (s t : State) : Prop where
  store : ∃ m lg sch n e, t.rst = { s.rst with slots := m, log := lg, schedule := sch, recordCounter := n, errors := e }
  sound : s.rst.errors = [] → t.rst.errors = []
  ixc : t.ixc = s.ixc
  btk : t.btk = s.btk
  ctm : t.ctm = s.ctm
  pins : t.pins = s.pins
  links : t.liu.links = s.liu.links

theorem State.Records.refl (s : State) : s.Records s := ⟨⟨_, _, _, _, _, rfl⟩, id, rfl, rfl, rfl, rfl, rfl⟩

theorem State.Records.trans {s t u : State} (a : s.Records t) (b : t.Records u) : s.Records u := by
  obtain ⟨m, lg, sch, n, e, ha⟩ := a.store
  obtain ⟨m', lg', sch', n', e', hb⟩ := b.store
  exact ⟨⟨m', lg', sch', n', e', by rw [hb, ha]⟩, fun h => b.sound (a.sound h), b.ixc.trans a.ixc, b.btk.trans a.btk, b.ctm.trans a.ctm,
    b.pins.trans a.pins, b.links.trans a.links⟩

theorem State.onPallet_records (s : State) (n : Nat) (f : Pallet → Pallet) : s.Records (s.onPallet n f) :=
  ⟨⟨_, _, _, _, _, rfl⟩, id, rfl, rfl, rfl, rfl, rfl⟩

theorem State.attend_records (s : State) (f : Attentions → Attentions) : s.Records (s.attend f) :=
  ⟨⟨_, _, _, _, _, rfl⟩, id, rfl, rfl, rfl, rfl, rfl⟩

theorem State.recordResult_records (s : State) (k g : Nat) (r : HistoryResult) (w : Option Nat) : s.Records (s.recordResult k g r w) := by
  unfold State.recordResult
  cases s.palletAt k with
  | none => exact .refl s
  | some n => exact s.onPallet_records n _

theorem State.createWorkpiece_records (s : State) (n v : Nat) (cs : List Byte) : s.Records (s.createWorkpiece n v cs) := by
  unfold State.createWorkpiece
  dsimp only
  split
  · exact ((s.onPallet_records n _).trans (State.onPallet_records _ n _)).trans (State.attend_records _ _)
  · exact s.onPallet_records n _

theorem State.decrementHead_records (s : State) (v : Nat) : s.Records (s.decrementHead v) := by
  unfold State.decrementHead State.noteSchedule
  split <;> exact ⟨⟨_, _, _, _, _, rfl⟩, id, rfl, rfl, rfl, rfl, rfl⟩

theorem State.completeWorkpiece_records (s : State) (n : Nat) (lane : LogLane) : s.Records (s.completeWorkpiece n lane) := by
  unfold State.completeWorkpiece
  cases s.workpiece n with
  | none => exact .refl s
  | some w => exact ⟨⟨_, _, _, _, _, rfl⟩, fun h => by simp [State.rewriteCells, State.onPallet, State.onRst, h], rfl, rfl, rfl, rfl, rfl⟩

/-! ### The end of an order -/

/-- The order of position `k` has ended with a taken result, before the collection test (R81, R169). -/
def State.ended (s : State) (k : Nat) (r : Result) : State :=
  (((s.onStats k fun x => x.take ((s.work k).running.getD 0)).stopTimers k).onPos k fun p => { p with phase := .done }).onDetail k
    fun d => { d with closing := .cleared, resultTaken := some r }

theorem State.finishOrder_eq (s : State) (k : Nat) (r : Result) : s.finishOrder k r = (s.ended k r).collect (.position k) := rfl

theorem State.ended_gating (s : State) (k : Nat) (r : Result) : ((s.ended k r).stats k).gating = (s.stats k).gating := by
  have same : (s.ended k r).stats k = (s.ctm.stats.modify k fun x => x.take ((s.work k).running.getD 0)).getD k WorkStats.reset := rfl
  by_cases h : k < s.ctm.stats.length
  · rw [same, getD_modify_self _ _ _ _ h]; rfl
  · rw [same, List.getD_eq_default _ _ (by simpa using h), State.stats, List.getD_eq_default _ _ (by simpa using h)]

/-- What a report in WORKING comes to: the store as it was, or records written and the order ended. -/
def State.Ends (s t : State) (k : Nat) : Prop := t.rst = s.rst ∨ ∃ w r, s.Records w ∧ t = w.finishOrder k r

theorem State.Records.ends {s w : State} (h : s.Records w) (k : Nat) (r : Result) : s.Ends (w.finishOrder k r) k := .inr ⟨w, r, h, rfl⟩

theorem State.Records.prepares {s w : State} (h : s.Records w) (k : Nat) (r : Result) : s.Prepares (w.ended k r) := by
  obtain ⟨m, lg, sch, n, e, store⟩ := h.store
  have pallets : w.palletMask = s.palletMask := State.palletMask_congr (fun j => by rw [State.pos, store]; rfl) (by rw [store])
  have transfer : w.rst.transfer = s.rst.transfer := by rw [store]
  have armed : w.ixc.learnArmed = s.ixc.learnArmed := by rw [h.ixc]
  have clock : w.ctm.clock = s.ctm.clock := by rw [h.ctm]
  exact ⟨transfer, (State.palletMask_onPos w k (fun p => { p with phase := .done }) fun _ => rfl).trans pallets, armed, clock⟩

theorem State.Records.released {s w : State} (h : s.Records w) {k : Nat} (r : Result)
    (released : (s.onPos k fun p => { p with phase := .done }).Released) : (w.ended k r).Released := by
  obtain ⟨m, lg, sch, n, e, store⟩ := h.store
  have geometry : w.rst.geometry = s.rst.geometry := by rw [store]
  have positions : w.rst.positions = s.rst.positions := by rw [store]
  refine released.mono h.ixc h.pins geometry fun j => ?_
  have same : (w.ended k r).pos j = (s.onPos k fun p => { p with phase := .done }).pos j :=
    congrArg (fun ps : List Position => (ps.modify k fun p => { p with phase := .done }).getD j Position.reset) positions
  rw [same]; exact ⟨rfl, id⟩

/-- A grant that ends an order in DONE, where that leaves every condition of R46 met, starts the motion. -/
theorem State.grant_ends {s t : State} {i : Instr} {p : Permit} {l : Link} {tag : Byte} {cells : List (State → List Cell)}
    {op : State → State × Reply} {k : Nat} (hr : s.Ready l) (hp : p.refusal l = none) (ends : (s.granted i l).Ends (op (s.granted i l)).1 k)
    (working : (s.pos k).phase = .working) (next : s.grant i p l tag cells op = .next t) (done : (t.pos k).phase = .done) (shape : s.Shaped)
    (hk : k < 16) (released : (s.onPos k fun p => { p with phase := .done }).Released) :
    s.Starts t (if s.ixc.learnArmed then .learn else .index) (.position k) s.btk.saturated s.btk.counter ∧
      (t.stats k).gating = countUp 65535 (s.stats k).gating := by
  let g := s.granted i l
  have closed : State.closeGrant s l tag (op g) = t := Host.Outcome.next.inj ((s.grant_ready i p l tag cells op hr hp).symm.trans next)
  have closes : (op g).1.Closes t := closed ▸ State.closes_closeGrant s (op g).1 l tag (op g).2
  obtain same | ⟨w, r, records, finished⟩ := ends
  · have still : t.pos k = s.pos k := by rw [State.pos, closes.rst, same]; rfl
    rw [still, working] at done
    cases done
  · have errors : (w.ended k r).rst.errors = [] := records.sound hr.1.2
    have links : (w.ended k r).liu.links.length = 18 := (congrArg List.length records.links).trans ((s.onLink_length l _).trans hr.2.1)
    have live : (w.ended k r).Live := (congrArg Pins.resetInput records.pins).trans hr.1.1
    have btk : (w.ended k r).btk = s.btk := records.btk
    have stats : (w.ended k r).ctm.stats.length = s.ctm.stats.length :=
      (List.length_modify (fun x => WorkStats.take x ((w.work k).running.getD 0)) w.ctm.stats k).trans (congrArg (fun c : Ctm => c.stats.length) records.ctm)
    have free : (g.onPos k fun p => { p with phase := .done }).Released := released.granted i l
    have tested := State.testCollection_completes (.position k) (records.released r free) live links (by rw [btk]; exact shape.captured)
    rw [← State.collect_sound _ _ errors, ← State.finishOrder_eq, ← finished] at tested
    have completes := tested.closes closes
    have prepares : s.Prepares (w.ended k r) := { records.prepares k r with }
    refine ⟨by rw [← btk]; exact completes.starts prepares, ?_⟩
    rw [completes.gating (by rw [stats]; exact shape.stat hk), w.ended_gating, State.stats, records.ctm]; rfl

/-! ### Reports in WORKING -/

theorem State.clearReport_working {s : State} {k o : Nat} (reports : s.Reports k o) (working : (s.pos k).phase = .working) (result : Result)
    (fits : Nat → State → Bool) (op : Nat → State → State × Reply) (body : State → List Byte) :
    s.clearReport o false result fits op body k = if fits k s then op k s else refuse s .range := by
  rw [State.clearReport, reports.passes]
  dsimp only
  rw [working]

theorem State.clearReport_ends {s : State} {k o : Nat} (reports : s.Reports k o) (working : (s.pos k).phase = .working) (result : Result)
    (fits : Nat → State → Bool) (op : Nat → State → State × Reply) (body : State → List Byte) (ends : s.Ends (op k s).1 k) :
    s.Ends (s.clearReport o false result fits op body k).1 k := by
  rw [State.clearReport_working reports working]
  split <;> [exact ends; exact .inl rfl]

theorem State.clearWork_ends (s : State) (r : PlainResult) (k : Nat) : s.Ends (State.clearWork r k s).1 k := by
  unfold State.clearWork
  cases plainHistory r with
  | none => exact (State.Records.refl s).ends k _
  | some x => exact (s.recordResult_records k _ x.2 _).ends k _

theorem State.loadedResult_ends (s : State) (cs : List Byte) (k : Nat) : s.Ends (State.loadedResult cs k s).1 k := by
  unfold State.loadedResult
  split
  · next v p _ _ =>
    split_ifs <;> [exact .inl rfl; exact .inl rfl; exact .inl rfl;
      exact ((s.createWorkpiece_records p.number v cs).trans (State.decrementHead_records _ v)).ends k _]
  · exact .inl rfl

theorem State.readyResult_ends (s : State) (k : Nat) : s.Ends (State.readyResult k s).1 k := by
  unfold State.readyResult
  cases s.palletAt k with
  | none => exact (State.Records.refl s).ends k _
  | some n => exact (s.onPallet_records n _).ends k _

theorem State.completeResult_ends (s : State) (lane : LogLane) (r : Result) (k : Nat) : s.Ends (State.completeResult lane r k s).1 k := by
  unfold State.completeResult
  split
  · exact .inl rfl
  · cases s.palletAt k with
    | none => exact (State.Records.refl s).ends k _
    | some n => exact (s.completeWorkpiece_records n lane).ends k _

theorem State.unloadedResult_ends (s : State) (k : Nat) : s.Ends (State.unloadedResult k s).1 k := by
  unfold State.unloadedResult
  cases (s.unloadLane k).bind Lane.logged with
  | none => exact .inl rfl
  | some lane => exact s.completeResult_ends lane _ k

theorem State.stuckResult_ends (s : State) (k : Nat) : s.Ends (State.stuckResult k s).1 k := by
  unfold State.stuckResult
  cases s.palletAt k with
  | none => exact (State.Records.refl s).ends k _
  | some n => exact ((s.onPallet_records n _).trans (State.onPallet_records _ n _)).ends k _

theorem State.startReport_ends {s : State} {k o : Nat} (reports : s.Reports k o) (working : (s.pos k).phase = .working) :
    s.Ends (s.startReport o k).1 k := by
  rw [State.startReport, reports.passes]
  exact .inl (congrArg (fun x : State × Reply => x.1.rst) (if_neg (by simp [working])))

theorem State.arriveNone_ends {s : State} {k o : Nat} (reports : s.Reports k o) (working : (s.pos k).phase = .working) :
    s.Ends (s.arriveNone o k).1 k := by
  rw [State.arriveNone_refuses reports (.inr (by simp [working]))]
  exact .inl rfl

theorem State.arrive_ends {s : State} {k o n : Nat} (reports : s.Reports k o) (range : n ≤ 255) (working : (s.pos k).phase = .working) :
    s.Ends (s.arrive o n k).1 k := by
  have refused : s.arrivalRefusal k o (decide (255 < n)) = some .wrongState := by
    rw [decide_eq_false (Nat.not_lt.mpr range), reports.arrives]
    exact if_neg (by simp [working])
  rw [State.arrive, refused]
  exact .inl rfl

/-- A CLEAR in WORKING whose operation is refused, or ends the order. -/
theorem clear_grants {s : State} {c : Instr} {k : Fin 16} {tag : Byte} {o : Nat} {cells : List (State → List Cell)} {result : Result}
    {fits : Nat → State → Bool} {op : Nat → State → State × Reply} {body : State → List Byte} (reports : s.Reports k.val o)
    (working : (s.pos k.val).phase = .working)
    (arm : exec c s = s.grant c .station (.sl k) tag cells
      fun s => s.atStation (.sl k) fun k s => s.clearReport o false result fits op body k)
    (ends : ∀ g : State, g.Ends (op k.val g).1 k.val) :
    ∃ cells op, exec c s = s.grant c .station (.sl k) tag cells op ∧ (s.granted c (.sl k)).Ends (op (s.granted c (.sl k))).1 k.val :=
  ⟨_, _, arm, State.clearReport_ends (s := s.granted c (.sl k)) reports working result fits op body (ends _)⟩

/-- A report that names an order in WORKING, by its command. -/
theorem report_grants {c : Instr} {k : Fin 16} {tag : Byte} {o : Nat} {s : State} (hc : c.report = some (k, tag, o)) (reports : s.Reports k.val o)
    (working : (s.pos k.val).phase = .working) :
    ∃ cells op, exec c s = s.grant c .station (.sl k) tag cells op ∧ (s.granted c (.sl k)).Ends (op (s.granted c (.sl k))).1 k.val := by
  unfold Instr.report at hc
  split at hc
  case h_1 => cases hc; exact ⟨_, _, rfl, State.startReport_ends (s := s.granted _ _) reports working⟩
  case h_2 r => cases hc; exact clear_grants reports working rfl fun g => g.clearWork_ends r _
  case h_3 cs => cases hc; exact clear_grants reports working rfl fun g => g.loadedResult_ends cs _
  case h_4 => cases hc; exact clear_grants reports working rfl fun g => g.readyResult_ends _
  case h_5 => cases hc; exact clear_grants reports working rfl fun g => (State.Records.refl g).ends _ .empty
  case h_6 => cases hc; exact clear_grants reports working rfl fun g => g.completeResult_ends .removedAtLoad .removed _
  case h_7 => cases hc; exact clear_grants reports working rfl fun g => g.unloadedResult_ends _
  case h_8 => cases hc; exact clear_grants reports working rfl fun g => (State.Records.refl g).ends _ .kept
  case h_9 => cases hc; exact clear_grants reports working rfl fun g => g.stuckResult_ends _
  case h_10 => cases hc; exact ⟨_, _, rfl, State.arriveNone_ends (s := s.granted _ _) reports working⟩
  case h_11 n =>
    split at hc
    · next range =>
      cases hc
      let g := s.granted (.arrived (.sl k) tag o n) (.sl k)
      have ends : g.Ends (if n = 0 then g.arriveNone o k.val else g.arrive o n k.val).1 k.val := by
        split
        · exact State.arriveNone_ends (s := g) reports working
        · exact State.arrive_ends (s := g) reports range working
      exact ⟨_, _, rfl, ends⟩
    · cases hc
  case h_12 => cases hc

end Sys2Proof.Machine
end

section
/-! SUPPORT. JOIN of a station (O34, O36): what a taken JOIN writes before the collection test. -/

namespace Sys2Proof.Machine

/-! ### A cancelled order -/

theorem State.cancelOutstanding_afterCancel (s : State) {k : Nat} (hd : k < s.rst.details.length) :
    (s.cancelOutstanding k).detail k = (s.detail k).afterCancel (s.pos k).phase := by
  unfold State.cancelOutstanding
  cases (s.pos k).phase with
  | ordered | working => exact s.cancelOrder_detail _ hd
  | idle | done | fault => rfl

theorem State.cancelOutstanding_timers (s : State) {k : Nat} (h : k < s.ctm.startTimers.length) (hw : k < s.ctm.work.length)
    (outstanding : (s.pos k).phase = .ordered ∨ (s.pos k).phase = .working) :
    (s.cancelOutstanding k).startTimer k = none ∧ ((s.cancelOutstanding k).work k).running = none := by
  unfold State.cancelOutstanding
  rcases outstanding with e | e <;> rw [e] <;> exact s.cancelOrder_timers _ h hw

/-- What a cancelled order leaves of the pallets is read from the position without its joined field. -/
theorem State.afterCancel_joined (s : State) (k : Nat) (j : Option Joined) (n : Nat) :
    (s.onPos k fun p => { p with joined := j }).afterCancel k n = s.afterCancel k n := by
  by_cases h : k < s.rst.positions.length
  · unfold State.afterCancel State.palletAt
    rw [s.pos_onPos_self _ h]; rfl
  · rw [s.onPos_outside _ (Nat.not_lt.mp h)]

/-! ### The entry of a joined position (R89) -/

/-- A position after the self test of a taken JOIN. -/
def Position.tested (x : SelfTest) (p : Position) : Position :=
  match x with
  | .pass => { p with
      faultCode := none
      phase := match p.phase with
        | .idle => .idle
        | .ordered | .working | .done => .done
        | .fault => if p.orderKind == .noOrder then .idle else .done }
  | .fail => { p with phase := .fault, faultCode := some .selfTest }

/-- The state in which a JOIN has been entered, before a failed self test aborts the motion. -/
def State.enrolled (s : State) (k : Nat) (programs : Mask) (x : SelfTest) : State :=
  let u := s.onPos k fun p => { p with joined := some { programs := programs, selfTest := x } }
  if u.active k then (u.cancelOutstanding k).onPos k (Position.tested x) else u

/-- A failed self test of an ACTIVE position has aborted the motion (R83, R89). -/
def State.selfTested (s : State) (k : Nat) (x : SelfTest) : State :=
  match x with
  | .pass => s
  | .fail => if s.active k then s.positionFaulted k else s

theorem State.active_joined (s : State) (k : Nat) (j : Option Joined) :
    (s.onPos k fun p => { p with joined := j }).active k = s.active k := by
  by_cases h : k < s.rst.positions.length
  · rw [State.active, s.pos_onPos_self _ h]; rfl
  · rw [s.onPos_outside _ (Nat.not_lt.mp h)]

section entry
variable (s : State) (k : Nat) (programs : Mask) (x : SelfTest)

theorem State.enrolled_active (active : (s.pos k).mode = .active) : s.enrolled k programs x =
    ((s.onPos k fun p => { p with joined := some { programs := programs, selfTest := x } }).cancelOutstanding k).onPos k (Position.tested x) :=
  if_pos ((s.active_joined k _).trans (by simp [State.active, active]))

theorem State.enrolled_bypass (bypass : (s.pos k).mode = .bypass) :
    s.enrolled k programs x = s.onPos k fun p => { p with joined := some { programs := programs, selfTest := x } } :=
  if_neg (by rw [s.active_joined]; simp [State.active, bypass])

theorem State.enrolled_orders : s.OrdersOnly (s.enrolled k programs x) := by
  cases mode : (s.pos k).mode with
  | active =>
    rw [s.enrolled_active k programs x mode]
    exact ((s.onPos_orders k _).trans (State.cancelOutstanding_orders _ k)).trans (State.onPos_orders _ k _)
  | bypass =>
    rw [s.enrolled_bypass k programs x mode]
    exact s.onPos_orders k _

theorem State.enrolled_elsewhere : s.SameElsewhere (s.enrolled k programs x) k := by
  cases mode : (s.pos k).mode with
  | active =>
    rw [s.enrolled_active k programs x mode]
    exact ((s.onPos_elsewhere k _).trans (State.cancelOutstanding_elsewhere _ k)).trans (State.onPos_elsewhere _ k _)
  | bypass =>
    rw [s.enrolled_bypass k programs x mode]
    exact s.onPos_elsewhere k _

theorem State.enrolled_timersOnly : s.TimersOnly (s.enrolled k programs x) := by
  cases mode : (s.pos k).mode with
  | active =>
    rw [s.enrolled_active k programs x mode]
    exact State.cancelOutstanding_timersOnly (s.onPos k fun p => { p with joined := some { programs := programs, selfTest := x } }) k
  | bypass =>
    rw [s.enrolled_bypass k programs x mode]
    exact .refl s

/-- The joined field is written, and at an ACTIVE position the phase and the fault code by the self test. -/
theorem State.enrolled_pos (h : k < s.rst.positions.length) : (s.enrolled k programs x).pos k =
    if (s.pos k).mode = .active then Position.tested x { s.pos k with joined := some { programs := programs, selfTest := x } }
    else { s.pos k with joined := some { programs := programs, selfTest := x } } := by
  let u := s.onPos k fun p => { p with joined := some { programs := programs, selfTest := x } }
  have joined : u.pos k = { s.pos k with joined := some { programs := programs, selfTest := x } } := s.pos_onPos_self _ h
  have place : k < (u.cancelOutstanding k).rst.positions.length := by
    rw [(u.cancelOutstanding_orders k).positions, (s.onPos_orders k _).positions]; exact h
  cases mode : (s.pos k).mode with
  | active => rw [s.enrolled_active k programs x mode, if_pos rfl, State.pos_onPos_self _ _ place, u.cancelOutstanding_pos, joined]
  | bypass => rw [s.enrolled_bypass k programs x mode, if_neg nofun]; exact joined

theorem State.enrolled_detail (h : k < s.rst.positions.length) (hd : k < s.rst.details.length) : (s.enrolled k programs x).detail k =
    if (s.pos k).mode = .active then (s.detail k).afterCancel (s.pos k).phase else s.detail k := by
  let u := s.onPos k fun p => { p with joined := some { programs := programs, selfTest := x } }
  have phase : (u.pos k).phase = (s.pos k).phase := by rw [s.pos_onPos_self _ h]
  cases mode : (s.pos k).mode with
  | active =>
    rw [s.enrolled_active k programs x mode, if_pos rfl, ← phase]
    exact u.cancelOutstanding_afterCancel hd
  | bypass => rw [s.enrolled_bypass k programs x mode, if_neg nofun]; rfl

theorem State.enrolled_pallet (n : Nat) : (s.enrolled k programs x).pallet n =
    if (s.pos k).mode = .active then s.afterCancel k n else s.pallet n := by
  let u := s.onPos k fun p => { p with joined := some { programs := programs, selfTest := x } }
  cases mode : (s.pos k).mode with
  | active =>
    rw [s.enrolled_active k programs x mode, if_pos rfl]
    exact (u.pallet_cancelOutstanding k n).trans (s.afterCancel_joined k _ n)
  | bypass => rw [s.enrolled_bypass k programs x mode, if_neg nofun]; rfl

theorem State.enrolled_timers (h : k < s.rst.positions.length) (ht : k < s.ctm.startTimers.length) (hw : k < s.ctm.work.length)
    (active : (s.pos k).mode = .active) (outstanding : (s.pos k).phase = .ordered ∨ (s.pos k).phase = .working) :
    (s.enrolled k programs x).startTimer k = none ∧ ((s.enrolled k programs x).work k).running = none := by
  let u := s.onPos k fun p => { p with joined := some { programs := programs, selfTest := x } }
  have phase : (u.pos k).phase = (s.pos k).phase := by rw [s.pos_onPos_self _ h]
  rw [s.enrolled_active k programs x active]
  exact u.cancelOutstanding_timers ht hw (by rwa [phase])

/-! ### The operation -/

theorem State.enrolled_mode : ((s.enrolled k programs x).pos k).mode = (s.pos k).mode := by
  let u := s.onPos k fun p => { p with joined := some { programs := programs, selfTest := x } }
  by_cases h : k < s.rst.positions.length
  · rw [s.enrolled_pos k programs x h]
    cases x <;> split <;> rfl
  · have outside : ∀ t : State, s.OrdersOnly t → ∀ f, t.onPos k f = t := fun t o f =>
      t.onPos_outside f (by rw [o.positions]; exact Nat.not_lt.mp h)
    have same : u = s := s.onPos_outside _ (Nat.not_lt.mp h)
    cases mode : (s.pos k).mode with
    | active =>
      rw [s.enrolled_active k programs x mode, outside _ ((s.onPos_orders k _).trans (State.cancelOutstanding_orders _ k)),
        State.cancelOutstanding_pos, ← mode]
      exact congrArg (fun t : State => (t.pos k).mode) same
    | bypass =>
      rw [s.enrolled_bypass k programs x mode, ← mode]
      exact congrArg (fun t : State => (t.pos k).mode) same

theorem State.joinOrder_eq (u : State) (active : u.active k = true) (mode : (((u.cancelOutstanding k).onPos k (Position.tested x)).active k) = true) :
    (if u.active k then u.joinOrder k x else u) = (((u.cancelOutstanding k).onPos k (Position.tested x))).selfTested k x := by
  rw [if_pos active]
  cases x with
  | pass => rfl
  | fail => exact (if_pos mode).symm

/-- A JOIN that no check of R194 refuses. -/
theorem State.joinStation_takes (geometry : s.rst.geometry.isSome = true) (used : s.unused k = false) (own : member programs 0 = false) :
    ∃ d, s.joinStation programs (some x) k =
      ok (((((s.enrolled k programs x).selfTested k x).postOrder k).collect (.position k))) d := by
  let u := s.onPos k fun p => { p with joined := some { programs := programs, selfTest := x } }
  have enters : (if u.active k then u.joinOrder k x else u) = (s.enrolled k programs x).selfTested k x := by
    have kept := s.enrolled_mode k programs x
    cases mode : (s.pos k).mode with
    | active =>
      rw [mode, s.enrolled_active k programs x mode] at kept
      rw [s.enrolled_active k programs x mode]
      exact State.joinOrder_eq k x u ((s.active_joined k _).trans (by simp [State.active, mode])) (by rw [State.active, kept]; rfl)
    | bypass =>
      rw [mode, s.enrolled_bypass k programs x mode] at kept
      have out : ¬u.active k = true := by rw [State.active, kept]; decide
      rw [s.enrolled_bypass k programs x mode, if_neg out]
      cases x with
      | pass => rfl
      | fail => exact (if_neg out).symm
  rw [State.joinStation, if_neg (by simp [Option.isSome_iff_ne_none.mp geometry]), if_neg (by simp [used])]
  dsimp only
  rw [if_neg (by simp [own]), enters]
  exact ⟨_, rfl⟩
end entry

end Sys2Proof.Machine
end

section
/-! SUPPORT. The JOIN that completes a collection, and the eleven commands together (O36). -/

namespace Sys2Proof.Machine

theorem State.postOrder_frames (s : State) (k : Nat) : s.Frames (s.postOrder k) := ⟨rfl, rfl, rfl, .post s _ _⟩

theorem State.enrolled_occupant (s : State) (k : Nat) (programs : Mask) (x : SelfTest) (place : k < s.rst.positions.length) (j : Nat) :
    ((s.enrolled k programs x).pos j).occupant = (s.pos j).occupant := by
  by_cases e : j = k
  · subst e
    rw [s.enrolled_pos j programs x place]
    cases x <;> split <;> rfl
  · rw [(s.enrolled_elsewhere k programs x j e).1]

/-- A position that is free in DONE once it has joined is free after a passed self test. -/
theorem Position.tested_released {p : Position} {j : Option Joined} (h : ({ p with joined := j, phase := .done } : Position).released = true)
    (settled : (Position.tested .pass { p with joined := j }).phase = .idle ∨ (Position.tested .pass { p with joined := j }).phase = .done) :
    (Position.tested .pass { p with joined := j }).released = true := by
  rw [Position.released_iff] at h ⊢
  intro active
  obtain ⟨joined, -, free⟩ := h active
  exact ⟨joined, settled, free⟩

theorem Position.tested_settled (p : Position) : (Position.tested .pass p).phase = .idle ∨ (Position.tested .pass p).phase = .done := by
  cases e : p.phase with
  | idle => exact .inl (by simp [Position.tested, e])
  | ordered | working | done => exact .inr (by simp [Position.tested, e])
  | fault => by_cases none : p.orderKind = .noOrder <;> simp [Position.tested, e, none]

theorem join_completes {k : Fin 16} (tag : Byte) {programs : Mask} {s : State} (hr : s.Ready (.sl k)) (geometry : s.rst.geometry.isSome = true)
    (used : s.unused k.val = false) (own : member programs 0 = false) (active : (s.pos k.val).mode = .active) (shape : s.Shaped)
    (released : (s.onPos k.val fun p => { p with joined := some { programs := programs, selfTest := .pass }, phase := .done }).Released) :
    ∃ t u data, exec (.join (.sl k) tag programs (some .pass)) s = .next t ∧ s.Answered t (.sl k) tag .ok data ∧
      u.Completes t (.position k.val) ∧ s.Prepares u ∧ u.btk = s.btk ∧ u.ctm.stats = s.ctm.stats := by
  let g := s.granted (.join (.sl k) tag programs (some .pass)) (.sl k)
  have place : k.val < g.rst.positions.length := shape.position k.isLt
  let u := g.enrolled k.val programs .pass
  have orders : g.OrdersOnly u := g.enrolled_orders k.val programs .pass
  have timers : g.TimersOnly u := g.enrolled_timersOnly k.val programs .pass
  have prepares : g.Prepares u := orders.prepares timers (g.enrolled_occupant k.val programs .pass place)
  obtain ⟨d, taken⟩ := g.joinStation_takes k.val programs .pass geometry used own
  have free : u.Released := by
    refine released.mono (orders.ixc.trans rfl) (orders.pins.trans rfl) (orders.geometry.trans rfl) fun j => ?_
    by_cases e : j = k.val
    · subst e
      rw [s.pos_onPos_self _ place]
      refine ⟨(g.enrolled_occupant k.val programs .pass place k.val).trans rfl, fun done => ?_⟩
      rw [g.enrolled_pos k.val programs .pass place, if_pos (show (g.pos k.val).mode = .active from active)]
      exact Position.tested_released done (Position.tested_settled _)
    · rw [s.pos_onPos_ne _ e, (g.enrolled_elsewhere k.val programs .pass j e).1]
      exact ⟨rfl, id⟩
  have posted : (u.postOrder k.val).Released := { free with }
  have captures : (u.postOrder k.val).btk.captures.length = 15 := by
    rw [show (u.postOrder k.val).btk = s.btk from orders.btk]; exact shape.captured
  obtain ⟨t, next, answered, done⟩ := State.grant_completes (tag := tag) (p := .stationJoin)
    (cells := (fun _ => geometryCell) :: occupantReads (.sl k))
    (op := fun s => s.atStation (.sl k) fun k s => s.joinStation programs (some .pass) k) (u := u.postOrder k.val) hr rfl taken
    (orders.frames.trans (u.postOrder_frames k.val)) (orders.errors.trans hr.1.2) posted captures
  obtain ⟨x, w, times⟩ := timers
  have stats : u.ctm.stats = s.ctm.stats := by rw [times]; rfl
  exact ⟨t, _, d, next, answered, done, { prepares with }, orders.btk, stats⟩

/-- A completed collection that is counted for a position (R175). -/
theorem State.Completes.counted {s u t : State} {k : Nat} (h : u.Completes t (.position k)) (prepares : s.Prepares u) (btk : u.btk = s.btk)
    (stats : u.ctm.stats = s.ctm.stats) (shape : s.Shaped) (hk : k < 16) :
    s.Starts t (if s.ixc.learnArmed then .learn else .index) (.position k) s.btk.saturated s.btk.counter ∧
      (t.stats k).gating = countUp 65535 (s.stats k).gating := by
  refine ⟨by rw [← btk]; exact h.starts prepares, ?_⟩
  rw [h.gating (by rw [stats]; exact shape.stat hk), State.stats, stats]; rfl

/-- Settles O36: each of eleven commands that completes the collection enters PERMIT, or FAULT by the tests on entry. -/
theorem collectionEntersPermit : Obligations.CollectionEntersPermit := by
  intro s shape links kind begins starts started counted
  refine ⟨fun k tag hr member released => ?_, fun tag hr released => ?_, fun tag hr step released => ?_, fun live stopped released => ?_,
    fun k c tag o t hr report reports working next done released => ?_, fun k tag hr member fault other released => ?_,
    fun k tag o hr reports feed ordered released => ?_, fun k tag programs hr geometry used own active released => ?_,
    fun k m tag hr hk geometry process other released => ?_, fun live low released => ?_,
    fun m live settling runs hm back stops seated halt due released => ?_⟩
  · obtain ⟨t, next, answered, completes⟩ := unhold_completes tag hr member shape released
    exact ⟨t, next, answered, completes.begun (s.prepares_onPos _ _ _ _ fun _ => rfl) ⟨rfl, rfl, rfl⟩ rfl ⟨rfl, rfl, rfl, rfl⟩,
      completes.gating (shape.stat k.isLt)⟩
  · obtain ⟨t, next, answered, completes⟩ := releaseLine_completes tag hr shape released
    exact ⟨t, next, answered, completes.begun ⟨rfl, rfl, rfl, rfl⟩ ⟨rfl, rfl, rfl⟩ rfl ⟨rfl, rfl, rfl, rfl⟩, completes.line,
      by rw [completes.times]; rfl⟩
  · obtain ⟨t, next, answered, completes⟩ := index_completes tag hr step shape released
    exact ⟨t, _, next, answered, completes.begun ⟨rfl, rfl, rfl, rfl⟩ ⟨rfl, rfl, rfl⟩ rfl ⟨rfl, rfl, rfl, rfl⟩, by rw [completes.times]; rfl⟩
  · obtain ⟨t, next, kept, completes⟩ := lineStopInactive_completes live stopped links shape released
    exact ⟨t, next, kept, completes.begun ⟨rfl, rfl, rfl, rfl⟩ ⟨rfl, rfl, rfl⟩ rfl ⟨rfl, rfl, rfl, rfl⟩, by rw [completes.times]; rfl⟩
  · obtain ⟨cells, op, arm, ends⟩ := report_grants report reports working
    exact State.grant_ends hr rfl ends working (arm.symm.trans next) done shape k.isLt released
  · obtain ⟨t, next, answered, completes⟩ := recovered_completes tag hr member fault other shape released
    exact ⟨t, next, answered, completes.counted (s.prepares_onPos _ _ _ _ fun _ => rfl) rfl rfl shape k.isLt⟩
  · obtain ⟨t, next, answered, completes⟩ := arrivedNoPallet_completes tag hr reports feed ordered shape released
    exact ⟨t, next, answered, completes.counted
      { s.prepares_onPos (.arrivedNoPallet (.sl k) tag o) (.sl k) k.val (fun p => { p with phase := .done }) fun _ => rfl with } rfl rfl shape k.isLt⟩
  · obtain ⟨t, u, data, next, answered, completes, prepares, btk, stats⟩ := join_completes tag hr geometry used own active shape released
    exact ⟨t, data, next, answered, completes.counted prepares btk stats shape k.isLt⟩
  · obtain ⟨t, u, next, answered, completes, prepares, btk, gates⟩ := setMode_completes tag hr hk geometry process other shape released
    have begun := completes.starts prepares
    rw [btk] at begun
    refine ⟨t, next, answered, begun, ?_⟩
    rw [completes.times, ← gates]; rfl
  · obtain ⟨t, next, completes⟩ := homeRising_completes live low links shape released
    obtain ⟨a, same⟩ := s.referenced_eq
    have prepares : s.Prepares s.referenced := by rw [same]; exact ⟨rfl, rfl, rfl, rfl⟩
    have begun := completes.starts prepares
    have counter : s.referenced.btk = s.btk.reference := by rw [same]
    have times : s.referenced.ctm = s.ctm := by rw [same]
    rw [counter] at begun
    refine ⟨t, next, begun, ?_, ?_⟩
    · rw [completes.begins.2.2.1, counter]; rfl
    · rw [completes.times, ← times]; rfl
  · obtain ⟨t, next, completes⟩ := backEnd_completes live settling runs hm back stops seated halt due links shape released
    have counter : s.backed.collecting.btk.saturated = s.btk.saturated ∧ s.backed.collecting.btk.counter = s.btk.counter := ⟨rfl, rfl⟩
    have begun := completes.starts (s := s) ⟨rfl, rfl, rfl, rfl⟩
    rw [counter.1, counter.2] at begun
    exact ⟨t, next, begun, by rw [completes.times]; rfl⟩

end Sys2Proof.Machine
end

section
/-! SUPPORT. JOIN takes the station (O34): its refusals, the ORDER frame it leaves, and the abort of a failed self test. -/

namespace Sys2Proof.Machine

/-! ### The frames of the station links -/

theorem State.link_of_links {s t : State} (h : t.liu.links = s.liu.links) (l : Link) : t.link l = s.link l := by
  rw [State.link, h]; rfl

@[simp] theorem State.enterFault_links (s : State) (c : Cause) (x : Option SeatCheck) : (s.enterFault c x).liu.links = s.liu.links := by
  unfold State.enterFault; dsimp only; split_ifs <;> rfl

theorem State.checkEntry_links (s : State) : s.checkEntry.liu.links = s.liu.links := by
  unfold State.checkEntry; split_ifs <;> simp

theorem State.beginMotion_link (s : State) (kind : MotionKind) (origin : Mask) {l : Link} (h : l ≠ .drvl) :
    (s.beginMotion kind origin).link l = s.link l := by
  have lifted : (s.lifting kind origin).liu.links = s.liu.links := by cases kind <;> rfl
  rw [s.beginMotion_eq, s.lifting_posts, State.post, State.link_onLink_ne _ _ h, State.link_of_links lifted]

/-- The collection test posts to DRVL only. -/
theorem State.testCollection_link (s : State) (g : Gate) {l : Link} (h : l ≠ .drvl) : (s.testCollection g).link l = s.link l := by
  by_cases released : s.Released
  · let kind : MotionKind := if s.ixc.learnArmed then .learn else .index
    let t := s.onIxc fun i => { i with indexPending := false, learnArmed := false }
    have taken : s.testCollection g = (((t.beginMotion kind s.palletMask).recordGate g).startIndexTimer).checkEntry :=
      if_pos (s.released_iff.mp released)
    have gated : ((t.beginMotion kind s.palletMask).recordGate g).startIndexTimer.liu.links = (t.beginMotion kind s.palletMask).liu.links := by
      rw [State.gate_eq]; rfl
    rw [taken, State.link_of_links (State.checkEntry_links _), State.link_of_links gated, t.beginMotion_link kind s.palletMask h]
    rfl
  · rw [s.testCollection_waits g released]

theorem State.postOrder_posts (s : State) (k : Fin 16) (links : s.liu.links.length = 18) :
    ((s.postOrder k.val).link (.sl k)).unsolicited = some (.order ((s.postOrder k.val).orderFrame k.val)) := by
  have here : Link.at k.val = .sl k := link_at_place (.sl k)
  rw [State.postOrder, here, State.post, State.link_onLink_self _ _ _ links]
  rfl

theorem State.Keeps.orderFrame {u t : State} (h : u.Keeps t) (k : Nat) : t.orderFrame k = u.orderFrame k := by
  have pallets : t.pallet = u.pallet := funext h.pallet
  have occupant : t.palletAt k = u.palletAt k := by rw [State.palletAt, (h.positions k).1]; rfl
  have workpieces : t.workpiece = u.workpiece := funext fun n => by rw [State.workpiece, pallets]; rfl
  rw [State.orderFrame, State.orderFrame, occupant, workpieces, (h.positions k).1]

/-! ### The abort of a failed self test -/

theorem State.selfTested_collects (s : State) (k : Nat) (x : SelfTest) : s.Collects (s.selfTested k x) := by
  unfold State.selfTested State.positionFaulted State.abortMotion
  cases x with
  | pass => exact .refl s
  | fail => dsimp only; split_ifs <;> [exact s.enterFault_collects _ _; exact .refl s; exact .refl s]

theorem State.selfTested_rst (s : State) (k : Nat) (x : SelfTest) : (s.selfTested k x).rst = s.rst := by
  unfold State.selfTested
  cases x with
  | pass => rfl
  | fail => dsimp only; split <;> simp

theorem State.selfTested_aborts {s : State} {k : Nat} (active : (s.pos k).mode = .active) (abortable : s.ixc.state.abortable = true) :
    s.selfTested k .fail = s.enterFault (.stationFault k) :=
  (if_pos (by simp [State.active, active])).trans (if_pos abortable)

theorem State.selfTested_rests {s : State} {k : Nat} {x : SelfTest}
    (rests : (s.pos k).mode = .active → x = .fail → s.ixc.state.abortable = false) : s.selfTested k x = s := by
  cases x with
  | pass => rfl
  | fail =>
    by_cases active : (s.pos k).mode = .active
    · exact (if_pos (by simp [State.active, active])).trans (s.abortMotion_rests _ (rests active rfl))
    · exact if_neg (by simpa [State.active] using active)

/-- The entry to FAULT is read from the Index Controller, the Bar Tracker, the learn and the clock, not from the store. -/
theorem State.EntersFault.of_orders {s u t : State} {c : Cause} {x : Option SeatCheck} (h : u.EntersFault t c x) (orders : s.OrdersOnly u)
    (timers : s.TimersOnly u) : s.EntersFault t c x := by
  obtain ⟨a, b, times⟩ := timers
  have same : u.Alike { s with rst := u.rst, ctm := { s.ctm with startTimers := a, work := b } } :=
    ⟨rfl, orders.ixc.symm, orders.btk.symm, orders.wlu.symm, times.symm, by rw [orders.aar], by rw [orders.liu]⟩
  exact { h.alike same (.refl t) with }

/-! ### The operation -/

theorem State.joinStation_absent {s : State} (programs : Mask) (x : Option SelfTest) (k : Nat) (absent : s.rst.geometry = none) :
    s.joinStation programs x k = refuse s .geometryAbsent := if_pos (by simp [absent])

theorem State.joinStation_unused {s : State} (programs : Mask) (x : Option SelfTest) {k : Nat} (geometry : s.rst.geometry.isSome = true)
    (unused : s.unused k = true) : s.joinStation programs x k = refuse s .notInLine := by
  unfold State.joinStation
  rw [if_neg (by simp [Option.isSome_iff_ne_none.mp geometry]), if_pos unused]

theorem State.joinStation_range {s : State} {programs : Mask} {x : Option SelfTest} {k : Nat} (geometry : s.rst.geometry.isSome = true)
    (used : s.unused k = false) (bad : member programs 0 = true ∨ x = none) : s.joinStation programs x k = refuse s .range := by
  unfold State.joinStation
  rw [if_neg (by simp [Option.isSome_iff_ne_none.mp geometry]), if_neg (by simp [used])]
  cases x with
  | none => rfl
  | some x => exact if_pos (bad.resolve_right nofun)

/-- The entry of a position by the self test and the mode (R89). -/
theorem Position.tested_eq (p : Position) (programs : Mask) (x : SelfTest) :
    (if p.mode = .active then Position.tested x { p with joined := some { programs := programs, selfTest := x } }
      else { p with joined := some { programs := programs, selfTest := x } }) =
    { p with
      joined := some { programs := programs, selfTest := x }
      phase := (match p.mode, x with
        | .bypass, _ => p.phase
        | .active, .fail => .fault
        | .active, .pass => match p.phase with
          | .idle => .idle
          | .ordered | .working | .done => .done
          | .fault => if p.orderKind = .noOrder then .idle else .done)
      faultCode := (match p.mode, x with
        | .bypass, _ => p.faultCode
        | .active, .fail => some .selfTest
        | .active, .pass => none) } := by
  obtain ⟨_, mode, _, _, phase, _, _, kind, _, _, _⟩ := p
  cases mode with
  | bypass => rfl
  | active =>
    cases x with
    | fail => rfl
    | pass =>
      cases phase with
      | idle | ordered | working | done => rfl
      | fault => by_cases none : kind = .noOrder <;> simp [Position.tested, none]

/-- The state in which the collection test of a taken JOIN is made. -/
def State.joining (s : State) (k : Nat) (programs : Mask) (x : SelfTest) : State :=
  ((s.enrolled k programs x).selfTested k x).postOrder k

theorem State.joining_rst (s : State) (k : Nat) (programs : Mask) (x : SelfTest) :
    (s.joining k programs x).rst = (s.enrolled k programs x).rst := (s.enrolled k programs x).selfTested_rst k x

theorem State.joining_frames (s : State) (k : Nat) (programs : Mask) (x : SelfTest) : s.Frames (s.joining k programs x) :=
  ((s.enrolled_orders k programs x).frames.trans (State.selfTested_collects _ k x).frames).trans (State.postOrder_frames _ k)

theorem State.joining_entry (s : State) (k : Nat) (programs : Mask) (x : SelfTest) (j : Nat) :
    (s.joining k programs x).pos j = (s.enrolled k programs x).pos j ∧ (s.joining k programs x).detail j = (s.enrolled k programs x).detail j ∧
      (s.joining k programs x).work j = (s.enrolled k programs x).work j ∧
      (s.joining k programs x).startTimer j = (s.enrolled k programs x).startTimer j := by
  have store := s.joining_rst k programs x
  have tests := (s.enrolled k programs x).selfTested_collects k x
  have work : (s.joining k programs x).ctm.work = (s.enrolled k programs x).ctm.work := tests.work
  have waiting : (s.joining k programs x).ctm.startTimers = (s.enrolled k programs x).ctm.startTimers := tests.startTimers
  simp only [State.pos, State.detail, State.work, State.startTimer, store, work, waiting, and_self]

theorem State.joining_rests {s : State} {k : Nat} (programs : Mask) {x : SelfTest}
    (rests : (s.pos k).mode = .active → x = .fail → s.ixc.state.abortable = false) :
    s.joining k programs x = (s.enrolled k programs x).postOrder k := by
  have orders := s.enrolled_orders k programs x
  rw [State.joining, State.selfTested_rests fun active failed => ?_]
  rw [s.enrolled_mode] at active
  rw [orders.ixc]; exact rests active failed

theorem State.joining_aborts {s : State} {k : Nat} (programs : Mask) (active : (s.pos k).mode = .active) (abortable : s.ixc.state.abortable = true) :
    s.joining k programs .fail = ((s.enrolled k programs .fail).enterFault (.stationFault k)).postOrder k := by
  have orders := s.enrolled_orders k programs .fail
  rw [State.joining, State.selfTested_aborts ((s.enrolled_mode k programs .fail).trans active) (by rw [orders.ixc]; exact abortable)]

theorem State.Shaped.tables {s : State} (shape : s.Shaped) {k : Nat} (hk : k < 16) :
    k < s.rst.details.length ∧ k < s.ctm.startTimers.length ∧ k < s.ctm.work.length := by
  obtain ⟨-, details, startTimers, work, -⟩ := shape
  exact ⟨by rwa [details], by rwa [startTimers], by rwa [work]⟩

/-- A JOIN that no check refuses is answered OK, and closes on the collection test of the state it leaves. -/
theorem join_takes {k : Fin 16} (tag : Byte) {programs : Mask} (x : SelfTest) {s g : State} (hr : s.Ready (.sl k))
    (hg : g = s.granted (.join (.sl k) tag programs (some x)) (.sl k)) (geometry : s.rst.geometry.isSome = true)
    (used : s.unused k.val = false) (own : member programs 0 = false) :
    ∃ t data, exec (.join (.sl k) tag programs (some x)) s = .next t ∧ s.Answered t (.sl k) tag .ok data ∧
      ((g.joining k.val programs x).testCollection (.position k.val)).Closes t := by
  subst hg
  let g := s.granted (.join (.sl k) tag programs (some x)) (.sl k)
  obtain ⟨d, taken⟩ := g.joinStation_takes k.val programs x geometry used own
  have sound : (g.joining k.val programs x).rst.errors = [] := by
    rw [g.joining_rst]; exact (g.enrolled_orders k.val programs x).errors.trans hr.1.2
  have tested : g.joinStation programs (some x) k.val = ok ((g.joining k.val programs x).testCollection (.position k.val)) d :=
    taken.trans (by rw [← State.collect_sound _ _ sound]; rfl)
  obtain ⟨t, next, answered, closes⟩ := State.grant_does (tag := tag) (p := .stationJoin)
    (cells := (fun _ => geometryCell) :: occupantReads (.sl k))
    (op := fun s => s.atStation (.sl k) fun k s => s.joinStation programs (some x) k) hr rfl tested
    ((g.joining_frames k.val programs x).trans (State.testCollection_collects _ _).frames)
  exact ⟨t, d, next, answered, closes⟩

/-- Settles O34: a taken JOIN takes the station. -/
theorem joinTakesTheStation : Obligations.JoinTakesTheStation := by
  intro k tag programs test s hr l c
  let g := s.granted c l
  refine ⟨fun absent => ?_, fun geometry unused => ?_, fun geometry used bad => ?_, fun x geometry used own hx shape => ?_⟩
  · exact State.grant_answers hr rfl (State.joinStation_absent (s := g) programs test k.val absent)
  · exact State.grant_answers hr rfl (State.joinStation_unused (s := g) programs test geometry unused)
  · exact State.grant_answers hr rfl (State.joinStation_range (s := g) geometry used bad)
  · subst hx
    have place : k.val < g.rst.positions.length := shape.position k.isLt
    obtain ⟨record, starting, working⟩ := shape.tables k.isLt
    let w := g.enrolled k.val programs x
    let u := g.joining k.val programs x
    have orders : g.OrdersOnly w := g.enrolled_orders k.val programs x
    have timers : g.TimersOnly w := g.enrolled_timersOnly k.val programs x
    obtain ⟨m, ps, ds, shown⟩ := orders.store
    obtain ⟨t, d, next, answered, closes⟩ := join_takes tag x hr (g := g) rfl geometry used own
    have kept : u.Keeps t := (u.testCollection_collects _).keeps closes
    have store : u.rst = w.rst := g.joining_rst k.val programs x
    have entry : ∀ j, t.pos j = w.pos j ∧ t.detail j = w.detail j ∧ t.work j = w.work j ∧ t.startTimer j = w.startTimer j := fun j => by
      obtain ⟨a, b, e, f⟩ := kept.positions j
      obtain ⟨a', b', e', f'⟩ := g.joining_entry k.val programs x j
      exact ⟨a.trans a', b.trans b', e.trans e', f.trans f'⟩
    obtain ⟨here, detail, running, waiting⟩ := entry k.val
    have stopped := g.enrolled_timers k.val programs x place starting working
    have tables : s.SameTables u := by constructor <;> rw [store, shown] <;> rfl
    have listed : s.SameLists u := by rw [State.SameLists, store, shown]; exact ⟨rfl, rfl, rfl, rfl⟩
    refine ⟨t, _, next, answered, ?_, ?_, fun n => ?_, fun active ordered => ?_, fun active working => ?_, ?_, fun j hj => ?_, ?_, ?_,
      fun active failed abortable => ?_, fun still rests => ?_⟩
    · rw [here, g.enrolled_pos k.val programs x place]
      exact Position.tested_eq (s.pos k.val) programs x
    · exact detail.trans (g.enrolled_detail k.val programs x place record)
    · refine (kept.pallet n).trans (Eq.trans ?_ (g.enrolled_pallet k.val programs x n))
      rw [State.pallet, store]; rfl
    · exact waiting.trans (stopped active (.inl ordered)).1
    · rw [running]; exact (stopped active (.inr working)).2
    · have length : u.liu.links.length = 18 := (g.joining_frames k.val programs x).links.length.trans ((s.onLink_length l _).trans hr.2.1)
      have station : l ≠ .supl ∧ l ≠ .drvl := ⟨nofun, nofun⟩
      rw [closes.frames l station.1, kept.orderFrame, State.testCollection_link _ _ station.2]
      exact State.postOrder_posts (w.selfTested k.val x) k ((State.onLink_length _ _ _).symm.trans length)
    · obtain ⟨a, b, e, f⟩ := entry j
      obtain ⟨a', b', e', f'⟩ := g.enrolled_elsewhere k.val programs x j hj
      exact ⟨a.trans a', b.trans b', e.trans e', f.trans f'⟩
    · obtain ⟨geometry', routing, budgets, windows, fetched⟩ := kept.tables
      exact ⟨geometry'.trans tables.geometry, routing.trans tables.routing, budgets.trans tables.budgets, windows.trans tables.windows,
        fetched.trans tables.fetched⟩
    · obtain ⟨queue, schedule, log, counter⟩ := kept.lists
      obtain ⟨queue', schedule', log', counter'⟩ := listed
      exact ⟨queue.trans queue', schedule.trans schedule', log.trans log', counter.trans counter'⟩
    · subst failed
      have aborted : u = (w.enterFault (.stationFault k.val)).postOrder k.val := State.joining_aborts (s := g) programs active abortable
      have faulted : u.ixc.state = .fault := by rw [aborted]; exact (w.enterFault_enters (.stationFault k.val) none).state
      have still : ¬u.Released := fun released => by
        have collecting := released.collecting
        rw [faulted] at collecting
        cases collecting
      rw [u.testCollection_waits _ still] at closes
      have faults := (w.enterFault_enters (.stationFault k.val) none).of_orders orders timers
      have posted : (w.enterFault (.stationFault k.val)).Alike u := by rw [aborted]; exact ⟨rfl, rfl, rfl, rfl, rfl, rfl, rfl⟩
      exact { faults.alike (.refl g) (posted.trans closes.toAlike) with }
    · have resting : u = w.postOrder k.val := State.joining_rests (s := g) programs rests
      have wires : u.ixc = s.ixc ∧ u.pins = s.pins ∧ u.rst.geometry = s.rst.geometry := by
        rw [resting]; exact ⟨orders.ixc, orders.pins, orders.geometry⟩
      obtain ⟨ixc, pins, line⟩ := wires
      have others : ∀ j, j ≠ k.val → u.pos j = s.pos j := fun j hj =>
        (g.joining_entry k.val programs x j).1.trans (g.enrolled_elsewhere k.val programs x j hj).1
      have waits : ¬u.Released := fun c => still ((kept.positions k.val).1 ▸ (State.released_at (s := s) place others ixc line pins).mp c)
      rw [u.testCollection_waits _ waits] at closes
      obtain ⟨ixc', btk', wlu', work', transfer'⟩ := closes.sameMotion
      refine ⟨ixc'.trans ixc, btk'.trans ?_, wlu'.trans ?_, work'.trans ?_, transfer'.trans ?_⟩
      · rw [resting]; exact orders.btk
      · rw [resting]; exact orders.wlu
      · have work : w.aar.workList = g.aar.workList := by rw [orders.aar]
        rw [resting]; exact work
      · rw [store, shown]; rfl

end Sys2Proof.Machine
end

section
/-! SUPPORT. The advance that finds a lost position (O23): what the reading of a store with one uncorrectable tracking cell repairs. -/

namespace Sys2Proof.Machine

/-! ### Reading a store with one uncorrectable cell -/

/-- One cell of the store is lost, and no other disagrees with its check code. -/
abbrev State.LostOnly (s : State) (c : Cell) : Prop := s.rst.errors = [(c, .uncorrectable)]

theorem State.reach_keeps (s : State) (rounds : Nat) {cells : List Cell} {c : Cell} (h : c ∈ cells) : c ∈ s.reach rounds cells := by
  induction rounds generalizing cells with
  | zero => exact h
  | succ n ih => exact ih (List.mem_append_left _ h)

/-- Where no damaged cell is among those read, no repair reads another. -/
theorem State.reach_sound (s : State) (rounds : Nat) {cells : List Cell} (h : ∀ c ∈ s.damagedCells, c ∉ cells) : s.reach rounds cells = cells := by
  induction rounds with
  | zero => rfl
  | succ n ih =>
    have unread : s.damagedCells.filter cells.contains = [] := List.filter_eq_nil_iff.mpr fun c hc => by simpa using h c hc
    rw [State.reach, unread, List.flatMap_nil, List.append_nil, ih]

theorem State.LostOnly.damaged {s : State} {c : Cell} (h : s.LostOnly c) : s.damagedCells = [c] := by
  rw [State.damagedCells, h]; rfl

theorem State.LostOnly.found_correctable {s : State} {c : Cell} (h : s.LostOnly c) (cells : List Cell) : s.found .correctable cells = [] := by
  simp [State.found, h, sortCells]

theorem State.LostOnly.found_missed {s : State} {c : Cell} (h : s.LostOnly c) {cells : List Cell} (unread : c ∉ cells) :
    s.found .uncorrectable cells = [] := by
  have reads : s.readSet cells = cells := s.reach_sound _ fun d hd => by
    rw [h.damaged, List.mem_singleton] at hd
    rw [hd]; exact unread
  simp [State.found, h, reads, unread, sortCells]

theorem State.LostOnly.found_read {s : State} {c : Cell} (h : s.LostOnly c) {cells : List Cell} (read : c ∈ cells) :
    s.found .uncorrectable cells = [c] := by
  have reads : c ∈ s.readSet cells := s.reach_keeps _ read
  simp [State.found, h, reads, sortCells, insertCell]

theorem State.rewriteCells_nil (s : State) : s.rewriteCells [] = s := by
  have same : s.rst.errors.filter (fun e => !([] : List Cell).contains e.1) = s.rst.errors := List.filter_eq_self.mpr fun _ _ => rfl
  rw [State.rewriteCells, State.onRst, same]

/-- Repairs of tracking cells close up no list and write no direct setting. -/
theorem State.afterRepairs_tracking (s : State) (r : Rst) {bad : List Cell} (h : ∀ c ∈ bad, c.region = .positionTracking) :
    s.afterRepairs r bad = s := by
  have other : ∀ c : Cell, c.region ≠ .positionTracking → c ∉ bad := fun c hc e => hc (h c e)
  have slots : ∀ i, slotLost bad i = false := fun i => by simp [slotLost, List.range_succ, other]
  have queue : s.repairQueue r bad = s := by
    have kept := dropPlaces_none s.rst.returnQueue (fun i n => bad.contains ⟨.returnQueue, i⟩ || r.freed bad n)
      fun i n => by simp [other, Rst.freed, slots]
    rw [State.repairQueue, State.onRst, kept]
  have schedule : s.repairSchedule bad = s := by
    have kept := dropPlaces_none s.rst.schedule (fun i _ => bad.contains ⟨.schedule, i⟩) fun i _ => by simp [other]
    rw [State.repairSchedule, State.onRst, kept, State.noteSchedule, if_neg (by simp)]
  unfold State.afterRepairs
  rw [queue, schedule]
  exact if_neg (by simp [other])

/-- Cells that do not hold the lost one are read without any effect. -/
theorem State.LostOnly.readCells_missed {s : State} {c : Cell} (h : s.LostOnly c) {cells : List Cell} (unread : c ∉ cells) (inAdvance : Bool) :
    s.readCells cells inAdvance = s := by
  have unsound : ¬s.rst.errors.isEmpty = true := by rw [h]; exact Bool.false_ne_true
  rw [State.readCells, if_neg unsound, h.found_correctable, h.found_missed unread]
  exact (State.afterRepairs_tracking _ _ fun _ hc => absurd hc List.not_mem_nil).trans s.rewriteCells_nil

/-- The store as a lost tracking cell is rewritten: its error gone, counted and named (R160). -/
def State.trackingNoted (s : State) (k : Nat) : State :=
  (s.rewriteCells [⟨.positionTracking, k⟩]).noteDamaged ⟨.positionTracking, k⟩

/-- A lost tracking cell among those read is repaired alone. -/
theorem State.LostOnly.readCells_tracking {s : State} {k : Nat} (h : s.LostOnly ⟨.positionTracking, k⟩) {cells : List Cell}
    (read : ⟨.positionTracking, k⟩ ∈ cells) (inAdvance : Bool) :
    s.readCells cells inAdvance = (s.trackingNoted k).repairTracking [⟨.positionTracking, k⟩] inAdvance k := by
  have unsound : ¬s.rst.errors.isEmpty = true := by rw [h]; exact Bool.false_ne_true
  rw [State.readCells, if_neg unsound, h.found_correctable, h.found_read read]
  exact State.afterRepairs_tracking _ _ fun c hc => by rw [List.mem_singleton.mp hc]

/-! ### The advance (R56, R162) -/

theorem State.LostOnly.opening {s : State} {k : Nat} (h : s.LostOnly ⟨.positionTracking, k⟩) :
    s.gather advanceOpening = geometryCell ++ s.lineTracking := by
  have geometry : s.readCells geometryCell = s := h.readCells_missed (by simp [geometryCell]) false
  simp [advanceOpening, State.gather, geometry]

theorem State.LostOnly.advances {s : State} {k : Nat} (h : s.LostOnly ⟨.positionTracking, k⟩) (line : k < s.count) :
    s.advanceGrant = ((s.trackingNoted k).repairTracking [⟨.positionTracking, k⟩] true k).enterFault .tracking := by
  have read : (⟨.positionTracking, k⟩ : Cell) ∈ s.gather advanceOpening := by
    rw [h.opening]
    simpa [geometryCell, State.lineTracking, trackingCells] using line
  have damaged : s.trackingDamaged = true := by rw [State.trackingDamaged, h.found_read read]; rfl
  rw [State.advanceGrant, State.readStages, h.readCells_tracking read]
  exact if_pos damaged

/-- A position whose tracking cell has been rewritten from the order copy, with the order kind `kind` (R92, R162). -/
def Position.lost (p : Position) (d : OrderDetail) (kind : OrderKind) : Position :=
  { p with
    occupant := .unknown, phase := if p.mode == .active then .fault else .idle
    faultCode := if p.mode == .active then some .store else none, orderNumber := d.copyNumber, orderKind := kind
    program := none, instruction := none }

/-- The order kind of a repaired tracking cell (R92, R162). -/
def State.copiedKind (s : State) (k : Nat) : OrderKind := if s.active k then (s.detail k).copyKind else .noOrder

/-- A position in the line with its tracking cell rewritten and its timers stopped. -/
def State.retracked (s : State) (k : Nat) : State := (s.onPos k fun p => p.lost (s.detail k) (s.copiedKind k)).stopTimers k

/-- In the advance the repair of one lost tracking cell aborts nothing (R56). -/
theorem State.repairTracking_used {s : State} {k : Nat} (used : s.unused k = false) :
    s.repairTracking [⟨.positionTracking, k⟩] true k =
      if (s.pos k).phase.outstanding then (s.retracked k).onDetail k fun d => { d with closing := .withdrawn } else s.retracked k := by
  have detail : [(⟨.positionTracking, k⟩ : Cell)].contains ⟨.orderDetail, k⟩ = false := by simp
  have kind : (if (false || !s.active k) = true then OrderKind.noOrder else (s.detail k).copyKind) = s.copiedKind k := by
    rw [State.copiedKind]
    cases s.active k <;> rfl
  rw [State.repairTracking, used, detail]
  simp only [Bool.false_eq_true, if_false, Bool.not_true, Bool.and_false, kind]
  rfl

/-- What the repair of a lost tracking cell leaves, beside the entry of its position. -/
structure State.Retracks (s t : State) (k : Nat) : Prop where
  orders : s.OrdersOnly t
  slots : t.rst.slots = s.rst.slots
  timers : s.TimersOnly t
  elsewhere : s.SameElsewhere t k
  entry : k < s.rst.positions.length → t.pos k = (s.pos k).lost (s.detail k) (s.copiedKind k)

theorem State.retracked_retracks (s : State) (k : Nat) : s.Retracks (s.retracked k) k :=
  ⟨(s.onPos_orders k _).trans (State.stopTimers_orders _ k), rfl, ⟨_, _, rfl⟩,
    (s.onPos_elsewhere k _).trans (State.stopTimers_elsewhere _ k), fun h => s.pos_onPos_self _ h⟩

theorem State.repairTracking_retracks {s : State} {k : Nat} (used : s.unused k = false) :
    s.Retracks (s.repairTracking [⟨.positionTracking, k⟩] true k) k := by
  obtain ⟨orders, slots, timers, elsewhere, entry⟩ := s.retracked_retracks k
  rw [State.repairTracking_used used]
  split
  · exact ⟨orders.trans (State.onDetail_orders _ k _), slots, timers, elsewhere.trans (State.onDetail_elsewhere _ k _), entry⟩
  · exact ⟨orders, slots, timers, elsewhere, entry⟩

/-- The rewriting of a lost tracking cell leaves a sound store, and counts the cell; nothing else changes but its report (R160). -/
theorem State.LostOnly.noted {s : State} {k : Nat} (h : s.LostOnly ⟨.positionTracking, k⟩) :
    ∃ x a, s.trackingNoted k = { s with
      rst := { s.rst with errors := [], damages := countUp 65535 s.rst.damages, lastDamaged := x }
      liu := { s.liu with attentions := a } } := by
  have clean : s.rst.errors.filter (fun e => !([(⟨.positionTracking, k⟩ : Cell)].contains e.1)) = [] := by rw [h]; simp
  have rewritten : s.rewriteCells [⟨.positionTracking, k⟩] = { s with rst := { s.rst with errors := [] } } :=
    congrArg (fun es => { s with rst := { s.rst with errors := es } }) clean
  rw [State.trackingNoted, rewritten]
  exact ⟨_, _, rfl⟩

/-- Settles O23: an advance that finds a lost position repairs it and stops with TRACKING. -/
theorem advanceStopsOnALostPosition : Obligations.AdvanceStopsOnALostPosition := by
  intro ws k s live shape head advancing line bound used lost
  have place : k < s.rst.positions.length := shape.position (by omega)
  let p := s.popWork
  obtain ⟨x, a, noted⟩ := State.LostOnly.noted (s := p) lost
  let q := p.trackingNoted k
  let u := q.repairTracking [⟨.positionTracking, k⟩] true k
  have made : q = _ := noted
  have read : q.pos = s.pos ∧ q.detail = s.detail ∧ q.ctm = s.ctm ∧ q.ixc = s.ixc ∧ q.liu.links = s.liu.links := by
    rw [made]; exact ⟨rfl, rfl, rfl, rfl, rfl⟩
  obtain ⟨positions, details, times, ixc, links⟩ := read
  have unlost : q.unused k = false := by rw [State.unused, positions]; exact used
  obtain ⟨orders, slots, timers, elsewhere, entry⟩ : q.Retracks u k := State.repairTracking_retracks unlost
  obtain ⟨m, ps, ds, store⟩ := orders.store
  obtain ⟨b, w, stopped⟩ := timers
  have granted : exec .advance s = .next (State.closeEvent s (u.enterFault .tracking)) := by
    rw [exec, execAdvance, s.event_live _ live, if_pos (by simp [head, advancing]), State.LostOnly.advances (s := p) lost line]
  have collects := u.enterFault_collects .tracking none
  have faults := u.enterFault_enters .tracking none
  have closes := State.closes_closeEvent s (u.enterFault .tracking)
  have kept : u.Keeps (State.closeEvent s (u.enterFault .tracking)) := collects.keeps closes
  have here : (State.closeEvent s (u.enterFault .tracking)).pos k = (s.pos k).lost (s.detail k) (q.copiedKind k) := by
    rw [(kept.positions k).1, entry (by rw [made]; exact place), positions, details]
  have rst : (State.closeEvent s (u.enterFault .tracking)).rst = u.rst := closes.rst.trans (u.enterFault_rst _ _)
  have ctm : (State.closeEvent s (u.enterFault .tracking)).ctm = u.ctm := closes.ctm.trans (u.enterFault_ctm _ _)
  refine ⟨_, granted, ?_, ?_, ?_, ⟨⟨.tracking, none, u.motionKind, u.ctm.clock⟩, ?_, rfl⟩, ?_, fun active => ?_, fun bypass => ?_, fun j hj => ?_, ?_, ?_, ?_, ?_, ?_, ?_, ?_⟩
  · rw [closes.ixc]; exact faults.state
  · rw [closes.ixc, faults.motion, orders.ixc, ixc]
  · rw [closes.attentions]; exact faults.attention
  · rw [closes.ixc]; exact faults.current
  · rw [here]; rfl
  · rw [here, Position.lost, State.copiedKind, State.active, positions, details, active]
    exact ⟨rfl, rfl, rfl, rfl⟩
  · rw [here, Position.lost, State.copiedKind, State.active, positions, bypass]
    exact ⟨rfl, rfl⟩
  · obtain ⟨a, b, c, d⟩ := kept.positions j
    obtain ⟨a', b', c', d'⟩ := elsewhere j hj
    refine ⟨(a.trans a').trans ?_, (b.trans b').trans ?_, (c.trans c').trans ?_, (d.trans d').trans ?_⟩
    · rw [positions]
    · rw [details]
    · rw [State.work, times]; rfl
    · rw [State.startTimer, times]; rfl
  · rw [State.SameLists, rst, store, made]; exact ⟨rfl, rfl, rfl, rfl⟩
  · rw [rst, slots, made]; rfl
  · rw [rst, store, made]
  · rw [rst, store, made]; rfl
  · rw [ctm, stopped, times]
  · rw [ctm, stopped, times]
  · have same : s.LinksKept q := .of_links links
    exact ((same.trans orders.frames.links).trans collects.links).closeEvent s

end Sys2Proof.Machine
end

section
/-! SUPPORT. The checks of a report in their order (O37), and the CLEAR of an order that is not under way (O40). -/

namespace Sys2Proof.Machine

/-! ### The checks in their order (R79) -/

theorem State.membership_unused {s : State} {k : Nat} (unused : s.unused k = true) : s.membership k = some .notInLine := if_pos unused

theorem State.membership_unjoined {s : State} {k : Nat} (used : s.unused k = false) (unjoined : (s.pos k).joined = none) :
    s.membership k = some .notJoined := by
  simp [State.membership, used, unjoined]

/-- A check of membership that holds decides the refusal of a report (R79). -/
theorem State.reportRefusal_membership {s : State} {k : Nat} {r : Reason} (h : s.membership k = some r) (o : Nat) (bad : Bool) :
    s.reportRefusal k o bad = some r := by
  rw [State.reportRefusal, h]

theorem State.reportRefusal_range {s : State} {k o : Nat} {bad : Bool} (member : s.Member k) (out : 255 < o ∨ bad = true) :
    s.reportRefusal k o bad = some .range := by
  rw [State.reportRefusal, member.passes]
  exact if_pos (by simpa using out)

theorem State.reportRefusal_stale {s : State} {k o : Nat} (member : s.Member k) (range : o ≤ 255) (other : o ≠ (s.pos k).orderNumber) :
    s.reportRefusal k o false = some .staleOrder := by
  rw [State.reportRefusal, member.passes]
  exact (if_neg (by simpa using range)).trans (if_pos (by simpa using other))

/-! ### A report whose checks refuse it -/

theorem State.startReport_refuses {s : State} {k o : Nat} {r : Reason} (h : s.reportRefusal k o false = some r) :
    s.startReport o k = refuse s r := by
  rw [State.startReport, h]

theorem State.clearReport_refuses {s : State} {k o : Nat} {bad : Bool} {r : Reason} (h : s.reportRefusal k o bad = some r) (result : Result)
    (fits : Nat → State → Bool) (op : Nat → State → State × Reply) (body : State → List Byte) :
    s.clearReport o bad result fits op body k = refuse s r := by
  rw [State.clearReport, h]

theorem State.arriveNone_refused {s : State} {k o : Nat} {r : Reason} (h : s.reportRefusal k o false = some r) :
    s.arriveNone o k = refuse s r := by
  rw [State.arriveNone, State.arrivalRefusal, h]

theorem State.arrive_refused {s : State} {k o n : Nat} {r : Reason} (h : s.reportRefusal k o (decide (255 < n)) = some r) :
    s.arrive o n k = refuse s r := by
  rw [State.arrive, State.arrivalRefusal, h]

theorem State.faultReport_refused {s : State} {k : Nat} {r : Reason} (h : s.membership k = some r) (code : Nat) :
    s.faultReport code k = refuse s r := by
  rw [State.faultReport, h]

theorem State.faultReport_range {s : State} {k code : Nat} (member : s.Member k) (out : code = 0 ∨ 255 < code) :
    s.faultReport code k = refuse s .range := by
  rw [State.faultReport, member.passes]
  exact if_pos out

theorem State.recoveredReport_refused {s : State} {k : Nat} {r : Reason} (h : s.membership k = some r) :
    s.recoveredReport k = refuse s r := by
  rw [State.recoveredReport, h]

/-- A CLEAR whose checks refuse it. -/
theorem clear_refused {c : Instr} {k : Fin 16} {tag : Byte} {o : Nat} {s : State} {bad : Bool} {cells : List (State → List Cell)}
    {result : Result} {fits : Nat → State → Bool} {op : Nat → State → State × Reply} {body : State → List Byte} {r : Reason}
    (hr : s.Ready (.sl k)) (refused : s.reportRefusal k.val o bad = some r)
    (arm : exec c s = s.grant c .station (.sl k) tag cells
      fun s => s.atStation (.sl k) fun k s => s.clearReport o bad result fits op body k) :
    exec c s = .next (s.answered (.sl k) tag (.refused r) []) :=
  arm.trans (State.grant_answers hr rfl (State.clearReport_refuses (s := s.granted c (.sl k)) refused result fits op body))

/-- An ARRIVED whose checks refuse it; the number 0 names no pallet. -/
theorem arrived_refused {k : Fin 16} {tag : Byte} {o n : Nat} {s : State} {r : Reason} (hr : s.Ready (.sl k))
    (refused : s.reportRefusal k.val o (decide (255 < n)) = some r) :
    exec (.arrived (.sl k) tag o n) s = .next (s.answered (.sl k) tag (.refused r) []) := by
  let g := s.granted (.arrived (.sl k) tag o n) (.sl k)
  have answer : (if n = 0 then g.arriveNone o k.val else g.arrive o n k.val) = refuse g r := by
    split
    · next none => subst none; exact State.arriveNone_refused (s := g) refused
    · exact State.arrive_refused (s := g) refused
  exact State.grant_answers hr rfl answer

/-- A report that names an order and is refused by its checks, by its command (R79, R103). -/
theorem report_refused {c : Instr} {k : Fin 16} {tag : Byte} {o : Nat} {s : State} {r : Reason} (hr : s.Ready (.sl k))
    (hc : c.report = some (k, tag, o)) (refused : s.reportRefusal k.val o false = some r) :
    exec c s = .next (s.answered (.sl k) tag (.refused r) []) := by
  unfold Instr.report at hc
  split at hc
  case h_1 => cases hc; exact State.grant_answers hr rfl (State.startReport_refuses (s := s.granted _ _) refused)
  case h_2 | h_3 | h_4 | h_5 | h_6 | h_7 | h_8 | h_9 => cases hc; exact clear_refused hr refused rfl
  case h_10 => cases hc; exact State.grant_answers hr rfl (State.arriveNone_refused (s := s.granted _ _) refused)
  case h_11 n =>
    split at hc
    · next range => cases hc; exact arrived_refused hr (by rwa [decide_eq_false (Nat.not_lt.mpr range)])
    · cases hc
  case h_12 => cases hc

/-- Settles O37: the first check of a report that holds decides its refusal, and nothing but the answer changes. -/
theorem reportsAreCheckedInOrder : Obligations.ReportsAreCheckedInOrder := by
  intro k tag s hr refused
  have out : s.unused k.val = true → ∀ o bad, s.reportRefusal k.val o bad = some .notInLine := fun unused =>
    State.reportRefusal_membership (State.membership_unused unused)
  have strange : s.unused k.val = false → (s.pos k.val).joined = none → ∀ o bad, s.reportRefusal k.val o bad = some .notJoined :=
    fun used unjoined => State.reportRefusal_membership (State.membership_unjoined used unjoined)
  have unread : ∀ {o r}, s.reportRefusal k.val o true = some r → exec (.clear (.sl k) tag o none) s = refused r := fun h =>
    clear_refused hr h rfl
  have faults : ∀ {code r}, s.membership k.val = some r → exec (.stationFault (.sl k) tag code) s = refused r := fun {code _} h =>
    State.grant_answers hr rfl (State.faultReport_refused (s := s.granted _ _) h code)
  have recovers : ∀ {r}, s.membership k.val = some r → exec (.recovered (.sl k) tag) s = refused r := fun h =>
    State.grant_answers hr rfl (State.recoveredReport_refused (s := s.granted _ _) h)
  refine ⟨fun c o hc => ?_, fun o => ?_, fun o n large => ?_, fun code => ?_, fun unused => ?_, fun used unjoined => ?_⟩
  · exact ⟨fun unused => report_refused hr hc (out unused o _), fun used unjoined => report_refused hr hc (strange used unjoined o _),
      fun member range => report_refused hr hc (State.reportRefusal_range member (.inl range)),
      fun member range other => report_refused hr hc (State.reportRefusal_stale member range other)⟩
  · exact ⟨fun unused => unread (out unused o _), fun used unjoined => unread (strange used unjoined o _),
      fun member => unread (State.reportRefusal_range member (.inr rfl))⟩
  · exact ⟨fun unused => arrived_refused hr (out unused o _), fun used unjoined => arrived_refused hr (strange used unjoined o _),
      fun member => arrived_refused hr (State.reportRefusal_range member (.inr (decide_eq_true large)))⟩
  · exact ⟨fun unused => faults (State.membership_unused unused), fun used unjoined => faults (State.membership_unjoined used unjoined),
      fun member range => State.grant_answers hr rfl (State.faultReport_range (s := s.granted _ _) member range)⟩
  · exact recovers (State.membership_unused unused)
  · exact recovers (State.membership_unjoined used unjoined)

/-! ### CLEAR in the phases other than WORKING (R81, R82) -/

/-- In DONE a CLEAR repeats the result taken, or is refused. -/
theorem State.clearReport_done {s : State} {k o : Nat} (reports : s.Reports k o) (done : (s.pos k).phase = .done) (result : Result)
    (fits : Nat → State → Bool) (op : Nat → State → State × Reply) (body : State → List Byte) :
    s.clearReport o false result fits op body k =
      if (s.detail k).resultTaken = some result ∧ result ≠ .noPallet then ok s (body s) else refuse s .wrongState := by
  rw [State.clearReport, reports.passes]
  dsimp only
  rw [done]

theorem State.clearReport_rests {s : State} {k o : Nat} (reports : s.Reports k o)
    (rests : (s.pos k).phase = .idle ∨ (s.pos k).phase = .ordered ∨ (s.pos k).phase = .fault) (result : Result)
    (fits : Nat → State → Bool) (op : Nat → State → State × Reply) (body : State → List Byte) :
    s.clearReport o false result fits op body k = refuse s .wrongState := by
  rw [State.clearReport, reports.passes]
  dsimp only
  rcases rests with e | e | e <;> rw [e]

section settled
variable {c : Instr} {k : Fin 16} {tag : Byte} {o : Nat} {s : State} {cells : List (State → List Cell)} {result : Result}
  {fits : Nat → State → Bool} {op : Nat → State → State × Reply} {body : State → List Byte}

/-- In IDLE, ORDERED and FAULT a CLEAR is refused (R81). -/
theorem clear_rests (hr : s.Ready (.sl k)) (reports : s.Reports k.val o)
    (arm : exec c s = s.grant c .station (.sl k) tag cells
      fun s => s.atStation (.sl k) fun k s => s.clearReport o false result fits op body k)
    (rests : (s.pos k.val).phase = .idle ∨ (s.pos k.val).phase = .ordered ∨ (s.pos k.val).phase = .fault) :
    exec c s = .next (s.answered (.sl k) tag (.refused .wrongState) []) :=
  arm.trans (State.grant_answers hr rfl (State.clearReport_rests (s := s.granted c (.sl k)) reports rests result fits op body))

/-- A CLEAR outside WORKING: in DONE one with the result taken is answered with its data, and every other is refused (R81, R82). -/
theorem clear_settles {data : List Byte} (hr : s.Ready (.sl k)) (reports : s.Reports k.val o) (named : result ≠ .noPallet)
    (arm : exec c s = s.grant c .station (.sl k) tag cells
      fun s => s.atStation (.sl k) fun k s => s.clearReport o false result fits op body k)
    (sent : body (s.granted c (.sl k)) = data) :
    ((s.pos k.val).phase = .done → exec c s = .next (if (s.detail k.val).resultTaken = some result then s.answered (.sl k) tag .ok data
      else s.answered (.sl k) tag (.refused .wrongState) [])) ∧
    ((s.pos k.val).phase = .idle ∨ (s.pos k.val).phase = .ordered ∨ (s.pos k.val).phase = .fault →
      exec c s = .next (s.answered (.sl k) tag (.refused .wrongState) [])) := by
  refine ⟨fun done => ?_, clear_rests hr reports arm⟩
  have answer := State.clearReport_done (s := s.granted c (.sl k)) reports done result fits op body
  rw [arm]
  by_cases taken : (s.detail k.val).resultTaken = some result
  · rw [if_pos taken, ← sent]
    exact State.grant_answers hr rfl (answer.trans (if_pos ⟨taken, named⟩))
  · rw [if_neg taken]
    exact State.grant_answers hr rfl (answer.trans (if_neg fun h => taken h.1))

/-- A CLEAR that names NO_PALLET repeats nothing (R104). -/
theorem clear_noPallet (hr : s.Ready (.sl k)) (reports : s.Reports k.val o)
    (arm : exec c s = s.grant c .station (.sl k) tag cells
      fun s => s.atStation (.sl k) fun k s => s.clearReport o false .noPallet fits op body k)
    (away : (s.pos k.val).phase ≠ .working) : exec c s = .next (s.answered (.sl k) tag (.refused .wrongState) []) := by
  cases phase : (s.pos k.val).phase with
  | working => exact absurd phase away
  | idle => exact clear_rests hr reports arm (.inl phase)
  | ordered => exact clear_rests hr reports arm (.inr (.inl phase))
  | fault => exact clear_rests hr reports arm (.inr (.inr phase))
  | done =>
    have answer := State.clearReport_done (s := s.granted c (.sl k)) reports phase .noPallet fits op body
    exact arm.trans (State.grant_answers hr rfl (answer.trans (if_neg fun h => h.2 rfl)))
end settled

theorem plainResult_noPallet_iff (r : PlainResult) : plainResult r = .noPallet ↔ r = .noPallet := by
  cases r <;> simp [plainResult]

/-- Settles O40: a CLEAR with the result taken changes nothing in DONE, and every other CLEAR outside WORKING is refused. -/
theorem repeatedClearChangesNothing : Obligations.RepeatedClearChangesNothing := by
  intro k tag o s hr reports l settled
  exact ⟨fun r named => clear_settles hr reports (mt (plainResult_noPallet_iff r).mp named) rfl rfl, clear_noPallet hr reports rfl,
    fun cs => clear_settles hr reports nofun rfl rfl, clear_settles hr reports nofun rfl rfl, clear_settles hr reports nofun rfl rfl,
    clear_settles hr reports nofun rfl rfl, clear_settles hr reports nofun rfl rfl, clear_settles hr reports nofun rfl rfl,
    clear_settles hr reports nofun rfl rfl⟩

end Sys2Proof.Machine
end

section
/-! SUPPORT. START (O38): what a request that writes orders and records leaves as it was, and the start of the work. -/

namespace Sys2Proof.Machine

/-! ### What a request that writes orders leaves as it was -/

theorem State.SameTables.trans {s t u : State} (a : s.SameTables t) (b : t.SameTables u) : s.SameTables u :=
  ⟨b.geometry.trans a.geometry, b.routing.trans a.routing, b.budgets.trans a.budgets, b.windows.trans a.windows, b.fetched.trans a.fetched⟩

theorem State.SameLists.trans {s t u : State} (a : s.SameLists t) (b : t.SameLists u) : s.SameLists u := by
  obtain ⟨queue, schedule, log, counter⟩ := a
  obtain ⟨queue', schedule', log', counter'⟩ := b
  exact ⟨queue'.trans queue, schedule'.trans schedule, log'.trans log, counter'.trans counter⟩

theorem State.SameMotion.trans {s t u : State} (a : s.SameMotion t) (b : t.SameMotion u) : s.SameMotion u := by
  obtain ⟨ixc, btk, wlu, work, transfer⟩ := a
  obtain ⟨ixc', btk', wlu', work', transfer'⟩ := b
  exact ⟨ixc'.trans ixc, btk'.trans btk, wlu'.trans wlu, work'.trans work, transfer'.trans transfer⟩

theorem State.OrdersOnly.tables {s t : State} (h : s.OrdersOnly t) : s.SameTables t := by
  obtain ⟨m, ps, ds, store⟩ := h.store
  constructor <;> rw [store]

theorem State.OrdersOnly.lists {s t : State} (h : s.OrdersOnly t) : s.SameLists t := by
  obtain ⟨m, ps, ds, store⟩ := h.store
  rw [State.SameLists, store]; exact ⟨rfl, rfl, rfl, rfl⟩

theorem State.OrdersOnly.motion {s t : State} (h : s.OrdersOnly t) : s.SameMotion t := by
  obtain ⟨m, ps, ds, store⟩ := h.store
  exact ⟨h.ixc, h.btk, h.wlu, by rw [h.aar], by rw [store]⟩

theorem State.Closes.keeps {u t : State} (h : u.Closes t) : u.Keeps t := (State.Collects.refl u).keeps h

theorem State.Keeps.elsewhere {s u t : State} {k : Nat} (kept : u.Keeps t) (h : s.SameElsewhere u k) : s.SameElsewhere t k :=
  h.trans fun j _ => kept.positions j

/-! ### The clamp of a START (R23, R80) -/

theorem State.countClamp_orders (s : State) (k : Nat) : s.OrdersOnly (s.countClamp k) := by
  unfold State.countClamp
  split
  · exact .refl s
  · exact ⟨⟨_, _, _, rfl⟩, rfl, rfl, rfl, rfl, rfl, rfl, rfl, rfl, rfl, rfl, rfl⟩

theorem State.countClamp_same (s : State) (k j : Nat) :
    (s.countClamp k).pos j = s.pos j ∧ (s.countClamp k).detail j = s.detail j ∧ (s.countClamp k).ctm = s.ctm := by
  unfold State.countClamp
  split <;> exact ⟨rfl, rfl, rfl⟩

theorem State.pallet_countClamp (s : State) (k n : Nat) : (s.countClamp k).pallet n =
    if s.palletAt k = some n then (s.pallet n).map fun q => { q with clamps := countUp 65535 q.clamps } else s.pallet n := by
  unfold State.countClamp
  cases s.palletAt k with
  | none => simp
  | some m =>
    simp only [Option.some.injEq, eq_comm (a := m)]
    exact s.pallet_onPallet m (fun q => { q with clamps := countUp 65535 q.clamps }) (fun _ => rfl) n

/-! ### A taken START (R80) -/

/-- The order of position `k` is WORKING and its work timer runs; the clamp is not yet counted. -/
def State.started (s : State) (k : Nat) : State :=
  ((s.onPos k fun p => { p with phase := .working }).setStartTimer k none).onWork k
    fun _ => { running := some 0, limit := s.orderLimit k, overrunTaken := false }

theorem State.startWork_eq (s : State) (k : Nat) :
    s.startWork k = if (s.pos k).orderKind.recorded then (s.started k).countClamp k else s.started k := rfl

theorem State.started_orders (s : State) (k : Nat) : s.OrdersOnly (s.started k) :=
  (s.onPos_orders k _).trans ⟨⟨_, _, _, rfl⟩, rfl, rfl, List.length_set, List.length_modify _ _ _, rfl, rfl, rfl, rfl, rfl, rfl, rfl⟩

theorem State.startWork_orders (s : State) (k : Nat) : s.OrdersOnly (s.startWork k) := by
  rw [s.startWork_eq]
  split <;> [exact (s.started_orders k).trans (State.countClamp_orders _ k); exact s.started_orders k]

/-- The clamp changes no position, no order detail and no timer. -/
theorem State.startWork_same (s : State) (k j : Nat) : (s.startWork k).pos j = (s.started k).pos j ∧
    (s.startWork k).detail j = (s.started k).detail j ∧ (s.startWork k).ctm = (s.started k).ctm := by
  rw [s.startWork_eq]
  split <;> [exact State.countClamp_same _ k j; exact ⟨rfl, rfl, rfl⟩]

theorem State.started_elsewhere (s : State) (k : Nat) : s.SameElsewhere (s.started k) k := fun _ hj =>
  ⟨s.pos_onPos_ne _ hj, rfl, State.work_onWork_ne ((s.onPos k fun p => { p with phase := .working }).setStartTimer k none) _ hj,
    s.startTimer_set_ne none hj⟩

theorem State.startWork_elsewhere (s : State) (k : Nat) : s.SameElsewhere (s.startWork k) k :=
  (s.started_elsewhere k).trans fun j _ => by
    obtain ⟨pos, detail, ctm⟩ := s.startWork_same k j
    exact ⟨pos, detail, by rw [State.work, ctm]; rfl, by rw [State.startTimer, ctm]; rfl⟩

/-- The limit of a work timer is its budget's, for a PROCESS or CHECK order (R170, R171). -/
theorem State.orderLimit_eq (s : State) (k : Nat) : s.orderLimit k = match (s.pos k).program with
    | some g => if (s.pos k).orderKind = .process ∨ (s.pos k).orderKind = .check then budgetLimit s.tolerance (s.budget k g) else none
    | none => none := by
  unfold State.orderLimit
  simp only [← OrderKind.recorded_iff]
  cases (s.pos k).orderKind.recorded <;> cases (s.pos k).program <;> rfl

/-- Position `k`, its order detail and its timers after a START. -/
theorem State.startWork_at (s : State) {k : Nat} (h : k < s.rst.positions.length) (ht : k < s.ctm.startTimers.length)
    (hw : k < s.ctm.work.length) : (s.startWork k).pos k = { s.pos k with phase := .working } ∧ (s.startWork k).detail k = s.detail k ∧
      (s.startWork k).startTimer k = none ∧
      (s.startWork k).work k = { running := some 0, limit := s.orderLimit k, overrunTaken := false } := by
  obtain ⟨pos, detail, ctm⟩ := s.startWork_same k k
  refine ⟨pos.trans (s.pos_onPos_self _ h), detail, ?_, ?_⟩
  · rw [State.startTimer, ctm]
    exact s.startTimer_set_self none ht
  · rw [State.work, ctm]
    exact State.work_onWork_self ((s.onPos k fun p => { p with phase := .working }).setStartTimer k none) _ hw

theorem State.pallet_startWork (s : State) {k : Nat} (h : k < s.rst.positions.length) (n : Nat) : (s.startWork k).pallet n =
    if ((s.pos k).orderKind = .process ∨ (s.pos k).orderKind = .check) ∧ s.palletAt k = some n then
      (s.pallet n).map fun q => { q with clamps := countUp 65535 q.clamps }
    else s.pallet n := by
  have occupant : (s.started k).palletAt k = s.palletAt k := by
    have here : (s.started k).pos k = { s.pos k with phase := .working } := s.pos_onPos_self _ h
    rw [State.palletAt, here]; rfl
  simp only [← OrderKind.recorded_iff]
  by_cases worked : (s.pos k).orderKind.recorded = true
  · rw [s.startWork_eq, if_pos worked, State.pallet_countClamp, occupant]
    simp only [worked, true_and]; rfl
  · rw [s.startWork_eq, if_neg worked, if_neg fun c => worked c.1]; rfl

theorem OrderKind.timed_iff (o : OrderKind) : o.timed = true ↔ o = .process ∨ o = .check ∨ o = .load ∨ o = .unload := by
  cases o <;> simp [OrderKind.timed]

theorem State.startReport_takes {s : State} {k o : Nat} (reports : s.Reports k o) (ordered : (s.pos k).phase = .ordered)
    (timed : (s.pos k).orderKind.timed = true) : s.startReport o k = ok (s.startWork k) := by
  rw [State.startReport, reports.passes]
  exact if_pos (by simp [ordered, timed])

theorem State.startReport_refuses_phase {s : State} {k o : Nat} (reports : s.Reports k o)
    (other : ¬((s.pos k).phase = .ordered ∧ (s.pos k).orderKind.timed = true)) : s.startReport o k = refuse s .wrongState := by
  rw [State.startReport, reports.passes]
  exact if_neg (by simpa using other)

/-- Settles O38: START takes an ORDERED order that is not FEED to WORKING, and is refused otherwise. -/
theorem startTakesUpTheOrder : Obligations.StartTakesUpTheOrder := by
  intro k tag o s hr reports l p timed worked
  let g := s.granted (.start l tag o) l
  have kind : (s.pos k.val).orderKind.timed = true ↔ timed := OrderKind.timed_iff _
  refine ⟨fun other => ?_, fun ordered timed shape => ?_⟩
  · exact State.grant_answers hr rfl (State.startReport_refuses_phase (s := g) reports fun c => other ⟨c.1, kind.mp c.2⟩)
  · have place : k.val < g.rst.positions.length := shape.position k.isLt
    obtain ⟨-, starting, working⟩ := shape.tables k.isLt
    have orders : g.OrdersOnly (g.startWork k.val) := g.startWork_orders k.val
    obtain ⟨t, next, answered, closes⟩ := State.grant_does (tag := tag) (p := .station)
      (cells := (fun _ => [⟨.transfer, 8⟩]) :: occupantReads l ++ [fun s => stationCells l s.orderBudget])
      (op := fun s => s.atStation l fun k s => s.startReport o k) hr rfl
      (State.startReport_takes (s := g) reports ordered (kind.mpr timed)) orders.frames
    have kept := closes.keeps
    obtain ⟨here, detail, work, waiting⟩ := kept.positions k.val
    obtain ⟨here', detail', waiting', work'⟩ := g.startWork_at place starting working
    refine ⟨t, next, answered, here.trans here', detail.trans detail', waiting.trans waiting', ?_, fun n => ?_, ?_, ?_, ?_, ?_, ?_⟩
    · rw [work, work', g.orderLimit_eq]; rfl
    · exact (kept.pallet n).trans (g.pallet_startWork place n)
    · exact kept.elsewhere (g.startWork_elsewhere k.val)
    · exact { orders.tables.trans kept.tables with }
    · exact orders.lists.trans kept.lists
    · exact orders.motion.trans closes.sameMotion
    · rw [closes.attentions, orders.liu]; rfl

end Sys2Proof.Machine
end

section
/-! SUPPORT. Positions that enter FAULT and leave it: the expiry write of a start timer (O19), STATION FAULT and RECOVERED (O45). -/

namespace Sys2Proof.Machine

/-! ### A position that enters FAULT (R83, R87) -/

/-- The outstanding order of position `k` is cancelled and the position stands in FAULT; no motion has been aborted yet. -/
def State.stricken (s : State) (k : Nat) (code : FaultCode) : State :=
  (s.cancelOutstanding k).onPos k fun p => { p with phase := .fault, faultCode := some code }

section stricken
variable (s : State) (k : Nat) (code : FaultCode)

theorem State.stricken_orders : s.OrdersOnly (s.stricken k code) := (s.cancelOutstanding_orders k).trans (State.onPos_orders _ k _)

theorem State.stricken_timersOnly : s.TimersOnly (s.stricken k code) := s.cancelOutstanding_timersOnly k

theorem State.stricken_elsewhere : s.SameElsewhere (s.stricken k code) k :=
  (s.cancelOutstanding_elsewhere k).trans (State.onPos_elsewhere _ k _)

theorem State.pallet_stricken (n : Nat) : (s.stricken k code).pallet n = s.afterCancel k n := s.pallet_cancelOutstanding k n

theorem State.stricken_pos (h : k < s.rst.positions.length) :
    (s.stricken k code).pos k = { s.pos k with phase := .fault, faultCode := some code } := by
  have here := (s.cancelOutstanding k).pos_onPos_self (k := k) (fun p => { p with phase := .fault, faultCode := some code })
    (by rwa [(s.cancelOutstanding_orders k).positions])
  rwa [s.cancelOutstanding_pos] at here

theorem State.stricken_detail (hd : k < s.rst.details.length) :
    (s.stricken k code).detail k = (s.detail k).afterCancel (s.pos k).phase := s.cancelOutstanding_afterCancel hd

theorem State.stricken_timers (ht : k < s.ctm.startTimers.length) (hw : k < s.ctm.work.length)
    (outstanding : (s.pos k).phase = .ordered ∨ (s.pos k).phase = .working) :
    (s.stricken k code).startTimer k = none ∧ ((s.stricken k code).work k).running = none :=
  s.cancelOutstanding_timers ht hw outstanding
end stricken

/-! ### The motion that the position's FAULT aborts (R55, R59) -/

theorem State.positionFaulted_collects (s : State) (k : Nat) : s.Collects (s.positionFaulted k) := by
  unfold State.positionFaulted State.abortMotion
  split <;> [exact s.enterFault_collects _ _; exact .refl s]

/-- The FAULT of a position whose orders have been written aborts the motion that stood before. -/
theorem State.OrdersOnly.aborts {s u : State} (orders : s.OrdersOnly u) (timers : s.TimersOnly u) (k : Nat)
    (abortable : s.ixc.state.abortable = true) : s.EntersFault (u.positionFaulted k) (.stationFault k) none :=
  (u.abortMotion_enters _ (by rwa [orders.ixc])).of_orders orders timers

theorem State.OrdersOnly.stands {s u : State} (orders : s.OrdersOnly u) (k : Nat) (still : s.ixc.state.abortable = false) :
    u.positionFaulted k = u := u.abortMotion_rests _ (by rwa [orders.ixc])

/-! ### The start timers (R86, R87) -/

theorem execStartTimeout_live {s : State} (k : Fin 16) (live : s.Live) : exec (.startTimeout k) s = .next (State.closeEvent s
    (if (s.startTimer k.val).isSome && (s.pos k.val).phase == .ordered then s.expireStart k.val else s)) := s.event_live _ live

/-- The expiry write of a sound store at the head of the work list. -/
theorem execStartTimeoutWrite_head {s : State} {k : Fin 16} {ws : List WorkItem} (live : s.Live)
    (head : s.aar.workList = .startExpiry k.val :: ws) (sound : s.rst.errors = []) : exec (.startTimeoutWrite k) s =
      .next (State.closeEvent s ({ s with aar := { s.aar with workList := ws } }.writeNoStart k.val)) := by
  have popped : s.popWork = { s with aar := { s.aar with workList := ws } } := by
    rw [State.popWork, State.onAar, head]; rfl
  have read : s.popWork.readStages [fun _ => positionCells k.val, fun s => s.occupantCells k.val] = s.popWork :=
    State.readStages_sound _ _ _ sound
  rw [exec, execStartTimeoutWrite, s.event_live _ live, if_pos (by rw [head]; rfl), read, popped]

theorem State.writeNoStart_ordered {s : State} {k : Nat} (ordered : (s.pos k).phase = .ordered) :
    s.writeNoStart k = (s.stricken k .noStart).positionFaulted k := by
  have cancels : s.cancelOutstanding k = s.cancelOrder k .missed := by rw [State.cancelOutstanding, ordered]
  rw [State.stricken, cancels]
  exact if_pos (by rw [ordered]; rfl)

theorem State.writeNoStart_rests {s : State} {k : Nat} (other : (s.pos k).phase ≠ .ordered) : s.writeNoStart k = s :=
  if_neg (by simpa using other)

/-- Settles O19: a start timer's expiry joins the work list, and its write cancels an ORDERED order as MISSED and faults the position. -/
theorem startTimeoutFaultsTheUnstartedPosition : Obligations.StartTimeoutFaultsTheUnstartedPosition := by
  intro k s live
  refine ⟨fun runs ordered => ?_, fun off => ?_, fun ws head sound => ⟨fun other => ?_, fun ordered shape => ?_⟩⟩
  · rw [execStartTimeout_live k live, if_pos (by simp [runs, ordered]), State.closeEvent_same s (s.expireStart k.val) rfl]; rfl
  · rw [execStartTimeout_live k live, if_neg (by rcases off with e | e <;> simp [e]), State.closeEvent_same s s rfl]
  · let g : State := { s with aar := { s.aar with workList := ws } }
    have rests : g.writeNoStart k.val = g := State.writeNoStart_rests other
    rw [execStartTimeoutWrite_head live head sound, rests, State.closeEvent_same s g rfl]
  · let g : State := { s with aar := { s.aar with workList := ws } }
    let u := g.stricken k.val .noStart
    have place : k.val < g.rst.positions.length := shape.position k.isLt
    obtain ⟨record, starting, working⟩ := shape.tables k.isLt
    have orders : g.OrdersOnly u := g.stricken_orders k.val _
    have collects : u.Collects (u.positionFaulted k.val) := u.positionFaulted_collects k.val
    have closes := State.closes_closeEvent s (u.positionFaulted k.val)
    have kept := collects.keeps closes
    obtain ⟨here, detail, -, waiting⟩ := kept.positions k.val
    have recorded : u.detail k.val = { s.detail k.val with closing := .missed } :=
      (g.stricken_detail k.val _ record).trans (by rw [show (g.pos k.val).phase = .ordered from ordered]; rfl)
    have stopped := g.stricken_timers k.val .noStart starting working (.inl ordered)
    refine ⟨_, (execStartTimeoutWrite_head live head sound).trans (by rw [State.writeNoStart_ordered (s := g) ordered]),
      here.trans (g.stricken_pos k.val _ place), detail.trans recorded, waiting.trans stopped.1, ?_, fun n => ?_, ?_, ?_, ?_, ?_,
      fun abortable => ?_, fun still => ?_⟩
    · exact kept.elsewhere (g.stricken_elsewhere k.val _)
    · exact (kept.pallet n).trans (g.pallet_stricken k.val _ n)
    · exact { orders.tables.trans kept.tables with }
    · exact orders.lists.trans kept.lists
    · have links : s.LinksKept g := .of_links rfl
      exact ((links.trans orders.frames.links).trans collects.links).closeEvent s
    · rw [closes.wires, collects.wires, orders.pins]
    · exact (orders.aborts (g.stricken_timersOnly k.val _) k.val abortable).alike (.refl g) closes.toAlike
    · rw [orders.stands k.val still] at closes ⊢
      obtain ⟨ixc, btk, wlu, work, -⟩ := orders.motion.trans closes.sameMotion
      exact ⟨ixc, btk, wlu, work⟩

/-! ### STATION FAULT (R83) -/

/-- The fault report of position `k` is kept and counted. -/
def State.reported (s : State) (k code : Nat) : State :=
  s.onDetail k fun d => { d with faultReport := some (code, s.ctm.clock), faultCount := countUp 65535 d.faultCount }

/-- The state in which a STATION FAULT has been written, before it aborts a motion. -/
def State.struck (s : State) (k code : Nat) : State :=
  if (s.pos k).mode = .active ∧ (s.pos k).phase ≠ .fault then (s.reported k code).stricken k (.station code) else s.reported k code

theorem State.faultReport_takes {s : State} {k code : Nat} (member : s.Member k) (low : 1 ≤ code) (high : code ≤ 255) :
    s.faultReport code k = ok (if (s.pos k).mode = .active ∧ (s.pos k).phase ≠ .fault then (s.struck k code).positionFaulted k
      else s.struck k code) := by
  have range : ¬(code = 0 ∨ 255 < code) := by omega
  have taken : s.faultReport code k = ok (if s.active k then (s.reported k code).faultPosition k code else s.reported k code) := by
    rw [State.faultReport, member.passes]
    exact if_neg range
  rw [taken, State.struck]
  by_cases active : (s.pos k).mode = .active
  · by_cases fault : (s.pos k).phase = .fault
    · have stays : (s.reported k code).faultPosition k code = s.reported k code := if_pos (by rw [State.reported, State.onDetail_pos, fault]; rfl)
      simp only [State.active, active, fault, stays, ne_eq, not_true_eq_false, and_false, if_false, ite_self]
    · have enters : (s.reported k code).faultPosition k code = ((s.reported k code).stricken k (.station code)).positionFaulted k :=
        if_neg (by rw [State.reported, State.onDetail_pos]; simpa using fault)
      simp [State.active, active, fault, enters]
  · simp [State.active, active]

section struck
variable (s : State) (k code : Nat)

theorem State.struck_orders : s.OrdersOnly (s.struck k code) := by
  have reports : s.OrdersOnly (s.reported k code) := s.onDetail_orders k _
  unfold State.struck
  split <;> [exact reports.trans (State.stricken_orders _ k _); exact reports]

theorem State.struck_timersOnly : s.TimersOnly (s.struck k code) := by
  unfold State.struck
  split <;> [exact (s.reported k code).stricken_timersOnly k _; exact .refl s]

theorem State.struck_elsewhere : s.SameElsewhere (s.struck k code) k := by
  have reports : s.SameElsewhere (s.reported k code) k := s.onDetail_elsewhere k _
  unfold State.struck
  split <;> [exact reports.trans (State.stricken_elsewhere _ k _); exact reports]

theorem State.struck_pos (h : k < s.rst.positions.length) : (s.struck k code).pos k =
    if (s.pos k).mode = .active ∧ (s.pos k).phase ≠ .fault then { s.pos k with phase := .fault, faultCode := some (.station code) }
    else s.pos k := by
  unfold State.struck
  split <;> [exact (s.reported k code).stricken_pos k _ h; rfl]

/-- A position outside ACTIVE, or in FAULT already, has no order that a STATION FAULT cancels. -/
theorem OrderDetail.afterCancel_unstruck (d : OrderDetail) {p : Position} (h : ¬(p.mode = .active ∧ p.phase ≠ .fault)) :
    (if p.mode = .active then d.afterCancel p.phase else d) = d := by
  split
  · next active =>
    have fault : p.phase = .fault := Classical.not_not.mp fun c => h ⟨active, c⟩
    rw [fault]; rfl
  · rfl

theorem State.struck_detail (hd : k < s.rst.details.length) : (s.struck k code).detail k =
    { (if (s.pos k).mode = .active then (s.detail k).afterCancel (s.pos k).phase else s.detail k) with
      faultReport := some (code, s.ctm.clock), faultCount := countUp 65535 (s.detail k).faultCount } := by
  have kept : (s.reported k code).detail k =
      { s.detail k with faultReport := some (code, s.ctm.clock), faultCount := countUp 65535 (s.detail k).faultCount } :=
    s.detail_onDetail_self _ hd
  unfold State.struck
  split
  · next faults =>
    rw [(s.reported k code).stricken_detail k _ ((s.onDetail_length k _).symm ▸ hd), kept, if_pos faults.1]
    change OrderDetail.afterCancel _ (s.pos k).phase = _
    cases (s.pos k).phase <;> rfl
  · next spared => rw [OrderDetail.afterCancel_unstruck _ spared, kept]

theorem State.pallet_struck (n : Nat) : (s.struck k code).pallet n = if (s.pos k).mode = .active then s.afterCancel k n else s.pallet n := by
  unfold State.struck
  split
  · next faults =>
    rw [if_pos faults.1]
    exact (s.reported k code).pallet_stricken k _ n
  · next spared =>
    split
    · next active =>
      have fault : (s.pos k).phase = .fault := Classical.not_not.mp fun c => spared ⟨active, c⟩
      simp only [State.afterCancel, fault, ite_self]; rfl
    · rfl

theorem State.struck_timers (ht : k < s.ctm.startTimers.length) (hw : k < s.ctm.work.length) (active : (s.pos k).mode = .active)
    (outstanding : (s.pos k).phase = .ordered ∨ (s.pos k).phase = .working) :
    (s.struck k code).startTimer k = none ∧ ((s.struck k code).work k).running = none := by
  have away : (s.pos k).phase ≠ .fault := by rcases outstanding with e | e <;> rw [e] <;> nofun
  rw [State.struck, if_pos ⟨active, away⟩]
  exact (s.reported k code).stricken_timers k _ ht hw outstanding
end struck

/-! ### RECOVERED (R84) -/

theorem Position.recovered_eq (p : Position) :
    p.recovered = { p with phase := if p.orderKind = .noOrder then .idle else .done, faultCode := none } := by
  simp [Position.recovered]

theorem State.recoveredReport_rests {s : State} {k : Nat} (member : s.Member k)
    (other : (s.pos k).phase ≠ .fault ∨ (s.pos k).faultCode = some .selfTest) : s.recoveredReport k = refuse s .wrongState := by
  rw [State.recoveredReport, member.passes]
  exact if_neg (by rcases other with e | e <;> simp [e])

/-- A RECOVERED that its checks let through (R84). -/
theorem recovered_leaves {k : Fin 16} (tag : Byte) {s : State} (hr : s.Ready (.sl k)) (member : s.Member k.val) (shape : s.Shaped)
    (fault : (s.pos k.val).phase = .fault) (other : (s.pos k.val).faultCode ≠ some .selfTest) :
    ∃ t, exec (.recovered (.sl k) tag) s = .next t ∧ s.Answered t (.sl k) tag .ok [] ∧ t.pos k.val = (s.pos k.val).recovered ∧
      t.detail k.val = s.detail k.val ∧ s.SameElsewhere t k.val ∧ t.rst.slots = s.rst.slots ∧ s.SameTables t ∧ s.SameLists t ∧
      (¬(s.onPos k.val fun _ => t.pos k.val).Released → s.SameMotion t) := by
  let g := s.granted (.recovered (.sl k) tag) (.sl k)
  let u := g.onPos k.val Position.recovered
  have place : k.val < s.rst.positions.length := shape.position k.isLt
  obtain ⟨t, v, next, answered, tests, waits, closes⟩ := State.grant_collects (tag := tag) (cells := positionReads (.sl k)) (p := .station)
    (op := fun s => s.atStation (.sl k) fun k s => s.recoveredReport k) (u := u) hr rfl
    (State.recoveredReport_takes (s := g) member fault other) (g.onPos_orders k.val _).frames hr.1.2
  have kept := tests.keeps closes
  obtain ⟨here, detail, -, -⟩ := kept.positions k.val
  have elsewhere : g.SameElsewhere u k.val := g.onPos_elsewhere k.val _
  refine ⟨t, next, answered, here.trans (g.pos_onPos_self _ place), detail, kept.elsewhere elsewhere, kept.slots, { kept.tables with },
    kept.lists, fun still => ?_⟩
  have barred : ¬u.Released := fun c =>
    still (here ▸ (State.released_at (s := s) place (fun j hj => (elsewhere j hj).1) rfl rfl rfl).mp c)
  rw [waits barred] at closes
  exact closes.sameMotion

/-- Settles O45: STATION FAULT keeps its report and faults an ACTIVE position; RECOVERED leaves FAULT. -/
theorem stationFaultIsEnteredAndLeft : Obligations.StationFaultIsEnteredAndLeft := by
  intro k tag code s hr member shape l p faults
  have place : k.val < s.rst.positions.length := shape.position k.isLt
  obtain ⟨record, starting, working⟩ := shape.tables k.isLt
  refine ⟨fun low high => ?_, fun other => ?_, fun fault other => ?_⟩
  · let g := s.granted (.stationFault l tag code) l
    let u := g.struck k.val code
    let v := if faults then u.positionFaulted k.val else u
    have orders : g.OrdersOnly u := g.struck_orders k.val code
    have collects : u.Collects v := by
      unfold v
      split <;> [exact u.positionFaulted_collects k.val; exact .refl u]
    obtain ⟨t, next, answered, closes⟩ := State.grant_does (tag := tag) (p := .station) (cells := occupantReads l)
      (op := fun s => s.atStation l fun k s => s.faultReport code k) (u := v) hr rfl (State.faultReport_takes (s := g) member low high)
      (orders.frames.trans collects.frames)
    have kept := collects.keeps closes
    obtain ⟨here, detail, running, waiting⟩ := kept.positions k.val
    have stopped := g.struck_timers k.val code starting working
    refine ⟨t, next, answered, here.trans (g.struck_pos k.val code place), detail.trans (g.struck_detail k.val code record), fun n => ?_,
      fun active ordered => ?_, fun active working => ?_, ?_, ?_, ?_, fun struck abortable => ?_, fun spared => ?_⟩
    · exact (kept.pallet n).trans (g.pallet_struck k.val code n)
    · exact waiting.trans (stopped active (.inl ordered)).1
    · rw [running]; exact (stopped active (.inr working)).2
    · exact kept.elsewhere (g.struck_elsewhere k.val code)
    · exact { orders.tables.trans kept.tables with }
    · exact orders.lists.trans kept.lists
    · have aborted : v = u.positionFaulted k.val := if_pos struck
      rw [aborted] at closes
      exact { (orders.aborts (g.struck_timersOnly k.val code) k.val abortable).alike (.refl g) closes.toAlike with }
    · have rests : v = u := by
        rcases spared with spared | still
        · exact if_neg spared
        · exact (congrArg (fun x => if faults then x else u) (orders.stands k.val still)).trans (ite_self u)
      rw [rests] at closes
      exact orders.motion.trans closes.sameMotion
  · exact State.grant_answers hr rfl (State.recoveredReport_rests (s := s.granted (.recovered l tag) l) member other)
  · obtain ⟨t, next, answered, entry, rest⟩ := recovered_leaves tag hr member shape fault other
    exact ⟨t, next, answered, entry.trans p.recovered_eq, rest⟩

end Sys2Proof.Machine
end

section
/-! SUPPORT. The end of an order by a taken result, and the CLEAR of a PROCESS or CHECK order (O39). -/

namespace Sys2Proof.Machine

/-! ### What the collection test leaves of the counter and the statistics -/

/-- A gating source that is counted changes gating counts only (R175). -/
theorem State.recordGate_stats (s : State) (g : Gate) (j : Nat) : ∃ n, (s.recordGate g).stats j = { s.stats j with gating := n } := by
  cases g with
  | home | supervisor | drive | stop => exact ⟨_, rfl⟩
  | position k =>
    let counted := s.onStats k fun x => { x with gating := countUp 65535 x.gating }
    have same : (s.recordGate (.position k)).stats j = counted.stats j := rfl
    rw [same]
    by_cases e : j = k
    · subst e
      by_cases h : j < s.ctm.stats.length
      · exact ⟨_, s.stats_onStats_self _ h⟩
      · have length : counted.ctm.stats.length = s.ctm.stats.length := List.length_modify _ _ _
        refine ⟨_, (?_ : counted.stats j = s.stats j)⟩
        rw [State.stats, State.stats, List.getD_eq_default s.ctm.stats _ (Nat.not_lt.mp h),
          List.getD_eq_default counted.ctm.stats _ (by rw [length]; exact Nat.not_lt.mp h)]
    · exact ⟨_, s.stats_onStats_ne _ e⟩

theorem State.testCollection_counts {s : State} (g : Gate) (live : s.Live) (links : s.liu.links.length = 18) (captures : s.btk.captures.length = 15) :
    (s.testCollection g).btk.counter = s.btk.counter ∧ ∀ j, ∃ n, (s.testCollection g).stats j = { s.stats j with gating := n } := by
  by_cases released : s.Released
  · have completes := State.testCollection_completes g released live links captures
    refine ⟨completes.begins.2.2.1, fun j => ?_⟩
    obtain ⟨n, gate⟩ := s.recordGate_stats g j
    refine ⟨n, Eq.trans ?_ gate⟩
    rw [State.stats, completes.times]; rfl
  · rw [s.testCollection_waits g released]
    exact ⟨rfl, fun _ => ⟨_, rfl⟩⟩

/-! ### The end of an order (R81, R169) -/

/-- Position `k`, its order detail, its timers and its statistics at the end of an order. -/
theorem State.ended_at (s : State) {k : Nat} (r : Result) (h : k < s.rst.positions.length) (hd : k < s.rst.details.length)
    (ht : k < s.ctm.startTimers.length) (hw : k < s.ctm.work.length) (hs : k < s.ctm.stats.length) :
    (s.ended k r).pos k = { s.pos k with phase := .done } ∧
      (s.ended k r).detail k = { s.detail k with closing := .cleared, resultTaken := some r } ∧
      (s.ended k r).work k = { s.work k with running := none, limit := none } ∧ (s.ended k r).startTimer k = none ∧
      (s.ended k r).stats k = (s.stats k).take ((s.work k).running.getD 0) := by
  let counted := s.onStats k fun x => x.take ((s.work k).running.getD 0)
  obtain ⟨starting, working⟩ := counted.stopTimers_timers (k := k) ht hw
  exact ⟨s.pos_onPos_self _ h, s.detail_onDetail_self _ hd, working, starting, s.stats_onStats_self _ hs⟩

theorem State.ended_orders (s : State) (k : Nat) (r : Result) : s.OrdersOnly (s.ended k r) := by
  have counted : s.OrdersOnly (s.onStats k fun x => x.take ((s.work k).running.getD 0)) :=
    ⟨⟨_, _, _, rfl⟩, rfl, rfl, rfl, rfl, rfl, rfl, rfl, rfl, rfl, rfl, rfl⟩
  exact ((counted.trans (State.stopTimers_orders _ k)).trans (State.onPos_orders _ k _)).trans (State.onDetail_orders _ k _)

theorem State.ended_elsewhere (s : State) (k : Nat) (r : Result) : s.SameElsewhere (s.ended k r) k := by
  have counted : s.SameElsewhere (s.onStats k fun x => x.take ((s.work k).running.getD 0)) k := fun _ _ => ⟨rfl, rfl, rfl, rfl⟩
  exact ((counted.trans (State.stopTimers_elsewhere _ k)).trans (State.onPos_elsewhere _ k _)).trans (State.onDetail_elsewhere _ k _)

/-- What a taken result writes before it ends the order: of the machine at most pallet records, the lists' log and schedule, and
attentions. -/
structure State.RecordsOnly (s w : State) : Prop extends s.Records w where
  wlu : w.wlu = s.wlu
  aar : w.aar = s.aar
  pending : w.pending = s.pending

theorem State.Records.tables {s w : State} (h : s.Records w) : s.SameTables w := by
  obtain ⟨m, lg, sch, n, e, store⟩ := h.store
  constructor <;> rw [store]

theorem State.Records.entries {s w : State} (h : s.Records w) (k : Nat) : s.SameElsewhere w k := fun j _ => by
  obtain ⟨m, lg, sch, n, e, store⟩ := h.store
  simp only [State.pos, State.detail, State.work, State.startTimer, store, h.ctm, and_self]

theorem State.RecordsOnly.motion {s w : State} (h : s.RecordsOnly w) : s.SameMotion w := by
  obtain ⟨m, lg, sch, n, e, store⟩ := h.store
  exact ⟨h.ixc, h.btk, h.wlu, by rw [h.aar], by rw [store]⟩

theorem State.RecordsOnly.frames {s w : State} (h : s.RecordsOnly w) : s.Frames w :=
  ⟨by rw [h.aar], h.pins, h.pending, .of_links h.links⟩

/-- The tables that hold an entry for each position are those of the state before the result. -/
theorem State.Records.ended_at {s w : State} (h : s.Records w) (shape : s.Shaped) {k : Nat} (hk : k < 16) (r : Result) :
    (w.ended k r).pos k = { s.pos k with phase := .done } ∧
      (w.ended k r).detail k = { s.detail k with closing := .cleared, resultTaken := some r } ∧
      (w.ended k r).work k = { s.work k with running := none, limit := none } ∧ (w.ended k r).startTimer k = none ∧
      (w.ended k r).stats k = (s.stats k).take ((s.work k).running.getD 0) := by
  obtain ⟨m, lg, sch, n, e, store⟩ := h.store
  have positions : w.rst.positions = s.rst.positions := by rw [store]
  have details : w.rst.details = s.rst.details := by rw [store]
  obtain ⟨record, starting, working⟩ := shape.tables hk
  have entry := w.ended_at (k := k) r (by rw [positions]; exact shape.position hk) (by rwa [details]) (by rwa [h.ctm]) (by rwa [h.ctm])
    (by rw [h.ctm]; exact shape.stat hk)
  simpa only [State.pos, State.detail, State.work, State.stats, positions, details, h.ctm] using entry

/-- The state that a grant leaves in which a taken result has ended the order of position `k` (R81, R169). -/
theorem State.RecordsOnly.orderEnded {s w t : State} {c : Instr} {l : Link} {k : Nat} {r : Result} (records : (s.granted c l).RecordsOnly w)
    (hr : s.Ready l) (shape : s.Shaped) (hk : k < 16) (closes : ((w.ended k r).testCollection (.position k)).Closes t) :
    s.OrderEnded t k r := by
  let g := s.granted c l
  let u := w.ended k r
  have orders : w.OrdersOnly u := w.ended_orders k r
  have kept : u.Keeps t := (u.testCollection_collects _).keeps closes
  obtain ⟨here, detail, running, waiting⟩ := kept.positions k
  obtain ⟨here', detail', running', waiting', taken⟩ := records.ended_at (s := g) shape hk r
  have frames : g.Frames u := records.frames.trans orders.frames
  have live : u.Live := (congrArg Pins.resetInput frames.wires).trans hr.1.1
  have links : u.liu.links.length = 18 := frames.links.length.trans ((s.onLink_length l _).trans hr.2.1)
  have btk : u.btk = s.btk := orders.btk.trans records.btk
  obtain ⟨counter, statistics⟩ := State.testCollection_counts (.position k) live links (by rw [btk]; exact shape.captured)
  have elsewhere : g.SameElsewhere u k := (records.entries k).trans (w.ended_elsewhere k r)
  refine ⟨here.trans here', detail.trans detail', ⟨running.trans running', waiting.trans waiting'⟩, ?_, kept.elsewhere elsewhere, ?_,
    fun still => ?_, ?_⟩
  · obtain ⟨n, gated⟩ := statistics k
    rw [State.stats, closes.ctm]
    change ((u.testCollection (.position k)).stats k).last = _ ∧ ((u.testCollection (.position k)).stats k).overruns = _ ∧
      ((u.testCollection (.position k)).stats k).longest = _
    rw [gated, taken]
    exact ⟨rfl, rfl, rfl⟩
  · exact { (records.tables.trans orders.tables).trans kept.tables with }
  · have geometry : u.rst.geometry = s.rst.geometry := orders.tables.geometry.trans records.tables.geometry
    have barred : ¬u.Released := fun c => still (here ▸ (State.released_at (s := s) (shape.position hk) (fun j hj => (elsewhere j hj).1)
      (orders.ixc.trans records.ixc) geometry frames.wires).mp c)
    rw [u.testCollection_waits _ barred] at closes
    exact (records.motion.trans orders.motion).trans closes.sameMotion
  · rw [closes.btk, counter, btk]

/-- A grant whose operation records a taken result and ends the order of position `k` with it. -/
theorem State.grant_finishes {s w : State} {i : Instr} {p : Permit} {l : Link} {tag : Byte} {cells : List (State → List Cell)}
    {op : State → State × Reply} {k : Nat} {r : Result} {d : List Byte} (hr : s.Ready l) (hp : p.refusal l = none) (shape : s.Shaped)
    (hk : k < 16) (records : (s.granted i l).RecordsOnly w) (hop : op (s.granted i l) = ok (w.finishOrder k r) d) :
    ∃ t, s.grant i p l tag cells op = .next t ∧ s.Answered t l tag .ok d ∧ s.OrderEnded t k r ∧ w.SameLists t ∧
      ∀ n, t.pallet n = w.pallet n := by
  have sound : w.rst.errors = [] := records.sound hr.1.2
  have orders := w.ended_orders k r
  rw [w.finishOrder_eq, State.collect_sound _ _ (orders.errors.trans sound)] at hop
  have tests := (w.ended k r).testCollection_collects (.position k)
  obtain ⟨t, next, answered, closes⟩ := State.grant_does (tag := tag) (cells := cells) hr hp hop
    ((records.frames.trans orders.frames).trans tests.frames)
  have kept := tests.keeps closes
  exact ⟨t, next, answered, records.orderEnded hr shape hk closes, orders.lists.trans kept.lists, kept.pallet⟩

/-! ### CLEAR of a PROCESS or CHECK order (R81) -/

theorem State.recordResult_only (s : State) (k g : Nat) (r : HistoryResult) (w : Option Nat) : s.RecordsOnly (s.recordResult k g r w) := by
  have orders := s.recordResult_orders k g r w
  exact ⟨s.recordResult_records k g r w, orders.wlu, orders.aar, orders.pending⟩

/-- The history result of a CLEAR's result, where it fits the order kind (R31, R81). -/
def fittingResult (o : OrderKind) (r : PlainResult) : Option HistoryResult :=
  match o, r with
  | .process, .done => some .done | .process, .incomplete => some .incomplete | .process, .scrapped => some .scrapped
  | .check, .passed => some .passed | .check, .failed => some .failed | _, _ => none

theorem fittingResult_iff (o : OrderKind) (r : PlainResult) (h : HistoryResult) :
    fittingResult o r = some h ↔ plainHistory r = some (o, h) := by
  cases r <;> cases o <;> simp [fittingResult, plainHistory]

theorem State.plainFits_iff (s : State) (r : PlainResult) (k : Nat) :
    s.plainFits r k = true ↔ (fittingResult (s.pos k).orderKind r).isSome = true := by
  rw [State.plainFits, Option.any_eq_true, Option.isSome_iff_exists]
  simp only [fittingResult_iff, beq_iff_eq]
  constructor
  · rintro ⟨⟨o, h⟩, named, rfl⟩
    exact ⟨h, named⟩
  · rintro ⟨h, named⟩
    exact ⟨_, named, rfl⟩

/-- Settles O39: a fitting CLEAR records its result and work time and ends the order; any other is refused. -/
theorem clearRecordsTheResult : Obligations.ClearRecordsTheResult := by
  intro k tag o r s hr reports working l fit
  let g := s.granted (.clear l tag o (some r)) l
  have same : fit = fittingResult (g.pos k.val).orderKind r := rfl
  have fits := State.plainFits_iff g r k.val
  have answer : g.clearPlain o (some r) k.val = if g.plainFits r k.val then State.clearWork r k.val g else refuse g .range :=
    State.clearReport_working (s := g) reports working (plainResult r) (State.plainFits r) (State.clearWork r) fun _ => []
  refine ⟨fun unfit => ?_, fun h fit shape => ?_⟩
  · rw [same] at unfit
    exact State.grant_answers hr rfl (answer.trans (if_neg (by rw [fits, unfit]; nofun)))
  · rw [same] at fit
    have taken : State.clearWork r k.val g = ok ((g.recordResult k.val ((s.pos k.val).program.getD 0) h
        (some ((s.work k.val).running.getD 0))).finishOrder k.val (plainResult r)) := by
      rw [State.clearWork, (fittingResult_iff _ _ _).mp fit]; rfl
    obtain ⟨t, next, answered, ended, lists, pallets⟩ := State.grant_finishes (tag := tag) (p := .station) (cells := occupantReads l)
      (op := fun s => s.atStation l fun k s => s.clearPlain o (some r) k) hr rfl shape k.isLt (g.recordResult_only k.val _ h _)
      (answer.trans ((if_pos (by rw [fits, fit]; rfl)).trans taken))
    refine ⟨t, next, answered, ended, (g.recordResult_orders k.val _ h _).lists.trans lists, fun n => ?_⟩
    exact (pallets n).trans (g.pallet_recordResult k.val _ h _ n)

end Sys2Proof.Machine
end

section
/-! SUPPORT. SET ROUTING, SET BUDGET, CLEAR TIMING and ACKNOWLEDGE (O59). -/

namespace Sys2Proof.Machine

/-! ### SET ROUTING (R72, R73) -/

/-- The refusals of SET ROUTING in their order, and where there is none (R73). -/
theorem State.routingRefusal_cases (s : State) (v k g : Nat) :
    let fits := 1 ≤ v ∧ v ≤ 8 ∧ k ≤ 15 ∧ g ≤ 15
    let inner := (s.pos k).kind = .process ∨ (s.pos k).kind = .check
    let foreign := g ≠ 0 ∧ ∃ j, (s.pos k).joined = some j ∧ member j.programs g = false
    (¬fits → s.routingRefusal v k g = some .range) ∧
    (fits → s.rst.geometry = none → s.routingRefusal v k g = some .geometryAbsent) ∧
    (fits → s.rst.geometry.isSome = true →
      ((s.pos k).kind = .unused → s.routingRefusal v k g = some .notInLine) ∧
      ((s.pos k).kind = .load ∨ (s.pos k).kind = .unload → s.routingRefusal v k g = some .range) ∧
      (inner → s.routingRefusal v k g = if foreign then some .programUnknown else none)) := by
  intro fits inner foreign
  have range : v = 0 ∨ 8 < v ∨ 15 < k ∨ 15 < g ↔ ¬fits := by simp only [fits]; omega
  have unknown : (g != 0 && (s.pos k).joined.any fun j => !member j.programs g) = true ↔ foreign := by
    simp [foreign, Option.any_eq_true]
  unfold State.routingRefusal State.unused
  simp only [range, unknown]
  refine ⟨fun h => if_pos h, fun h absent => ?_, fun h present => ⟨fun unused => ?_, fun ends => ?_, fun inside => ?_⟩⟩
  · rw [if_neg (not_not.mpr h), absent]; rfl
  · rw [if_neg (not_not.mpr h), if_neg (by simpa [Option.isSome_iff_ne_none] using present), unused]; rfl
  · rw [if_neg (not_not.mpr h), if_neg (by simpa [Option.isSome_iff_ne_none] using present)]
    rcases ends with e | e <;> rw [e] <;> rfl
  · rw [if_neg (not_not.mpr h), if_neg (by simpa [Option.isSome_iff_ne_none] using present)]
    rcases inside with e | e <;> rw [e] <;> rfl

theorem State.setRouting_refuses {s : State} {v k g : Nat} {r : Reason} (h : s.routingRefusal v k g = some r) :
    s.setRouting v k g = refuse s r := by
  rw [State.setRouting, h]

/-- The routing entries after one of them has been written (R72). -/
theorem State.routing_set (s : State) {v k : Nat} (g : Nat) (hv : 1 ≤ v ∧ v ≤ 8) (hk : k ≤ 15) (length : s.rst.routing.length = 128)
    {x j : Nat} (hx : 1 ≤ x) (hj : j ≤ 15) :
    (s.onRst fun r => { r with routing := r.routing.set ((v - 1) * 16 + k) g }).routing x j = if x = v ∧ j = k then g else s.routing x j := by
  split
  · next e =>
    obtain ⟨rfl, rfl⟩ := e
    exact getD_set_self _ _ _ _ (by omega)
  · next e => exact getD_set_ne _ _ _ (by omega)

theorem setRouting_taken (tag : Byte) {s : State} {v k g : Nat} (hr : s.Ready .supl) (taken : s.routingRefusal v k g = none) :
    exec (.setRouting .supl tag v k g) s =
      .next ((s.onRst fun r => { r with routing := r.routing.set ((v - 1) * 16 + k) g }).answered .supl tag .ok (u8 v ++ u8 k ++ u8 g)) := by
  refine (s.grant_ready _ .supervisor .supl tag _ _ hr rfl).trans (congrArg _ ?_)
  have taken : (s.granted (.setRouting .supl tag v k g) .supl).routingRefusal v k g = none := taken
  simp only [State.setRouting, taken]
  exact State.closeGrant_onRst _ _ _ _ _ (State.positions_content rfl rfl fun _ => rfl)

/-! ### SET BUDGET (R170, R171) -/

theorem State.checkOverrun_stats_ne (s : State) {j k : Nat} (h : j ≠ k) : (s.checkOverrun k).stats j = s.stats j := by
  have raise : (s.raiseOverrun k).stats j = s.stats j := by
    unfold State.raiseOverrun
    split
    · rfl
    · exact (s.onWork k fun w => { w with overrunTaken := true }).stats_onStats_ne _ h
  unfold State.checkOverrun
  split
  · split
    · exact raise
    · rfl
  · rfl

theorem State.reformLimit_stats_ne (s : State) {j k : Nat} (h : j ≠ k) : (s.reformLimit k).stats j = s.stats j := by
  unfold State.reformLimit
  split
  · exact State.checkOverrun_stats_ne _ h
  · rfl

/-- The budget of position `k` and program `g` is written. -/
def State.budgeted (s : State) (k g v : Nat) : State := s.onRst fun r => { r with budgets := r.budgets.set (k * 15 + (g - 1)) v }

/-- The budgets after one of them has been written (R170). -/
theorem State.budget_budgeted (s : State) {k g : Nat} (v : Nat) (hk : k ≤ 15) (low : 1 ≤ g) (high : g ≤ 15)
    (length : s.rst.budgets.length = 240) {j x : Nat} (hx : 1 ≤ x) (hx' : x ≤ 15) :
    (s.budgeted k g v).budget j x = if j = k ∧ x = g then v else s.budget j x := by
  split
  · next e =>
    obtain ⟨rfl, rfl⟩ := e
    exact getD_set_self _ _ _ _ (by omega)
  · next e => exact getD_set_ne _ _ _ (by omega)

/-- The state that a SET BUDGET leaves: a running timer of the pair takes its limit from the new budget (R171). -/
def State.rebudgeted (s : State) (k g v : Nat) : State :=
  if (s.pos k).program = some g then (s.budgeted k g v).reformLimit k else s.budgeted k g v

theorem State.setBudget_takes {s : State} {k g : Nat} (b : Nat) (hk : k ≤ 15) (low : 1 ≤ g) (high : g ≤ 15) (sound : s.rst.errors = []) :
    s.setBudget k g b =
      ok (s.rebudgeted k g (min b 600000)) (u32 (min b 600000) ++ optBytes u32 (budgetLimit s.tolerance (min b 600000))) := by
  have range : ¬(15 < k ∨ g = 0 ∨ 15 < g) := by omega
  have written := State.rewriteCells_sound (s := s.budgeted k g (min b 600000)) sound [⟨.budget, k * 15 + (g - 1)⟩]
  rw [State.setBudget, if_neg range]
  exact congrArg (fun t : State => ok (if (t.pos k).program = some g then t.reformLimit k else t)
    (u32 (min b 600000) ++ optBytes u32 (budgetLimit s.tolerance (min b 600000)))) written

section rebudgeted
variable (s : State) (k g v : Nat)

theorem State.rebudgeted_direct : (s.budgeted k g v).DirectOnly (s.rebudgeted k g v) := by
  unfold State.rebudgeted
  split <;> [exact State.reformLimit_direct _ k; exact .refl _]

theorem State.rebudgeted_elsewhere {j : Nat} (h : j ≠ k) :
    (s.rebudgeted k g v).work j = s.work j ∧ (s.rebudgeted k g v).stats j = s.stats j := by
  unfold State.rebudgeted
  split
  · exact ⟨State.reformLimit_work_ne _ h, State.reformLimit_stats_ne _ h⟩
  · exact ⟨rfl, rfl⟩

/-- A timer that does not run, or runs for another program, keeps its limit. -/
theorem State.rebudgeted_work_other (h : ¬((s.pos k).program = some g ∧ (s.work k).running.isSome = true)) :
    (s.rebudgeted k g v).work k = s.work k := by
  unfold State.rebudgeted
  split
  · next named =>
    have still : (s.budgeted k g v).reformLimit k = s.budgeted k g v := if_neg fun runs => h ⟨named, runs⟩
    rw [still]; rfl
  · rfl

/-- The limit of the pair's order under the new budget. -/
theorem State.orderLimit_budgeted {k g : Nat} (hk : k ≤ 15) (low : 1 ≤ g) (high : g ≤ 15) (length : s.rst.budgets.length = 240)
    (named : (s.pos k).program = some g) : (s.budgeted k g v).orderLimit k =
      if (s.pos k).orderKind = .process ∨ (s.pos k).orderKind = .check then budgetLimit s.tolerance v else none := by
  have program : ((s.budgeted k g v).pos k).program = some g := named
  have budget : (s.budgeted k g v).budget k g = v := (s.budget_budgeted v hk low high length low high).trans (if_pos ⟨rfl, rfl⟩)
  rw [State.orderLimit_eq, program]
  dsimp only
  rw [budget]; rfl

theorem State.rebudgeted_work (named : (s.pos k).program = some g) (hw : k < s.ctm.work.length) :
    (s.rebudgeted k g v).work k = (s.work k).reformed ((s.budgeted k g v).orderLimit k) := by
  rw [State.rebudgeted, if_pos named]
  exact State.reformLimit_work (s := s.budgeted k g v) hw
end rebudgeted

/-- A SET BUDGET that its checks let through. -/
theorem setBudget_taken (tag : Byte) {k g : Nat} (b : Nat) {s : State} (hr : s.Ready .supl) (hk : k ≤ 15) (low : 1 ≤ g) (high : g ≤ 15) :
    ∃ t, exec (.setBudget .supl tag k g b) s = .next t ∧
      s.Answered t .supl tag .ok (u32 (min b 600000) ++ optBytes u32 (budgetLimit s.tolerance (min b 600000))) ∧
      ((s.granted (.setBudget .supl tag k g b) .supl).rebudgeted k g (min b 600000)).Closes t := by
  let q := s.granted (.setBudget .supl tag k g b) .supl
  have direct := q.rebudgeted_direct k g (min b 600000)
  exact State.grant_does (tag := tag) (p := .supervisor) (cells := [fun _ => [⟨.transfer, 8⟩, ⟨.positionTracking, k⟩]])
    (op := fun s => s.setBudget k g b) hr rfl (q.setBudget_takes b hk low high hr.1.2)
    ⟨direct.pointer, direct.pins, direct.pending, .of_links direct.links⟩

/-! ### ACKNOWLEDGE (R189) -/

theorem namesReflecting_iff (m : Mask) : namesReflecting m = true ↔ m.getLsbD 14 = true ∨ m.getLsbD 9 = true := Bool.or_eq_true_iff

/-- Settles O59: SET ROUTING, SET BUDGET, CLEAR TIMING and ACKNOWLEDGE, their refusals in order and what they write. -/
theorem tablesAndTimingAreWritten : Obligations.TablesAndTimingAreWritten := by
  intro tag v k g s hr refused route fits inner foreign
  obtain ⟨range, absent, present⟩ := s.routingRefusal_cases v k g
  have refuses : ∀ {r}, s.routingRefusal v k g = some r → route = refused r := fun h =>
    State.grant_answers hr rfl (State.setRouting_refuses (s := s.granted (.setRouting .supl tag v k g) .supl) h)
  refine ⟨fun h => refuses (range h), fun h a => refuses (absent h a), fun h p u => refuses ((present h p).1 u),
    fun h p e => refuses ((present h p).2.1 e), fun h p i x => refuses (((present h p).2.2 i).trans (if_pos x)),
    fun h p i x length => ?_, fun b => ⟨fun out => ?_, fun hk low high length shape => ?_⟩, ?_, fun m => ⟨fun named => ?_, fun free => ?_⟩⟩
  · exact ⟨_, setRouting_taken tag hr (((present h p).2.2 i).trans (if_neg x)),
      fun y j hy _ hj => s.routing_set g ⟨h.1, h.2.1⟩ h.2.2.1 length hy hj⟩
  · exact State.grant_answers hr rfl (if_pos out)
  · intro taken limit formed
    let q := s.granted (.setBudget .supl tag k g b) .supl
    let u := q.rebudgeted k g taken
    have direct : (q.budgeted k g taken).DirectOnly u := q.rebudgeted_direct k g taken
    obtain ⟨t, next, answered, closes⟩ := setBudget_taken tag b hr hk low high
    have store : t.rst = (q.budgeted k g taken).rst := closes.rst.trans direct.rst
    have timers : ∀ j, t.work j = u.work j ∧ t.stats j = u.stats j := fun j => by
      rw [State.work, State.stats, closes.ctm]; exact ⟨rfl, rfl⟩
    refine ⟨t, next, answered, fun j x _ hx hx' => ?_, ?_, fun j hj => ?_, fun other => ?_, fun named => ?_, ?_, ?_, ?_⟩
    · rw [State.budget, store]
      exact q.budget_budgeted taken hk low high length hx hx'
    · rw [store]; rfl
    · obtain ⟨work, stats⟩ := q.rebudgeted_elsewhere k g taken hj
      exact ⟨(timers j).1.trans work, (timers j).2.trans stats⟩
    · exact (timers k).1.trans (q.rebudgeted_work_other k g taken other)
    · obtain ⟨program, runs⟩ := named
      have reforms : t.work k = (s.work k).reformed limit := by
        rw [(timers k).1, q.rebudgeted_work k g taken program (shape.tables (by omega)).2.2,
          q.orderLimit_budgeted taken hk low high length program]
        rfl
      obtain ⟨running, limited, overrun⟩ := (s.work k).reformed_spec limit
      rw [if_pos runs] at limited
      rw [limited] at overrun
      rw [reforms]
      exact ⟨limited, running, overrun⟩
    · exact closes.ixc.trans direct.ixc
    · exact closes.btk.trans direct.btk
    · exact closes.wlu.trans direct.wlu
  · exact (State.grant_leads (u := s.onCtm Ctm.clearStatistics) (d := []) hr rfl rfl).trans (congrArg _ (State.replied_same _ _ _ _ rfl))
  · exact State.grant_answers hr rfl (if_pos ((namesReflecting_iff m).mpr named))
  · let q := s.granted (.acknowledge .supl tag m) .supl
    obtain ⟨t, next, answered, closes⟩ := State.grant_does (tag := tag) (p := .supervisor) (cells := []) (op := fun s => s.acknowledge m)
      (u := q.attend fun a => a.clearNamed m) hr rfl (if_neg (mt (namesReflecting_iff m).mp free)) ⟨rfl, rfl, rfl, .of_links rfl⟩
    exact ⟨t, _, next, answered, closes.rst, closes.ixc, closes.btk, closes.wlu, closes.ctm, closes.work, closes.attentions⟩

end Sys2Proof.Machine
end

section
/-! SUPPORT. The scrubber on a lost tracking cell, on a lost order detail cell, and on both of one position (O27). -/

namespace Sys2Proof.Machine

/-! ### Reading a store whose errors all lie among the cells that are repaired -/

/-- Every cell with an error is lost, and `bad` names them. -/
abbrev State.Lost (s : State) (bad : List Cell) : Prop := s.rst.errors = bad.map fun c => (c, CellError.uncorrectable)

theorem State.Lost.correctable {s : State} {bad : List Cell} (h : s.Lost bad) (cells : List Cell) : s.found .correctable cells = [] := by
  rw [State.found, h, List.filter_eq_nil_iff.mpr fun e he => ?_]
  · rfl
  · obtain ⟨c, -, rfl⟩ := List.mem_map.mp he
    simp

/-- The lost cells that a grant reaches are repaired in region order (R160). -/
theorem State.Lost.found {s : State} {bad : List Cell} (h : s.Lost bad) {cells : List Cell} (reached : ∀ c ∈ bad, c ∈ s.readSet cells) :
    s.found .uncorrectable cells = sortCells bad := by
  rw [State.found, h, List.filter_eq_self.mpr fun e he => ?_, List.map_map]
  · exact congrArg sortCells (List.map_id' bad)
  · obtain ⟨c, hc, rfl⟩ := List.mem_map.mp he
    simpa using reached c hc

/-- A store whose lost cells have all been written is sound. -/
theorem State.Lost.rewritten {s : State} {bad : List Cell} (h : s.Lost bad) : (s.rewriteCells bad).rst.errors = [] := by
  refine List.filter_eq_nil_iff.mpr fun e he => ?_
  rw [h] at he
  obtain ⟨c, hc, rfl⟩ := List.mem_map.mp he
  simpa using hc

/-- Repairs outside the pallet slots, the two lists and the transfer settings close up no list and write no direct setting. -/
theorem State.afterRepairs_plain (s : State) (r : Rst) {bad : List Cell}
    (plain : ∀ c ∈ bad, c.region ∉ [Region.palletSlot, .returnQueue, .schedule, .transfer]) : s.afterRepairs r bad = s := by
  have unread : ∀ x i, x ∈ [Region.palletSlot, .returnQueue, .schedule, .transfer] → bad.contains ⟨x, i⟩ = false := fun x i hx => by
    rw [List.contains_eq_mem, decide_eq_false fun hc => plain _ hc hx]
  have slot : ∀ i, bad.contains ⟨.palletSlot, i⟩ = false := fun i => unread _ i (by simp)
  have lost : ∀ i, slotLost bad i = false := fun i => by simp only [slotLost, slot]; rfl
  have freed : ∀ n, r.freed bad n = false := fun n => List.any_eq_false.mpr fun i _ => by simp [lost i]
  have queue : s.repairQueue r bad = s := by
    have kept := dropPlaces_none s.rst.returnQueue (fun i n => bad.contains ⟨.returnQueue, i⟩ || r.freed bad n)
      fun i n => by simp only [freed, unread .returnQueue i (by simp), Bool.or_self]
    rw [State.repairQueue, State.onRst, kept]
  have schedule : s.repairSchedule bad = s := by
    have kept := dropPlaces_none s.rst.schedule (fun i _ => bad.contains ⟨.schedule, i⟩) fun i _ => unread .schedule i (by simp)
    rw [State.repairSchedule, State.onRst, kept, State.noteSchedule, if_neg (by simp)]
  rw [State.afterRepairs, queue, schedule]
  exact if_neg (by rw [unread .transfer 8 (by simp)]; exact Bool.false_ne_true)

/-- The reading of a grant that reaches every lost cell of the store. -/
theorem State.Lost.readCells {s : State} {bad : List Cell} (h : s.Lost bad) (some : bad ≠ []) {cells : List Cell}
    (reached : ∀ c ∈ bad, c ∈ s.readSet cells) (order : sortCells bad = bad)
    (plain : ∀ c ∈ bad, c.region ∉ [Region.palletSlot, .returnQueue, .schedule, .transfer]) :
    s.readCells cells = bad.foldl (State.repairCell bad false) (s.rewriteCells bad) := by
  have unsound : ¬s.rst.errors.isEmpty = true := by rw [h]; simpa using some
  rw [State.readCells, if_neg unsound, h.correctable, h.found reached, order]
  exact State.afterRepairs_plain _ _ plain

/-! ### What the entry to FAULT looks at -/

/-- The controller, the Bar Tracker, the learn, the clock, the work list and the two attentions that an entry to FAULT writes. -/
structure State.FaultsAs (s t : State) : Prop where
  ixc : t.ixc = s.ixc
  btk : t.btk = s.btk
  wlu : t.wlu = s.wlu
  clock : t.ctm.clock = s.ctm.clock
  work : t.aar.workList = s.aar.workList
  fault : t.liu.attentions.fault = s.liu.attentions.fault
  learnDone : t.liu.attentions.learnDone = s.liu.attentions.learnDone

theorem State.FaultsAs.refl (s : State) : s.FaultsAs s := ⟨rfl, rfl, rfl, rfl, rfl, rfl, rfl⟩

theorem State.EntersFault.same {s s' t t' : State} {c : Cause} {x : Option SeatCheck} (h : s.EntersFault t c x) (before : s.FaultsAs s')
    (after : t.FaultsAs t') : s'.EntersFault t' c x := by
  obtain ⟨ixc, btk, wlu, clock, work, -, -⟩ := before
  obtain ⟨ixc', btk', wlu', -, work', fault', learnDone'⟩ := after
  have kind : s'.motionKind = s.motionKind := by rw [State.motionKind, ixc]; rfl
  constructor <;> simp only [kind, ixc, btk, wlu, clock, work, ixc', btk', wlu', work', fault', learnDone']
  exacts [h.state, h.current, h.last, h.motion, h.timers, h.flags, h.attention, h.work, h.counter, h.closed, h.captures, h.aborted, h.kept]

/-! ### The repair of a tracking cell (R92, R162) -/

theorem State.unused_false_iff (s : State) (k : Nat) : s.unused k = false ↔ (s.pos k).kind ≠ .unused := by simp [State.unused]

theorem State.active_iff (s : State) (k : Nat) : s.active k = true ↔ (s.pos k).mode = .active := by simp [State.active]

theorem State.repairCell_tracking (bad : List Cell) (s : State) (k : Nat) : State.repairCell bad false s ⟨.positionTracking, k⟩ =
    (s.noteDamaged ⟨.positionTracking, k⟩).repairTracking bad false k := rfl

theorem State.repairCell_detail (bad : List Cell) (s : State) (k : Nat) : State.repairCell bad false s ⟨.orderDetail, k⟩ =
    (s.noteDamaged ⟨.orderDetail, k⟩).repairDetail k := rfl

/-- The entry that the repair of position `k`'s tracking cell writes. -/
def State.trackedEntry (s : State) (bad : List Cell) (k : Nat) (p : Position) : Position :=
  let lost := bad.contains ⟨.orderDetail, k⟩
  let number := if lost then 0 else (s.detail k).copyNumber
  if s.unused k then
    { p with occupant := .empty, phase := .idle, faultCode := none, orderNumber := number, orderKind := .noOrder, program := none
             instruction := none }
  else
    { p with occupant := .unknown, phase := if p.mode == .active then .fault else .idle
             faultCode := if p.mode == .active then some .store else none, orderNumber := number
             orderKind := if lost || !s.active k then .noOrder else (s.detail k).copyKind, program := none, instruction := none }

/-- The order detail record that the repair of position `k`'s tracking cell leaves. -/
def State.trackedDetail (s : State) (bad : List Cell) (k : Nat) (d : OrderDetail) : OrderDetail :=
  if s.unused k then d
  else if bad.contains ⟨.orderDetail, k⟩ then { d with closing := .noOrder }
  else if (s.pos k).phase.outstanding then { d with closing := .withdrawn } else d

/-- Position `k` with its tracking cell rewritten, before a motion is aborted. -/
def State.tracked (s : State) (bad : List Cell) (k : Nat) : State :=
  ((s.onPos k (s.trackedEntry bad k)).stopTimers k).onDetail k (s.trackedDetail bad k)

theorem State.onDetail_same (s : State) (k : Nat) : (s.onDetail k fun d => d) = s := by
  have same : s.rst.details.modify k (fun d => d) = s.rst.details := List.modify_id k s.rst.details
  rw [State.onDetail, State.onRst, same]

/-- What the repair writes into the order detail record of a position in the line, by the cells that are lost (R92, R162). -/
theorem State.trackedDetail_writes {s : State} {k : Nat} (used : s.unused k = false) (bad : List Cell) (t : State) :
    (if bad.contains ⟨.orderDetail, k⟩ then t.onDetail k fun d => { d with closing := .noOrder }
      else if (s.pos k).phase.outstanding then t.onDetail k fun d => { d with closing := .withdrawn } else t) =
    t.onDetail k (s.trackedDetail bad k) := by
  have detail : s.trackedDetail bad k = fun d => if bad.contains ⟨.orderDetail, k⟩ then { d with closing := .noOrder }
      else if (s.pos k).phase.outstanding then { d with closing := .withdrawn } else d := funext fun d => if_neg (by simp [used])
  rw [detail]
  split_ifs <;> [rfl; rfl; exact (t.onDetail_same k).symm]

/-- Outside the advance the repair of a tracking cell aborts a motion at an ACTIVE position in the line (R92). -/
theorem State.repairTracking_eq (s : State) (bad : List Cell) (k : Nat) : s.repairTracking bad false k =
    if s.unused k = false ∧ s.active k = true then (s.tracked bad k).positionFaulted k else s.tracked bad k := by
  cases unused : s.unused k with
  | true =>
    have entry : s.trackedEntry bad k = fun p => { p with
        occupant := .empty, phase := .idle, faultCode := none
        orderNumber := if bad.contains ⟨.orderDetail, k⟩ then 0 else (s.detail k).copyNumber, orderKind := .noOrder
        program := none, instruction := none } := funext fun p => if_pos unused
    have detail : s.trackedDetail bad k = fun d => d := funext fun d => if_pos unused
    rw [State.repairTracking, State.tracked, entry, detail, State.onDetail_same, if_pos unused]; rfl
  | false =>
    have entry : s.trackedEntry bad k = fun p => { p with
        occupant := .unknown, phase := if p.mode == .active then .fault else .idle
        faultCode := if p.mode == .active then some .store else none
        orderNumber := if bad.contains ⟨.orderDetail, k⟩ then 0 else (s.detail k).copyNumber
        orderKind := if bad.contains ⟨.orderDetail, k⟩ || !s.active k then .noOrder else (s.detail k).copyKind
        program := none, instruction := none } := funext fun p => if_neg (by simp [unused])
    rw [State.repairTracking, State.tracked, entry, if_neg (by simp [unused])]
    dsimp only
    rw [State.trackedDetail_writes unused]
    simp only [true_and, Bool.not_false, Bool.and_true]

section tracked
variable (s : State) (bad : List Cell) (k : Nat)

theorem State.tracked_orders : s.OrdersOnly (s.tracked bad k) :=
  ((s.onPos_orders k _).trans (State.stopTimers_orders _ k)).trans (State.onDetail_orders _ k _)

theorem State.tracked_elsewhere : s.SameElsewhere (s.tracked bad k) k :=
  ((s.onPos_elsewhere k _).trans (State.stopTimers_elsewhere _ k)).trans (State.onDetail_elsewhere _ k _)

theorem State.tracked_at (shape : s.Shaped) (hk : k < 16) : (s.tracked bad k).pos k = s.trackedEntry bad k (s.pos k) ∧
    (s.tracked bad k).detail k = s.trackedDetail bad k (s.detail k) ∧ (s.tracked bad k).startTimer k = none ∧
    ((s.tracked bad k).work k).running = none := by
  obtain ⟨record, starting, working⟩ := shape.tables hk
  obtain ⟨stopped, halted⟩ := (s.onPos k (s.trackedEntry bad k)).stopTimers_timers (k := k) starting working
  exact ⟨s.pos_onPos_self _ (shape.position hk), s.detail_onDetail_self _ record, stopped, congrArg WorkTimer.running halted⟩
end tracked

/-! ### What a scrubber grant leaves that repairs one position -/

/-- Position `k` has been repaired to the entry `q` and the order detail record `e`; an ACTIVE position in the line has aborted a motion. -/
structure State.Repaired (s t : State) (k : Nat) (q : Position) (e : OrderDetail) : Prop where
  position : t.pos k = q
  detail : t.detail k = e
  starting : t.startTimer k = none
  working : (t.work k).running = none
  elsewhere : s.SameElsewhere t k
  slots : t.rst.slots = s.rst.slots
  lists : s.SameLists t
  errors : t.rst.errors = []
  records : t.rst.details.length = s.rst.details.length
  links : s.LinksKept t
  aborts : (s.pos k).kind ≠ .unused → (s.pos k).mode = .active → s.ixc.state.abortable = true → s.EntersFault t (.stationFault k) none
  rests : (s.pos k).kind = .unused ∨ (s.pos k).mode = .bypass ∨ s.ixc.state.abortable = false → t.ixc = s.ixc

/-- A lost tracking cell that has been counted and rewritten, in a store that is sound again. -/
theorem State.Lost.tracked {s : State} {bad : List Cell} (h : s.Lost bad) (shape : s.Shaped) {k : Nat} (hk : k < 16) :
    s.Repaired (((s.rewriteCells bad).noteDamaged ⟨.positionTracking, k⟩).repairTracking bad false k) k (s.trackedEntry bad k (s.pos k))
      (s.trackedDetail bad k (s.detail k)) := by
  let n := (s.rewriteCells bad).noteDamaged ⟨.positionTracking, k⟩
  let u := n.tracked bad k
  have orders : n.OrdersOnly u := n.tracked_orders bad k
  have noted : s.FaultsAs n := ⟨rfl, rfl, rfl, rfl, rfl, rfl, rfl⟩
  have same : s.LinksKept n := .of_links rfl
  have collects : u.Collects (n.repairTracking bad false k) := by
    rw [n.repairTracking_eq]
    split <;> [exact u.positionFaulted_collects k; exact .refl u]
  have store : (n.repairTracking bad false k).rst = u.rst := by
    rw [n.repairTracking_eq]
    split <;> [exact u.positionFaulted_rst k; rfl]
  have kept := collects.keeps (.refl _)
  obtain ⟨here, detail, running, waiting⟩ := kept.positions k
  obtain ⟨here', detail', waiting', running'⟩ := n.tracked_at bad k shape hk
  refine ⟨here.trans here', detail.trans detail', waiting.trans waiting', (congrArg WorkTimer.running running).trans running',
    kept.elsewhere (n.tracked_elsewhere bad k), kept.slots, orders.lists.trans kept.lists, ?_, ?_,
    (same.trans orders.frames.links).trans collects.links, fun used active abortable => ?_, fun spared => ?_⟩
  · rw [store]; exact orders.errors.trans h.rewritten
  · rw [store]; exact orders.details
  · have faults : n.unused k = false ∧ n.active k = true := ⟨(s.unused_false_iff k).mpr used, (s.active_iff k).mpr active⟩
    rw [n.repairTracking_eq, if_pos faults]
    exact (orders.aborts ⟨_, _, rfl⟩ k abortable).same ⟨rfl, rfl, rfl, rfl, rfl, rfl, rfl⟩ (.refl _)
  · have still : n.repairTracking bad false k = u := by
      rw [n.repairTracking_eq]
      split
      · next faults =>
        obtain ⟨used, active⟩ := faults
        have active : (s.pos k).mode = .active := (s.active_iff k).mp active
        refine orders.stands k ((spared.resolve_left ((s.unused_false_iff k).mp used)).resolve_left ?_)
        rw [active]; nofun
      · rfl
    rw [still]; exact orders.ixc

/-- The order detail record rewritten from the position's entry (R92, R162). -/
def Position.copied (p : Position) : OrderDetail :=
  { copyNumber := p.orderNumber, copyKind := p.orderKind, closing := if p.orderKind = .noOrder then .noOrder else .opened
    resultTaken := none, faultReport := none, faultCount := 0 }

theorem State.repairDetail_eq (s : State) (k : Nat) : s.repairDetail k = s.onDetail k fun _ => (s.pos k).copied := by
  simp [State.repairDetail, Position.copied]

/-- The order detail cell of the position is lost as well: it is counted and rewritten from the entry that has been repaired. -/
theorem State.Repaired.copied {s t : State} {k : Nat} {q : Position} {e : OrderDetail} (h : s.Repaired t k q e) (hd : k < s.rst.details.length) :
    s.Repaired ((t.noteDamaged ⟨.orderDetail, k⟩).repairDetail k) k q q.copied := by
  let n := t.noteDamaged ⟨.orderDetail, k⟩
  have here : n.pos k = q := h.position
  rw [n.repairDetail_eq, here]
  exact ⟨here, n.detail_onDetail_self _ (by rw [← h.records] at hd; exact hd), h.starting, h.working,
    (show s.SameElsewhere n k from h.elsewhere).trans (n.onDetail_elsewhere k _), h.slots, h.lists, h.errors,
    (n.onDetail_length k _).trans h.records, h.links.trans (.of_links rfl),
    fun used active abortable => (h.aborts used active abortable).same (.refl s) ⟨rfl, rfl, rfl, rfl, rfl, rfl, rfl⟩, h.rests⟩

/-! ### The scrubber's grant (R166) -/

/-- The scrubber's grant when nothing waits for the store. -/
theorem execScrubberRead_quiet {s : State} (live : s.Live) (quiet : s.Quiet) : exec (.scrubberRead []) s =
    .next (State.closeEvent s ((s.readCells [s.rst.walk]).onRst fun r => { r with walk := nextCell s.rst.walk })) := by
  rw [exec, execScrubberRead, s.event_live _ live, if_pos ((s.quiet_iff).mpr quiet)]; rfl

/-- The walk position and the STATUS frame are no part of what a repair of a position leaves. -/
theorem State.Repaired.scrubbed {s t : State} {k : Nat} {q : Position} {e : OrderDetail} (h : s.Repaired t k q e) (c : Cell) :
    s.Repaired (State.closeEvent s (t.onRst fun r => { r with walk := c })) k q e := by
  let w := t.onRst fun r => { r with walk := c }
  obtain ⟨rst, ixc, btk, wlu, ctm, work, attentions⟩ := State.alike_closeEvent s w
  have moved : t.LinksKept w := .of_links rfl
  have walked : t.FaultsAs (State.closeEvent s w) := ⟨ixc, btk, wlu, by rw [ctm]; rfl, work, by rw [attentions]; rfl, by rw [attentions]; rfl⟩
  have elsewhere : t.SameElsewhere (State.closeEvent s w) k := fun j _ => by
    simp only [State.pos, State.detail, State.work, State.startTimer, rst, ctm]
    exact ⟨rfl, rfl, rfl, rfl⟩
  have lists : t.SameLists (State.closeEvent s w) := by
    rw [State.SameLists, rst]; exact ⟨rfl, rfl, rfl, rfl⟩
  refine ⟨?_, ?_, ?_, ?_, h.elsewhere.trans elsewhere, by rw [rst]; exact h.slots, h.lists.trans lists, by rw [rst]; exact h.errors,
    by rw [rst]; exact h.records, (h.links.trans moved).closeEvent s,
    fun used active abortable => (h.aborts used active abortable).same (.refl s) walked, fun spared => ixc.trans (h.rests spared)⟩
  · rw [State.pos, rst]; exact h.position
  · rw [State.detail, rst]; exact h.detail
  · rw [State.startTimer, ctm]; exact h.starting
  · rw [State.work, ctm]; exact h.working

/-- The tracking cell of a position is repaired before its order detail cell (R160). -/
theorem sortCells_position (k : Nat) :
    sortCells [⟨.positionTracking, k⟩, ⟨.orderDetail, k⟩] = [⟨.positionTracking, k⟩, ⟨.orderDetail, k⟩] := by
  have regions : Region.number .positionTracking ≤ Region.number .orderDetail := by decide
  have ranks : cellRank ⟨.positionTracking, k⟩ ≤ cellRank ⟨.orderDetail, k⟩ :=
    Nat.add_le_add_right (Nat.mul_le_mul_right 4096 regions) k
  exact if_pos ranks

/-- A lost cell is among those that a grant reaches from it. -/
theorem State.readSet_self (s : State) (c : Cell) : c ∈ s.readSet [c] := s.reach_keeps _ (.head _)

/-- The repair of a lost tracking cell reads the order detail cell (R92). -/
theorem State.readSet_detail {s : State} {k : Nat} (damaged : (⟨.positionTracking, k⟩ : Cell) ∈ s.damagedCells) :
    (⟨.orderDetail, k⟩ : Cell) ∈ s.readSet [⟨.positionTracking, k⟩] := by
  rw [State.readSet, State.reach]
  refine s.reach_keeps _ (List.mem_append_right _ (List.mem_flatMap.mpr ⟨⟨.positionTracking, k⟩, ?_, ?_⟩))
  · exact List.mem_filter.mpr ⟨damaged, by simp⟩
  · simp [State.needs]

section grant
variable {s : State} {k : Nat} (live : s.Live) (quiet : s.Quiet) (shape : s.Shaped) (hk : k < 16)
include live quiet shape hk

/-- The scrubber at a lost tracking cell. -/
theorem scrubber_tracks (walk : s.rst.walk = ⟨.positionTracking, k⟩) (lost : s.Lost [⟨.positionTracking, k⟩]) :
    ∃ t, exec (.scrubberRead []) s = .next t ∧ s.Repaired t k (s.trackedEntry [⟨.positionTracking, k⟩] k (s.pos k))
      (s.trackedDetail [⟨.positionTracking, k⟩] k (s.detail k)) := by
  refine ⟨_, execScrubberRead_quiet live quiet, ?_⟩
  rw [walk, lost.readCells nofun (by simpa using s.readSet_self _) rfl (by simp),
    List.foldl_cons, List.foldl_nil, State.repairCell_tracking]
  exact (lost.tracked shape hk).scrubbed _

/-- The scrubber at a lost tracking cell, with the order detail cell of the position lost too. -/
theorem scrubber_tracks_both (walk : s.rst.walk = ⟨.positionTracking, k⟩)
    (lost : s.Lost [⟨.positionTracking, k⟩, ⟨.orderDetail, k⟩]) : ∃ t, exec (.scrubberRead []) s = .next t ∧
      s.Repaired t k (s.trackedEntry [⟨.positionTracking, k⟩, ⟨.orderDetail, k⟩] k (s.pos k))
        (s.trackedEntry [⟨.positionTracking, k⟩, ⟨.orderDetail, k⟩] k (s.pos k)).copied := by
  have damaged : (⟨.positionTracking, k⟩ : Cell) ∈ s.damagedCells := by simp [State.damagedCells, show s.rst.errors = _ from lost]
  refine ⟨_, execScrubberRead_quiet live quiet, ?_⟩
  rw [walk, lost.readCells nofun (by simpa using ⟨s.readSet_self _, State.readSet_detail damaged⟩) (sortCells_position k) (by simp),
    List.foldl_cons, List.foldl_cons, List.foldl_nil, State.repairCell_tracking, State.repairCell_detail]
  exact ((lost.tracked shape hk).copied (shape.tables hk).1).scrubbed _

/-- The scrubber at a lost order detail cell. -/
theorem scrubber_copies (walk : s.rst.walk = ⟨.orderDetail, k⟩) (lost : s.Lost [⟨.orderDetail, k⟩]) :
    ∃ t, exec (.scrubberRead []) s = .next t ∧ t.detail k = (s.pos k).copied ∧ t.rst.positions = s.rst.positions ∧
      t.rst.slots = s.rst.slots ∧ s.SameLists t ∧ t.rst.errors = [] ∧ t.ixc = s.ixc ∧ t.ctm = s.ctm ∧ s.LinksKept t := by
  let n := (s.rewriteCells [⟨.orderDetail, k⟩]).noteDamaged ⟨.orderDetail, k⟩
  let w := (n.repairDetail k).onRst fun r => { r with walk := nextCell ⟨.orderDetail, k⟩ }
  have read : s.readCells [⟨.orderDetail, k⟩] = n.repairDetail k := by
    rw [lost.readCells nofun (by simpa using s.readSet_self _) rfl (by simp), List.foldl_cons, List.foldl_nil, State.repairCell_detail]
  have repaired : w.detail k = (s.pos k).copied := by
    have here := n.detail_onDetail_self (fun _ => (n.pos k).copied) (shape.tables hk).1
    rwa [← n.repairDetail_eq] at here
  obtain ⟨rst, ixc, -, -, ctm, -, -⟩ := State.alike_closeEvent s w
  have links : s.LinksKept w := .of_links rfl
  refine ⟨State.closeEvent s w, ?_, ?_, by rw [rst]; rfl, by rw [rst]; rfl, ?_, by rw [rst]; exact lost.rewritten, ixc, ctm, links.closeEvent s⟩
  · rw [execScrubberRead_quiet live quiet, walk, read]
  · rw [State.detail, rst]; exact repaired
  · rw [State.SameLists, rst]; exact ⟨rfl, rfl, rfl, rfl⟩
end grant

/-! ### The entries that R162 gives -/

section entries
variable {s : State} {k : Nat}

theorem State.trackedEntry_active (used : (s.pos k).kind ≠ .unused) (active : (s.pos k).mode = .active) (bad : List Cell) :
    s.trackedEntry bad k (s.pos k) = { s.pos k with
      occupant := .unknown, phase := .fault, faultCode := some .store
      orderNumber := if bad.contains ⟨.orderDetail, k⟩ then 0 else (s.detail k).copyNumber
      orderKind := if bad.contains ⟨.orderDetail, k⟩ then .noOrder else (s.detail k).copyKind
      program := none, instruction := none } := by
  simp [State.trackedEntry, State.unused, State.active, used, active]

theorem State.trackedEntry_bypass (used : (s.pos k).kind ≠ .unused) (bypass : (s.pos k).mode = .bypass) :
    s.trackedEntry [⟨.positionTracking, k⟩] k (s.pos k) = { s.pos k with
      occupant := .unknown, phase := .idle, faultCode := none, orderNumber := (s.detail k).copyNumber, orderKind := .noOrder
      program := none, instruction := none } := by
  simp [State.trackedEntry, State.unused, State.active, used, bypass]

theorem State.trackedEntry_unused (unused : (s.pos k).kind = .unused) :
    s.trackedEntry [⟨.positionTracking, k⟩] k (s.pos k) = { s.pos k with
      occupant := .empty, phase := .idle, faultCode := none, orderNumber := (s.detail k).copyNumber, orderKind := .noOrder
      program := none, instruction := none } := by
  simp [State.trackedEntry, State.unused, unused]

theorem State.trackedDetail_used (used : (s.pos k).kind ≠ .unused) :
    s.trackedDetail [⟨.positionTracking, k⟩] k (s.detail k) =
      if (s.pos k).phase = .ordered ∨ (s.pos k).phase = .working then { s.detail k with closing := .withdrawn } else s.detail k := by
  simp [State.trackedDetail, State.unused, used, Phase.outstanding]

theorem State.trackedDetail_unused (unused : (s.pos k).kind = .unused) :
    s.trackedDetail [⟨.positionTracking, k⟩] k (s.detail k) = s.detail k := by
  simp [State.trackedDetail, State.unused, unused]
end entries

/-- Settles O27: a lost tracking cell, a lost order detail cell and both of one position are rewritten safely. -/
theorem lostPositionCellsAreRewrittenSafely : Obligations.LostPositionCellsAreRewrittenSafely := by
  intro k s live quiet shape hk p d lost becomes faulted tracking detail
  have becomes_of : ∀ {q e}, (∃ t, exec (.scrubberRead []) s = .next t ∧ s.Repaired t k q e) → becomes q e := fun {q e} h => by
    obtain ⟨t, next, r⟩ := h
    exact ⟨t, next, r.position, r.detail, r.starting, r.working, r.elsewhere, r.slots, r.lists, r.errors, r.links, r.aborts, r.rests⟩
  refine ⟨fun h used active => ?_, fun h used bypass idle => ?_, fun h unused => ?_, fun h used active => ?_, fun walk errors => ?_⟩
  · have repaired := scrubber_tracks live quiet shape hk h.1 h.2
    rw [State.trackedEntry_active used active, State.trackedDetail_used used] at repaired
    exact becomes_of repaired
  · have repaired := scrubber_tracks live quiet shape hk h.1 h.2
    rw [State.trackedEntry_bypass used bypass, State.trackedDetail_used used, if_neg (by rw [show (s.pos k).phase = _ from idle]; nofun)] at repaired
    exact becomes_of repaired
  · have repaired := scrubber_tracks live quiet shape hk h.1 h.2
    rw [State.trackedEntry_unused unused, State.trackedDetail_unused unused] at repaired
    exact becomes_of repaired
  · have repaired := scrubber_tracks_both live quiet shape hk h.1 h.2
    rw [State.trackedEntry_active used active] at repaired
    exact becomes_of (by simpa [Position.copied] using repaired)
  · exact scrubber_copies live quiet shape hk walk errors

end Sys2Proof.Machine
end

section
/-! SUPPORT. The load instruction (O48), row by row. -/

namespace Sys2Proof.Machine

/-- A pallet that carries a workpiece goes round for its second pass, or its workpiece is removed (R106). -/
theorem State.loadDecision_carrying (s : State) {p : Pallet} {w : Workpiece} (carries : p.workpiece = some w) :
    s.loadDecision p = if w.disposition = .rework then .passTwo else .remove := by
  simp [State.loadDecision, carries]

/-- An empty pallet that is due for maintenance is left empty, whatever the schedule holds (R106). -/
theorem State.loadDecision_due {s : State} {p : Pallet} (bare : p.workpiece = none) (due : s.maintenanceDue p = true) :
    s.loadDecision p = .empty .maintenance := by
  simp [State.loadDecision, bare, due]

theorem State.loadDecision_unscheduled {s : State} {p : Pallet} (bare : p.workpiece = none) (fit : s.maintenanceDue p = false)
    (none : s.rst.schedule = []) : s.loadDecision p = .empty .noSchedule := by
  simp [State.loadDecision, bare, fit, none]

/-- An empty pallet takes the variant of the schedule's head where its fixture holds it (R106). -/
theorem State.loadDecision_scheduled {s : State} {p : Pallet} {e : ScheduleEntry} {es : List ScheduleEntry} (bare : p.workpiece = none)
    (fit : s.maintenanceDue p = false) (head : s.rst.schedule = e :: es) :
    s.loadDecision p = if member p.variants e.variant then .load e.variant else .empty .fixture := by
  simp [State.loadDecision, bare, fit, head]

theorem State.maintenanceDue_iff (s : State) (p : Pallet) :
    s.maintenanceDue p = true ↔ ∃ g, s.rst.geometry = some g ∧ (g.service ≤ p.clamps ∨ p.damaged = true) := by
  unfold State.maintenanceDue
  cases s.rst.geometry with
  | none => simp
  | some g => simp

/-- Settles O48: the load instruction is given by the first row of R106 that fits the pallet. -/
theorem loadInstructionFollowsThePallet : Obligations.LoadInstructionFollowsThePallet := by
  intro p s
  exact ⟨fun _ => s.loadDecision_carrying, State.loadDecision_due, State.loadDecision_unscheduled,
    fun _ _ => State.loadDecision_scheduled, s.maintenanceDue_iff p⟩

end Sys2Proof.Machine
end

section
/-! SUPPORT. The requests on the return queue, the load schedule and the completion log (O58). -/

namespace Sys2Proof.Machine

/-- A grant whose operation writes the store and leaves the status content answers OK, and no other state changes. -/
theorem State.grant_stores {s : State} {i : Instr} {p : Permit} {l : Link} {tag : Byte} {cells : List (State → List Cell)}
    {op : State → State × Reply} {f : Rst → Rst} {d : List Byte} (hr : s.Ready l) (hp : p.refusal l = none)
    (same : (s.onRst f).statusContent = s.statusContent) (hop : op (s.granted i l) = ok ((s.granted i l).onRst f) d) :
    s.grant i p l tag cells op = .next ((s.onRst f).answered l tag .ok d) := by
  rw [s.grant_ready i p l tag cells op hr hp, hop]
  exact congrArg _ (State.closeGrant_onRst i l tag .ok d same)

/-! ### The return queue (R95, R96) -/

/-- The return queue is no part of the status content (R187). -/
theorem State.queue_content (s : State) (f : List Nat → List Nat) :
    (s.onRst fun r => { r with returnQueue := f r.returnQueue }).statusContent = s.statusContent :=
  State.positions_content rfl rfl fun _ => rfl

theorem State.insertReturn_refused {s : State} {n : Nat} (p : Pallet) (placed : s.location n ≠ .out) :
    State.insertReturn n p s = refuse s .wrongState := if_pos (by simpa using placed)

theorem State.insertReturn_taken {s : State} {n : Nat} (p : Pallet) (out : s.location n = .out) (sound : s.rst.errors = []) :
    State.insertReturn n p s = ok (s.onRst fun r => { r with returnQueue := r.returnQueue ++ [n] })
      (u8 s.rst.returnQueue.length ++ u8 (s.rst.returnQueue.length + 1)) := by
  have written := State.rewriteCells_sound (s := s.onRst fun r => { r with returnQueue := r.returnQueue ++ [n] }) sound
    [⟨.returnQueue, s.rst.returnQueue.length⟩]
  rw [State.insertReturn, if_neg (by simp [out])]
  simp only [written]

theorem State.withdrawReturn_refused {s : State} {n : Nat} (p : Pallet) (away : ∀ i, s.location n ≠ .queue i) :
    State.withdrawReturn n p s = refuse s .wrongState := by
  unfold State.withdrawReturn
  cases place : s.location n with
  | queue i => exact absurd place (away i)
  | position | out => rfl

theorem State.withdrawReturn_taken {s : State} {n i : Nat} (p : Pallet) (queued : s.location n = .queue i) :
    State.withdrawReturn n p s = ok (s.onRst fun r => { r with returnQueue := r.returnQueue.eraseIdx i }) (u8 i) := by
  rw [State.withdrawReturn, queued]

/-! ### The load schedule (R98 to R100) -/

/-- The load schedule is no part of the status content (R187). -/
theorem State.schedule_content (s : State) (f : List ScheduleEntry → List ScheduleEntry) :
    (s.onRst fun r => { r with schedule := f r.schedule }).statusContent = s.statusContent :=
  State.positions_content rfl rfl fun _ => rfl

theorem State.appendSchedule_range (s : State) {v : Nat} (q : Nat) (out : v = 0 ∨ 8 < v) : s.appendSchedule v q = refuse s .range :=
  if_pos out

theorem State.appendSchedule_full {s : State} {v : Nat} (q : Nat) (low : 1 ≤ v) (high : v ≤ 8) (full : 32 ≤ s.rst.schedule.length) :
    s.appendSchedule v q = refuse s .queueFull := by
  rw [State.appendSchedule, if_neg (by omega)]
  exact if_pos full

theorem State.appendSchedule_taken {s : State} {v : Nat} (q : Nat) (low : 1 ≤ v) (high : v ≤ 8) (room : s.rst.schedule.length < 32)
    (sound : s.rst.errors = []) : s.appendSchedule v q =
      ok (s.onRst fun r => { r with schedule := r.schedule ++ [{ variant := v, quantity := clampQuantity q }] })
        (u16 (clampQuantity q) ++ u8 s.rst.schedule.length ++ u8 (s.rst.schedule.length + 1)) := by
  have written := State.rewriteCells_sound
    (s := s.onRst fun r => { r with schedule := r.schedule ++ [{ variant := v, quantity := clampQuantity q }] }) sound
    [⟨.schedule, s.rst.schedule.length⟩]
  rw [State.appendSchedule, if_neg (by omega), if_neg (by simpa [Config.schedulePlaces] using room)]
  simp only [written]

/-- A grant that leaves the schedule empty when it was not raises SCHEDULE_EMPTY (R98). -/
theorem State.noteSchedule_eq (before s : State) : State.noteSchedule before s =
    s.attend fun a => { a with scheduleEmpty := a.scheduleEmpty || (s.rst.schedule.isEmpty && !before.rst.schedule.isEmpty) } := by
  unfold State.noteSchedule
  split
  · next emptied => simp [emptied]
  · next kept => simp [kept]; rfl

/-- The schedule is cleared, and SCHEDULE_EMPTY raised where it was not empty (R98, R100). -/
def State.unscheduled (s : State) : State :=
  { s with
    rst := { s.rst with schedule := [] }
    liu := { s.liu with attentions := { s.liu.attentions with
      scheduleEmpty := s.liu.attentions.scheduleEmpty || !s.rst.schedule.isEmpty } } }

theorem State.clearScheduleAll_eq (s : State) : s.clearScheduleAll = ok s.unscheduled (u8 s.rst.schedule.length) := by
  rw [State.clearScheduleAll, State.noteSchedule_eq]; rfl

/-! ### The completion log (R119) -/

theorem State.fetchCompletion_empty {s : State} (empty : s.rst.log = []) : s.fetchCompletion = ok s [0#8, 0#8] := by
  rw [State.fetchCompletion, empty]; rfl

/-- The record at the log's head becomes the last-fetched copy (R119). -/
def State.fetched (s : State) (c : CompletionRecord) (cs : List CompletionRecord) : State :=
  s.onRst fun r => { r with log := cs, logHead := (r.logHead + 1) % 32, lastFetched := some c }

theorem State.fetchCompletion_takes {s : State} {c : CompletionRecord} {cs : List CompletionRecord} (head : s.rst.log = c :: cs)
    (sound : s.rst.errors = []) :
    s.fetchCompletion = ok (s.fetched c cs) (1#8 :: CompletionRecord.bytes c ++ [BitVec.ofNat 8 cs.length]) := by
  have written := State.rewriteCells_sound (s := s.fetched c cs) sound (logCells 32)
  rw [State.fetchCompletion, head]
  exact congrArg (fun t => ok t (1#8 :: CompletionRecord.bytes c ++ [BitVec.ofNat 8 cs.length])) written

/-- Settles O58: the requests on the return queue, the schedule and the completion log, their refusals in order and what they write. -/
theorem listsTakeAndGive : Obligations.ListsTakeAndGive := by
  intro tag n s hr refused insert withdraw append queue size filled
  refine ⟨fun bad => ?_, fun low high unknown => ?_, fun low high known => ?_, fun v q => ?_, ?_, fun empty => ?_, fun c cs head => ?_⟩
  · exact ⟨State.grant_answers hr rfl (State.atPallet_range _ bad _), State.grant_answers hr rfl (State.atPallet_range _ bad _)⟩
  · have answer := fun (i : Instr) op => State.atPallet_unknown (s := s.granted i .supl) low high unknown op
    exact ⟨State.grant_answers hr rfl (answer _ _), State.grant_answers hr rfl (answer _ _)⟩
  · obtain ⟨p, hp⟩ := Option.isSome_iff_exists.mp known
    have at_p := fun (i : Instr) op => State.atPallet_known (s := s.granted i .supl) low high hp op
    refine ⟨fun placed => ?_, fun out => ?_, fun away => ?_, fun i queued => ?_⟩
    · exact State.grant_answers hr rfl ((at_p _ _).trans (State.insertReturn_refused p placed))
    · exact State.grant_stores hr rfl (s.queue_content (· ++ [n])) ((at_p _ _).trans (State.insertReturn_taken p out hr.1.2))
    · exact State.grant_answers hr rfl ((at_p _ _).trans (State.withdrawReturn_refused p away))
    · exact State.grant_stores hr rfl (s.queue_content (·.eraseIdx i)) ((at_p _ _).trans (State.withdrawReturn_taken p queued))
  · let g := s.granted (.appendSchedule .supl tag v q) .supl
    refine ⟨fun out => ?_, fun low high full => ?_, fun low high room => ?_⟩
    · exact State.grant_answers hr rfl (g.appendSchedule_range q out)
    · exact State.grant_answers hr rfl (State.appendSchedule_full (s := g) q low high full)
    · have taken := State.appendSchedule_taken (s := g) q low high room hr.1.2
      exact State.grant_stores (p := .supervisor) (tag := tag) (cells := [State.scheduleCells]) (op := fun s => s.appendSchedule v q) hr
        rfl (s.schedule_content (· ++ [{ variant := v, quantity := clampQuantity q }])) taken
  · exact State.grant_leads (u := s.unscheduled) hr rfl (State.clearScheduleAll_eq _)
  · exact State.grant_answers hr rfl (State.fetchCompletion_empty (s := s.granted (.fetchCompletion .supl tag) .supl) empty)
  · exact State.grant_leads (u := s.fetched c cs) hr rfl
      (State.fetchCompletion_takes (s := s.granted (.fetchCompletion .supl tag) .supl) head hr.1.2)

end Sys2Proof.Machine
end

section
/-! SUPPORT. A CLEAR in WORKING (O42, O43, O44): whether its result fits its order, what a taken result writes before it ends the order,
and what the collection test leaves of the attentions. -/

namespace Sys2Proof.Machine

/-! ### The attentions and the collection test -/

/-- The attentions but for FAULT and LEARN_DONE, the two that an entry to FAULT raises (R59, R146). -/
def State.AttentionsKept (s t : State) : Prop := ∃ f x, t.liu.attentions = { s.liu.attentions with fault := f, learnDone := x }

theorem State.AttentionsKept.of_same {s t : State} (h : t.liu.attentions = s.liu.attentions) : s.AttentionsKept t := ⟨_, _, h⟩

theorem State.AttentionsKept.trans {s t u : State} (a : s.AttentionsKept t) (b : t.AttentionsKept u) : s.AttentionsKept u := by
  obtain ⟨f, x, ha⟩ := a
  obtain ⟨f', x', hb⟩ := b
  exact ⟨f', x', by rw [hb, ha]⟩

theorem State.enterFault_attentions (s : State) (c : Cause) (x : Option SeatCheck) : s.AttentionsKept (s.enterFault c x) := by
  unfold State.enterFault
  dsimp only
  split_ifs <;> exact ⟨_, _, rfl⟩

theorem State.checkEntry_attentions (s : State) : s.AttentionsKept s.checkEntry := by
  unfold State.checkEntry
  split_ifs
  · exact .of_same rfl
  · exact s.enterFault_attentions _ _
  · exact s.enterFault_attentions _ _
  · exact .of_same rfl

theorem State.testCollection_attentions (s : State) (g : Gate) : s.AttentionsKept (s.testCollection g) := by
  by_cases released : s.Released
  · let t := s.onIxc fun i => { i with indexPending := false, learnArmed := false }
    let u := t.beginMotion (if s.ixc.learnArmed then .learn else .index) s.palletMask
    have taken : s.testCollection g = ((u.recordGate g).startIndexTimer).checkEntry := if_pos (s.released_iff.mp released)
    have gated : (u.recordGate g).startIndexTimer.liu.attentions = s.liu.attentions := by
      rw [State.gate_eq]; exact t.beginMotion_attentions _ _
    rw [taken]
    exact .trans (.of_same gated) (State.checkEntry_attentions _)
  · rw [s.testCollection_waits g released]
    exact .of_same rfl

/-! ### What a taken result writes before it ends the order -/

theorem State.RecordsOnly.refl (s : State) : s.RecordsOnly s := ⟨.refl s, rfl, rfl, rfl⟩

theorem State.RecordsOnly.trans {s t u : State} (a : s.RecordsOnly t) (b : t.RecordsOnly u) : s.RecordsOnly u :=
  ⟨a.toRecords.trans b.toRecords, b.wlu.trans a.wlu, b.aar.trans a.aar, b.pending.trans a.pending⟩

theorem State.onPallet_only (s : State) (n : Nat) (f : Pallet → Pallet) : s.RecordsOnly (s.onPallet n f) :=
  ⟨s.onPallet_records n f, rfl, rfl, rfl⟩

theorem State.attend_only (s : State) (f : Attentions → Attentions) : s.RecordsOnly (s.attend f) := ⟨s.attend_records f, rfl, rfl, rfl⟩

/-- Two updates of one pallet's record are one. -/
theorem State.onPallet_onPallet (s : State) (n : Nat) (f g : Pallet → Pallet) (h : ∀ p, (f p).number = p.number) :
    (s.onPallet n f).onPallet n g = s.onPallet n fun p => g (f p) := by
  simp only [State.onPallet, State.onRst, List.map_map, State.mk.injEq, Rst.mk.injEq, and_true, true_and]
  refine List.map_congr_left fun o _ => ?_
  cases o with
  | none => rfl
  | some p => by_cases here : p.number = n <;> simp [here, h]

/-- The record of position `k`'s occupant is updated, where there is one. -/
def State.onOccupant (s : State) (k : Nat) (f : Pallet → Pallet) : State :=
  match s.palletAt k with
  | none => s
  | some n => s.onPallet n f

theorem State.onOccupant_only (s : State) (k : Nat) (f : Pallet → Pallet) : s.RecordsOnly (s.onOccupant k f) := by
  unfold State.onOccupant
  cases s.palletAt k with
  | none => exact .refl s
  | some n => exact s.onPallet_only n f

theorem State.onOccupant_lists (s : State) (k : Nat) (f : Pallet → Pallet) : s.SameLists (s.onOccupant k f) := by
  unfold State.onOccupant
  cases s.palletAt k <;> exact ⟨rfl, rfl, rfl, rfl⟩

theorem State.pallet_onOccupant (s : State) (k : Nat) (f : Pallet → Pallet) (h : ∀ p, (f p).number = p.number) (n : Nat) :
    (s.onOccupant k f).pallet n = if s.palletAt k = some n then (s.pallet n).map f else s.pallet n := by
  unfold State.onOccupant
  cases s.palletAt k with
  | none => simp
  | some m => simpa only [Option.some.injEq, eq_comm (a := m)] using s.pallet_onPallet m f h n

/-! ### A CLEAR in WORKING, by the operation of its result -/

section working
variable {c : Instr} {k : Fin 16} {tag : Byte} {o : Nat} {s w : State} {cells : List (State → List Cell)} {result r : Result}
  {fits : Nat → State → Bool} {op : Nat → State → State × Reply} {body : State → List Byte}

/-- A result that does not fit its order is refused with RANGE (R107, R114). -/
theorem clear_unfit (hr : s.Ready (.sl k)) (reports : s.Reports k.val o) (working : (s.pos k.val).phase = .working)
    (arm : exec c s = s.grant c .station (.sl k) tag cells
      fun s => s.atStation (.sl k) fun k s => s.clearReport o false result fits op body k)
    (unfit : ¬(fits k.val (s.granted c (.sl k)) = true)) : exec c s = .next (s.answered (.sl k) tag (.refused .range) []) :=
  arm.trans (State.grant_answers hr rfl
    ((State.clearReport_working (s := s.granted c (.sl k)) reports working result fits op body).trans (if_neg unfit)))

/-- A fitting result whose operation refuses it, and changes nothing. -/
theorem clear_declines {reason : Reason} (hr : s.Ready (.sl k)) (reports : s.Reports k.val o) (working : (s.pos k.val).phase = .working)
    (arm : exec c s = s.grant c .station (.sl k) tag cells
      fun s => s.atStation (.sl k) fun k s => s.clearReport o false result fits op body k)
    (fit : fits k.val (s.granted c (.sl k)) = true) (declined : op k.val (s.granted c (.sl k)) = refuse (s.granted c (.sl k)) reason) :
    exec c s = .next (s.answered (.sl k) tag (.refused reason) []) :=
  arm.trans (State.grant_answers hr rfl
    ((State.clearReport_working (s := s.granted c (.sl k)) reports working result fits op body).trans ((if_pos fit).trans declined)))

/-- A fitting result whose operation writes records and ends the order with it: what the collection test leaves of the state before it. -/
theorem clear_finishes {data : List Byte} (hr : s.Ready (.sl k)) (reports : s.Reports k.val o) (shape : s.Shaped)
    (working : (s.pos k.val).phase = .working)
    (arm : exec c s = s.grant c .station (.sl k) tag cells
      fun s => s.atStation (.sl k) fun k s => s.clearReport o false result fits op body k)
    (fit : fits k.val (s.granted c (.sl k)) = true) (records : (s.granted c (.sl k)).RecordsOnly w)
    (taken : op k.val (s.granted c (.sl k)) = ok (w.finishOrder k.val r) data) :
    ∃ t, exec c s = .next t ∧ s.Answered t (.sl k) tag .ok data ∧ s.OrderEnded t k.val r ∧ w.SameLists t ∧
      (∀ n, t.pallet n = w.pallet n) ∧ w.AttentionsKept t := by
  let g := s.granted c (.sl k)
  have hop : g.clearReport o false result fits op body k.val = ok (w.finishOrder k.val r) data :=
    (State.clearReport_working (s := g) reports working result fits op body).trans ((if_pos fit).trans taken)
  obtain ⟨t, next, answered, ended, lists, pallets⟩ := State.grant_finishes (tag := tag) (p := .station) (cells := cells)
    (op := fun s => s.atStation (.sl k) fun k s => s.clearReport o false result fits op body k) hr rfl shape k.isLt records hop
  refine ⟨t, arm.trans next, answered, ended, lists, pallets, ?_⟩
  have orders := w.ended_orders k.val r
  have sound : (w.ended k.val r).rst.errors = [] := orders.errors.trans (records.sound hr.1.2)
  rw [w.finishOrder_eq, State.collect_sound _ _ sound] at hop
  have closed : State.closeGrant s (.sl k) tag (ok ((w.ended k.val r).testCollection (.position k.val)) data) = t :=
    Host.Outcome.next.inj (((s.grant_ready c .station (.sl k) tag cells _ hr rfl).trans
      (congrArg (fun x => Host.Outcome.next (State.closeGrant s (.sl k) tag x)) hop)).symm.trans next)
  have closes : ((w.ended k.val r).testCollection (.position k.val)).Closes t := closed ▸ State.closes_closeGrant s _ _ tag _
  have tested : w.AttentionsKept ((w.ended k.val r).testCollection (.position k.val)) :=
    .trans (.of_same (by rw [orders.liu])) (State.testCollection_attentions _ _)
  exact tested.trans (.of_same closes.attentions)

/-- A fitting result that ends the order and changes at most the occupant's record. -/
theorem clear_ends {f : Pallet → Pallet} (hr : s.Ready (.sl k)) (reports : s.Reports k.val o) (shape : s.Shaped)
    (working : (s.pos k.val).phase = .working)
    (arm : exec c s = s.grant c .station (.sl k) tag cells
      fun s => s.atStation (.sl k) fun k s => s.clearReport o false result fits op body k)
    (fit : fits k.val (s.granted c (.sl k)) = true) (number : ∀ p, (f p).number = p.number)
    (taken : op k.val (s.granted c (.sl k)) = ok (((s.granted c (.sl k)).onOccupant k.val f).finishOrder k.val r)) :
    ∃ t, exec c s = .next t ∧ s.Answered t (.sl k) tag .ok [] ∧ s.OrderEnded t k.val r ∧ s.SameLists t ∧
      ∀ n, t.pallet n = if s.palletAt k.val = some n then (s.pallet n).map f else s.pallet n := by
  let g := s.granted c (.sl k)
  obtain ⟨t, next, answered, ended, lists, pallets, -⟩ :=
    clear_finishes hr reports shape working arm fit (g.onOccupant_only k.val f) taken
  exact ⟨t, next, answered, ended, (g.onOccupant_lists k.val f).trans lists,
    fun n => (pallets n).trans (g.pallet_onOccupant k.val f number n)⟩
end working

/-! ### The order and its instruction (R106, R113) -/

theorem State.loadInstruction_iff (s : State) (k : Nat) (i : Instruction) :
    s.loadInstruction k = some i ↔ (s.pos k).orderKind = .load ∧ (s.pos k).instruction = some i := by
  unfold State.loadInstruction
  split
  · next load => simp [beq_iff_eq.mp load]
  · next other => simp_all

theorem State.loadVariant_iff (s : State) (k v : Nat) :
    s.loadVariant k = some v ↔ (s.pos k).orderKind = .load ∧ (s.pos k).instruction = some (.load v) := by
  unfold State.loadVariant
  split
  · next u load instruction => simp [load, instruction]
  · next other => simpa using other v

theorem State.unloadLane_iff (s : State) (k : Nat) (x : Lane) :
    s.unloadLane k = some x ↔ (s.pos k).orderKind = .unload ∧ ∃ r, (s.pos k).instruction = some (.unload x r) := by
  unfold State.unloadLane
  split
  · next y r unload instruction => simp [unload, instruction]
  · next other => simpa using fun unload r => other x r unload

end Sys2Proof.Machine
end

section
/-! SUPPORT. READY, EMPTY, KEPT and STUCK (O43), and the results that do not fit their instruction. -/

namespace Sys2Proof.Machine

theorem State.readyFits_iff (s : State) (k : Nat) : (s.loadInstruction k == some .passTwo) = true ↔
    (s.pos k).orderKind = .load ∧ (s.pos k).instruction = some .passTwo := by
  rw [beq_iff_eq, s.loadInstruction_iff]

theorem Instruction.allowsEmpty_iff (i : Instruction) : i.allowsEmpty = true ↔ (∃ v, i = .load v) ∨ ∃ e, i = .empty e := by
  cases i <;> simp [Instruction.allowsEmpty]

theorem State.emptyFits_iff (s : State) (k : Nat) : (s.loadInstruction k).any Instruction.allowsEmpty = true ↔
    (s.pos k).orderKind = .load ∧ ((∃ v, (s.pos k).instruction = some (.load v)) ∨ ∃ e, (s.pos k).instruction = some (.empty e)) := by
  simp only [Option.any_eq_true, s.loadInstruction_iff, Instruction.allowsEmpty_iff]
  constructor
  · rintro ⟨i, ⟨load, instruction⟩, ⟨v, rfl⟩ | ⟨e, rfl⟩⟩
    · exact ⟨load, .inl ⟨v, instruction⟩⟩
    · exact ⟨load, .inr ⟨e, instruction⟩⟩
  · rintro ⟨load, ⟨v, instruction⟩ | ⟨e, instruction⟩⟩
    · exact ⟨_, ⟨load, instruction⟩, .inl ⟨v, rfl⟩⟩
    · exact ⟨_, ⟨load, instruction⟩, .inr ⟨e, rfl⟩⟩

theorem State.loadedFits_iff (s : State) (k : Nat) : (s.loadVariant k).isSome = true ↔
    (s.pos k).orderKind = .load ∧ ∃ v, (s.pos k).instruction = some (.load v) := by
  simp only [Option.isSome_iff_exists, s.loadVariant_iff, exists_and_left]

theorem State.removedFits_iff (s : State) (k : Nat) : (s.loadInstruction k == some .remove) = true ↔
    (s.pos k).orderKind = .load ∧ (s.pos k).instruction = some .remove := by
  rw [beq_iff_eq, s.loadInstruction_iff]

theorem State.stuckFits_iff (s : State) (k : Nat) : (s.unloadLane k).isSome = true ↔
    (s.pos k).orderKind = .unload ∧ ∃ x r, (s.pos k).instruction = some (.unload x r) := by
  simp only [Option.isSome_iff_exists, s.unloadLane_iff, exists_and_left]

theorem State.keptFits_iff (s : State) (k : Nat) : (s.unloadLane k == some .keep || s.unloadLane k == some .noLane) = true ↔
    (s.pos k).orderKind = .unload ∧
      ∃ r, (s.pos k).instruction = some (.unload .keep r) ∨ (s.pos k).instruction = some (.unload .noLane r) := by
  rw [Bool.or_eq_true, beq_iff_eq, beq_iff_eq, s.unloadLane_iff, s.unloadLane_iff, ← and_or_left, ← exists_or]

theorem Lane.logged_iff (x : Lane) : x.logged.isSome = true ↔ x = .ship ∨ x = .reject := by
  cases x <;> simp [Lane.logged]

theorem State.unloadedFits_iff (s : State) (k : Nat) : ((s.unloadLane k).bind Lane.logged).isSome = true ↔
    (s.pos k).orderKind = .unload ∧
      ∃ r, (s.pos k).instruction = some (.unload .ship r) ∨ (s.pos k).instruction = some (.unload .reject r) := by
  have logged : ((s.unloadLane k).bind Lane.logged).isSome = true ↔ ∃ x, s.unloadLane k = some x ∧ (x = .ship ∨ x = .reject) := by
    simp only [← Lane.logged_iff]
    cases s.unloadLane k <;> simp
  rw [logged]
  simp only [s.unloadLane_iff, and_or_left, exists_or, exists_eq_right]

/-- The block of a pallet opens its second pass (R110). -/
def Pallet.secondPass (p : Pallet) : Pallet := { p with workpiece := p.workpiece.map Workpiece.secondPass }

/-- A pallet whose block is stuck on it (R115). -/
def Pallet.stuck (p : Pallet) : Pallet := { p with divert := true, workpiece := p.workpiece.map (Workpiece.raiseTo .suspect) }

theorem State.readyResult_eq (s : State) (k : Nat) :
    State.readyResult k s = ok ((s.onOccupant k Pallet.secondPass).finishOrder k .ready) := rfl

theorem State.stuckResult_eq (s : State) (k : Nat) : State.stuckResult k s = ok ((s.onOccupant k Pallet.stuck).finishOrder k .stuck) := by
  have stuck : ∀ n, (s.onPallet n fun p => { p with divert := true }).onWorkpiece n (Workpiece.raiseTo .suspect) = s.onPallet n Pallet.stuck :=
    fun n => s.onPallet_onPallet n _ _ fun _ => rfl
  unfold State.stuckResult State.onOccupant
  cases s.palletAt k with
  | none => rfl
  | some n => simp only [stuck]

/-- An update of the occupant's record that changes nothing leaves the state. -/
theorem State.onOccupant_id (s : State) (k : Nat) : s.onOccupant k id = s := by
  have kept : ∀ n, s.onPallet n id = s := fun n => by
    simp [State.onPallet, State.onRst]
  unfold State.onOccupant
  cases s.palletAt k with
  | none => rfl
  | some n => exact kept n

theorem Pallet.secondPass_eq : Pallet.secondPass = fun q => { q with workpiece := q.workpiece.map fun w =>
    { w with pass := 2, disposition := if w.disposition = .rework then .good else w.disposition } } := by
  have second : Workpiece.secondPass = fun w =>
      { w with pass := 2, disposition := if w.disposition = .rework then .good else w.disposition } := by
    funext w; simp [Workpiece.secondPass]
  funext q
  rw [Pallet.secondPass, second]

/-- Settles O43: READY, EMPTY, KEPT and STUCK end the order, and a result that does not fit its instruction is refused. -/
theorem loadAndUnloadResultsEndTheOrder : Obligations.LoadAndUnloadResultsEndTheOrder := by
  intro k tag o s hr reports shape working l p ends unfit loading kept unloading empties
  have unrecorded : ∀ (g : State) (r : Result), ok (g.finishOrder k.val r) = ok ((g.onOccupant k.val id).finishOrder k.val r) := fun g r => by
    rw [g.onOccupant_id]
  refine ⟨fun load second => ?_, fun other => ?_, fun fit => ?_, fun other => ?_, fun fit => ?_, fun other => ?_, fun fit => ?_,
    fun other => ?_, fun other cs => ?_, fun other => ?_, fun other => ?_⟩
  · rw [← Pallet.secondPass_eq]
    exact clear_ends hr reports shape working rfl ((State.readyFits_iff _ k.val).mpr ⟨load, second⟩) (fun _ => rfl)
      (State.readyResult_eq _ k.val)
  · exact clear_unfit hr reports working rfl (mt (State.readyFits_iff _ k.val).mp other)
  · exact clear_ends hr reports shape working rfl ((State.emptyFits_iff _ k.val).mpr fit) (fun _ => rfl) (unrecorded _ .empty)
  · exact clear_unfit hr reports working rfl (mt (State.emptyFits_iff _ k.val).mp other)
  · exact clear_ends hr reports shape working rfl ((State.keptFits_iff _ k.val).mpr fit) (fun _ => rfl) (unrecorded _ .kept)
  · exact clear_unfit hr reports working rfl (mt (State.keptFits_iff _ k.val).mp other)
  · exact clear_ends hr reports shape working rfl ((State.stuckFits_iff _ k.val).mpr fit) (fun _ => rfl) (State.stuckResult_eq _ k.val)
  · exact clear_unfit hr reports working rfl (mt (State.stuckFits_iff _ k.val).mp other)
  · exact clear_unfit hr reports working rfl (mt (State.loadedFits_iff _ k.val).mp other)
  · exact clear_unfit hr reports working rfl (mt (State.removedFits_iff _ k.val).mp other)
  · exact clear_unfit hr reports working rfl (mt (State.unloadedFits_iff _ k.val).mp other)

end Sys2Proof.Machine
end

section
/-! SUPPORT. REMOVED and UNLOADED (O44): the completion record that they add. -/

namespace Sys2Proof.Machine

/-- The completion record of a workpiece as it stands on pallet `n` (R117, R118). -/
def State.completion (s : State) (n : Nat) (lane : LogLane) (w : Workpiece) : CompletionRecord :=
  { number := countUp 4294967295 s.rst.recordCounter
    detail := some { lane := lane, pallet := n, variant := w.variant, disposition := w.disposition, passes := w.pass, stamp := s.ctm.clock }
    serial := w.serial, history := w.history }

/-- The record stands at the tail of the log, and the workpiece is detached. -/
def State.completed (s : State) (n : Nat) (lane : LogLane) (w : Workpiece) : State :=
  (s.onRst fun r => { r with recordCounter := countUp 4294967295 r.recordCounter, log := r.log ++ [s.completion n lane w] }).onPallet n
    fun p => { p with workpiece := none }

theorem State.completeWorkpiece_carrying {s : State} {n : Nat} {w : Workpiece} (lane : LogLane) (carries : s.workpiece n = some w)
    (sound : s.rst.errors = []) : s.completeWorkpiece n lane = s.completed n lane w := by
  have written := State.rewriteCells_sound
    (s := s.onRst fun r => { r with recordCounter := countUp 4294967295 r.recordCounter, log := r.log ++ [s.completion n lane w] }) sound
    (logCells ((s.rst.logHead + s.rst.log.length) % 32))
  rw [State.completeWorkpiece, carries]
  exact congrArg (fun t : State => t.onPallet n fun p => { p with workpiece := none }) written

theorem State.completed_only (s : State) (n : Nat) (lane : LogLane) (w : Workpiece) : s.RecordsOnly (s.completed n lane w) :=
  ⟨⟨⟨_, _, _, _, _, rfl⟩, id, rfl, rfl, rfl, rfl, rfl⟩, rfl, rfl, rfl⟩

theorem State.completeResult_full {s : State} (lane : LogLane) (r : Result) (k : Nat) (full : 32 ≤ s.rst.log.length) :
    State.completeResult lane r k s = refuse (s.attend fun a => { a with logFull := some k }) .logFull :=
  if_pos (decide_eq_true full)

theorem State.completeResult_takes {s : State} {k n : Nat} {w : Workpiece} (lane : LogLane) (r : Result) (room : s.rst.log.length < 32)
    (occupied : s.palletAt k = some n) (carries : s.workpiece n = some w) (sound : s.rst.errors = []) :
    State.completeResult lane r k s = ok ((s.completed n lane w).finishOrder k r) := by
  rw [State.completeResult, if_neg (by simpa [State.logFull] using room), occupied]
  simp only [State.completeWorkpiece_carrying lane carries sound]

/-- A CLEAR that ends position `k`'s order with a completion record of the workpiece `w` of pallet `n`; while the log holds 32 records
it is refused, and only raises LOG_FULL (R118). -/
def State.LogsOrRefuses (s : State) (c : Instr) (k : Fin 16) (tag : Byte) (r : Result) (n : Nat) (lane : LogLane) (p : Pallet)
    (w : Workpiece) : Prop :=
  (32 ≤ s.rst.log.length →
    exec c s = .next (s.replied (s.attend fun a => { a with logFull := some k.val }) (.sl k) tag (.refused .logFull) [])) ∧
  (s.rst.log.length < 32 → s.Shaped → ∃ t, exec c s = .next t ∧ s.Answered t (.sl k) tag .ok [] ∧ s.OrderEnded t k.val r ∧
    (s.completed n lane w).SameLists t ∧ ∀ m, t.pallet m = if m = n then some { p with workpiece := none } else s.pallet m)

/-- A CLEAR whose result adds a completion record (R118). -/
theorem clear_completes {c : Instr} {k : Fin 16} {tag : Byte} {o n : Nat} {lane : LogLane} {p : Pallet} {w : Workpiece} {s : State}
    {cells : List (State → List Cell)} {result r : Result} {fits : Nat → State → Bool} {op : Nat → State → State × Reply}
    {body : State → List Byte} (hr : s.Ready (.sl k)) (reports : s.Reports k.val o) (working : (s.pos k.val).phase = .working)
    (occupied : s.palletAt k.val = some n) (registered : s.pallet n = some p) (carries : p.workpiece = some w)
    (arm : exec c s = s.grant c .station (.sl k) tag cells
      fun s => s.atStation (.sl k) fun k s => s.clearReport o false result fits op body k)
    (fit : fits k.val (s.granted c (.sl k)) = true)
    (completes : op k.val (s.granted c (.sl k)) = State.completeResult lane r k.val (s.granted c (.sl k))) :
    s.LogsOrRefuses c k tag r n lane p w := by
  let g := s.granted c (.sl k)
  refine ⟨fun full => ?_, fun room shape => ?_⟩
  · have declined : g.clearReport o false result fits op body k.val = refuse (g.attend fun a => { a with logFull := some k.val }) .logFull :=
      (State.clearReport_working (s := g) reports working result fits op body).trans
        ((if_pos fit).trans (completes.trans (State.completeResult_full (s := g) lane r k.val full)))
    exact arm.trans (State.grant_leads (u := s.attend fun a => { a with logFull := some k.val }) hr rfl declined)
  · have workpiece : g.workpiece n = some w := (congrArg (Option.bind · Pallet.workpiece) registered).trans carries
    obtain ⟨t, next, answered, ended, lists, pallets, -⟩ := clear_finishes hr reports shape working arm fit (g.completed_only n lane w)
      (completes.trans (State.completeResult_takes (s := g) lane r room occupied workpiece hr.1.2))
    refine ⟨t, next, answered, ended, lists, fun m => (pallets m).trans ?_⟩
    exact State.pallet_onPallet_of (s := s.onRst fun r => { r with
      recordCounter := countUp 4294967295 r.recordCounter, log := r.log ++ [s.completion n lane w] })
      registered (fun p => { p with workpiece := none }) (fun _ => rfl) m

/-- The lane of an UNLOAD order that is logged: SHIP and REJECT (R114). -/
theorem State.unloadedResult_eq {s : State} {k : Nat} {lane : LogLane} (lane_of : (s.unloadLane k).bind Lane.logged = some lane) :
    State.unloadedResult k s = State.completeResult lane .unloaded k s := by
  rw [State.unloadedResult, lane_of]

theorem State.unloadLane_of {s : State} {k : Nat} {x : Lane} {r : Route} (unload : (s.pos k).orderKind = .unload)
    (instruction : (s.pos k).instruction = some (.unload x r)) : (s.unloadLane k).bind Lane.logged = x.logged := by
  rw [(s.unloadLane_iff k x).mpr ⟨unload, r, instruction⟩]; rfl

/-- An UNLOADED in a lane that is logged. -/
theorem unloaded_completes {k : Fin 16} (tag : Byte) {o n : Nat} {lane : LogLane} {p : Pallet} {w : Workpiece} {s : State}
    (hr : s.Ready (.sl k)) (reports : s.Reports k.val o) (working : (s.pos k.val).phase = .working)
    (occupied : s.palletAt k.val = some n) (registered : s.pallet n = some p) (carries : p.workpiece = some w)
    (logged : (s.unloadLane k.val).bind Lane.logged = some lane) :
    s.LogsOrRefuses (.clearUnloaded (.sl k) tag o) k tag .unloaded n lane p w :=
  clear_completes hr reports working occupied registered carries rfl (congrArg Option.isSome logged)
    (State.unloadedResult_eq (s := s.granted (.clearUnloaded (.sl k) tag o) (.sl k)) logged)

/-- Settles O44: REMOVED and UNLOADED add a completion record, or are refused while the log is full. -/
theorem completionRecordIsAddedOrRefused : Obligations.CompletionRecordIsAddedOrRefused := by
  intro k tag o n lane c r p w s hr reports working occupied registered carries which l
  have completes : s.LogsOrRefuses c k tag r n lane p w := by
    obtain ⟨rfl, rfl, rfl, load, remove⟩ | ⟨rfl, rfl, unload, route, ⟨rfl, ship⟩ | ⟨rfl, reject⟩⟩ := which
    · exact clear_completes hr reports working occupied registered carries rfl ((State.removedFits_iff _ k.val).mpr ⟨load, remove⟩) rfl
    · exact unloaded_completes tag hr reports working occupied registered carries (State.unloadLane_of unload ship)
    · exact unloaded_completes tag hr reports working occupied registered carries (State.unloadLane_of unload reject)
  obtain ⟨full, adds⟩ := completes
  refine ⟨full, fun room shape => ?_⟩
  obtain ⟨t, next, answered, ended, ⟨queue, schedule, log, counter⟩, pallets⟩ := adds room shape
  have pending : t.logPending = true := by rw [State.logPending, log]; simp [State.completed, State.onPallet]
  exact ⟨t, next, answered, ended, log, counter, queue, schedule, pending, pallets⟩

end Sys2Proof.Machine
end

section
/-! SUPPORT. LOADED (O42): its refusals in order, the new workpiece, and the decrement of the schedule's head. -/

namespace Sys2Proof.Machine

/-! ### The new workpiece (R26, R27, R108) -/

/-- The block of a taken LOADED; a serial that another live workpiece carries makes it SUSPECT. -/
def Workpiece.created (serial : List Byte) (v : Nat) (duplicate : Bool) : Workpiece :=
  { serial := .text serial, variant := v, pass := 1, history := [], disposition := if duplicate then .suspect else .good }

theorem State.createWorkpiece_eq (s : State) (n v : Nat) (serial : List Byte) : s.createWorkpiece n v serial =
    (s.onPallet n fun p => { p with workpiece := some (.created serial v (s.serialTaken n serial)) }).attend
      fun a => { a with duplicateSerial := if s.serialTaken n serial then some n else a.duplicateSerial } := by
  cases taken : s.serialTaken n serial with
  | false => simp only [State.createWorkpiece, taken]; rfl
  | true =>
    have raised := s.onPallet_onPallet n (fun p => { p with workpiece := some (.created serial v false) })
      (fun p => { p with workpiece := p.workpiece.map (Workpiece.raiseTo .suspect) }) fun _ => rfl
    simp only [State.createWorkpiece, taken, if_true]
    exact congrArg (fun t : State => t.attend fun a => { a with duplicateSerial := some n }) raised

/-! ### The head decrement (R109) -/

/-- A head entry of variant `v` is lowered by 1, and leaves the schedule at its last piece. -/
def lowerHead (v : Nat) : List ScheduleEntry → List ScheduleEntry
  | [] => []
  | e :: es => if e.variant = v then (if e.quantity ≤ 1 then es else { e with quantity := e.quantity - 1 } :: es) else e :: es

theorem State.decrementHead_eq (s : State) (v : Nat) : s.decrementHead v =
    (s.onRst fun r => { r with schedule := lowerHead v r.schedule }).attend fun a =>
      { a with scheduleEmpty := a.scheduleEmpty || ((lowerHead v s.rst.schedule).isEmpty && !s.rst.schedule.isEmpty) } :=
  State.noteSchedule_eq s (s.onRst fun r => { r with schedule := lowerHead v r.schedule })

/-! ### The operation of LOADED -/

/-- The new block stands on pallet `n`, and the head of the schedule is lowered. -/
def State.loaded (s : State) (n v : Nat) (serial : List Byte) : State := (s.createWorkpiece n v serial).decrementHead v

theorem State.loaded_only (s : State) (n v : Nat) (serial : List Byte) : s.RecordsOnly (s.loaded n v serial) := by
  rw [State.loaded, State.decrementHead_eq, s.createWorkpiece_eq]
  exact ⟨⟨⟨_, _, _, _, _, rfl⟩, id, rfl, rfl, rfl, rfl, rfl⟩, rfl, rfl, rfl⟩

theorem State.loaded_rst (s : State) (n v : Nat) (serial : List Byte) : (s.loaded n v serial).rst =
    { (s.onPallet n fun p => { p with workpiece := some (.created serial v (s.serialTaken n serial)) }).rst with
      schedule := lowerHead v s.rst.schedule } := by
  rw [State.loaded, State.decrementHead_eq, s.createWorkpiece_eq]; rfl

theorem State.loaded_attentions (s : State) (n v : Nat) (serial : List Byte) : (s.loaded n v serial).liu.attentions =
    { s.liu.attentions with
      duplicateSerial := if s.serialTaken n serial then some n else s.liu.attentions.duplicateSerial
      scheduleEmpty := s.liu.attentions.scheduleEmpty || ((lowerHead v s.rst.schedule).isEmpty && !s.rst.schedule.isEmpty) } := by
  rw [State.loaded, State.decrementHead_eq, s.createWorkpiece_eq]; rfl

theorem State.pallet_loaded {s : State} {n : Nat} {p : Pallet} (registered : s.pallet n = some p) (v : Nat) (serial : List Byte) (m : Nat) :
    (s.loaded n v serial).pallet m =
      if m = n then some { p with workpiece := some (.created serial v (s.serialTaken n serial)) } else s.pallet m := by
  rw [State.pallet, State.loaded_rst]
  exact State.pallet_onPallet_of registered
    (fun p => { p with workpiece := some (.created serial v (s.serialTaken n serial)) }) (fun _ => rfl) m

/-- LOADED under LOAD(v) for a registered pallet: its refusals in the model's order (assumption 29), and what it does where there is none. -/
theorem State.loadedResult_eq {s : State} {k v n : Nat} {p : Pallet} (serial : List Byte) (variant : s.loadVariant k = some v)
    (occupied : s.palletAt k = some n) (registered : s.pallet n = some p) :
    State.loadedResult serial k s =
      if validSerial serial = false ∨ member p.variants v = false then refuse s .range
      else if p.workpiece.isSome then refuse s .wrongState
      else ok ((s.loaded n v serial).finishOrder k (.loaded serial)) ((s.loaded n v serial).finishOrder k (.loaded serial)).headBytes := by
  have carrier : (s.palletAt k).bind s.pallet = some p := by rw [occupied]; exact registered
  have number : p.number = n := State.pallet_number registered
  rw [State.loadedResult, variant, carrier]
  simp only [number]
  cases validSerial serial with
  | false => simp
  | true =>
    cases member p.variants v with
    | false => simp
    | true => simp; rfl

/-- The end of an order leaves the lists, whether it completes a collection or not. -/
theorem State.finishOrder_lists {s : State} (k : Nat) (r : Result) (sound : s.rst.errors = []) : s.SameLists (s.finishOrder k r) := by
  have orders := s.ended_orders k r
  rw [s.finishOrder_eq, State.collect_sound _ _ (orders.errors.trans sound)]
  exact orders.lists.trans ((State.testCollection_collects _ _).keeps (.refl _)).lists

theorem State.headBytes_of_schedule {s t : State} (h : t.rst.schedule = s.rst.schedule) : t.headBytes = s.headBytes := by
  rw [State.headBytes, h]; rfl

/-- Settles O42: LOADED under LOAD(v) puts a new workpiece on the pallet, or is refused. -/
theorem loadedCreatesTheWorkpiece : Obligations.LoadedCreatesTheWorkpiece := by
  intro k tag o v n cs p s hr reports working load instruction occupied registered l
  let g := s.granted (.clearLoaded l tag o cs) l
  have fit : (g.loadVariant k.val).isSome = true := (g.loadedFits_iff k.val).mpr ⟨load, v, instruction⟩
  have answer := State.loadedResult_eq (s := g) cs ((g.loadVariant_iff k.val v).mpr ⟨load, instruction⟩) occupied registered
  refine ⟨fun bad => ?_, fun valid allowed carries => ?_, fun valid allowed bare shape => ?_⟩
  · exact clear_declines hr reports working rfl fit (answer.trans (if_pos bad))
  · exact clear_declines hr reports working rfl fit (answer.trans ((if_neg (by simp [valid, allowed])).trans (if_pos carries)))
  · let w := g.loaded n v cs
    obtain ⟨t, next, answered, ended, ⟨queue, schedule, log, -⟩, pallets, f, x, attentions⟩ := clear_finishes hr reports shape working rfl fit
      (g.loaded_only n v cs) (answer.trans ((if_neg (by simp [valid, allowed])).trans (if_neg (by simp [bare]))))
    have store : w.rst = { (s.onPallet n fun p => { p with workpiece := some (.created cs v (s.serialTaken n cs)) }).rst with
        schedule := lowerHead v s.rst.schedule } := g.loaded_rst n v cs
    have lowered : t.rst.schedule = lowerHead v s.rst.schedule := by rw [schedule, store]
    rw [g.loaded_attentions n v cs] at attentions
    refine ⟨t, next, ?_, ended, fun m => (pallets m).trans (State.pallet_loaded (s := g) registered v cs m), ?_, ?_, ?_, ?_, ?_⟩
    · obtain ⟨-, finished, -⟩ := State.finishOrder_lists k.val (.loaded cs) ((g.loaded_only n v cs).sound hr.1.2)
      rwa [State.headBytes_of_schedule (schedule.trans finished.symm)]
    · rw [attentions]; rfl
    · rw [lowered]; cases s.rst.schedule <;> rfl
    · rw [attentions, lowered]; rfl
    · rw [queue, store]; rfl
    · rw [log, store]; rfl

end Sys2Proof.Machine
end

section
/-! SUPPORT. ARRIVED with a pallet (O46): its refusals in order, what it takes from the return queue and raises, and the LOAD order. -/

namespace Sys2Proof.Machine

/-! ### The pallet that arrives (R105, R106) -/

/-- The return queue without pallet `n`, which leaves the first place it holds there (R105). -/
def State.queueWithout (s : State) (n : Nat) : List Nat :=
  match s.queuePlace n with
  | none => s.rst.returnQueue
  | some i => s.rst.returnQueue.eraseIdx i

/-- ORDER_SLIP once pallet `n` has arrived: raised where its place was behind the head (R105). -/
def State.slipOf (s : State) (n : Nat) : Option (Nat × Nat) :=
  match s.queuePlace n with
  | none => s.liu.attentions.orderSlip
  | some i => if i = 0 then s.liu.attentions.orderSlip else some (i, n)

theorem State.takeFromQueue_eq (s : State) (n : Nat) : s.takeFromQueue n =
    (s.onRst fun r => { r with returnQueue := s.queueWithout n }).attend fun a => { a with orderSlip := s.slipOf n } := by
  unfold State.takeFromQueue State.queueWithout State.slipOf
  cases s.queuePlace n with
  | none => rfl
  | some i => by_cases head : i = 0 <;> simp only [head, if_true, if_false] <;> rfl

/-- FIXTURE_MISMATCH as the instruction given to pallet `n` leaves it (R106). -/
def State.mismatchOf (s : State) (n : Nat) (i : Instruction) : Option (Nat × Nat) :=
  if i = .empty .fixture then some (n, ((s.rst.schedule.head?).map (·.variant)).getD 0) else s.liu.attentions.fixtureMismatch

theorem State.noteInstruction_eq (s : State) (n : Nat) (i : Instruction) : s.noteInstruction n i = s.attend fun a =>
    { a with scheduleEmpty := a.scheduleEmpty || i == .empty .noSchedule, fixtureMismatch := s.mismatchOf n i } := by
  have other : i ≠ .empty .noSchedule → i ≠ .empty .fixture → s = s.attend fun a =>
      { a with scheduleEmpty := a.scheduleEmpty || i == .empty .noSchedule, fixtureMismatch := s.mismatchOf n i } := fun h h' => by
    have empty : (i == .empty .noSchedule) = false := beq_false_of_ne h
    have fixture : s.mismatchOf n i = s.liu.attentions.fixtureMismatch := if_neg h'
    rw [empty, fixture]
    simp only [Bool.or_false]; rfl
  cases i with
  | passTwo | remove | load | unload => exact other nofun nofun
  | empty e =>
    cases e with
    | maintenance => exact other nofun nofun
    | noSchedule => simp [State.noteInstruction, State.attend, State.onLiu, State.mismatchOf]
    | fixture => simp [State.noteInstruction, State.attend, State.onLiu, State.mismatchOf]

/-- Pallet `n` has left the return queue and is position `k`'s occupant; the attentions of R105 and R106 are raised. -/
def State.placed (s : State) (k n : Nat) (i : Instruction) : State :=
  ((s.takeFromQueue n).noteInstruction n i).setOccupant k (.pallet n)

theorem State.placed_eq (s : State) (k n : Nat) (i : Instruction) : s.placed k n i =
    ((s.onRst fun r => { r with returnQueue := s.queueWithout n }).attend fun a => { a with
      orderSlip := s.slipOf n, scheduleEmpty := a.scheduleEmpty || i == .empty .noSchedule
      fixtureMismatch := s.mismatchOf n i }).setOccupant k (.pallet n) := by
  rw [State.placed, State.noteInstruction_eq, s.takeFromQueue_eq]; rfl

/-- The LOAD order with its instruction (R106). -/
def GivenOrder.load (i : Instruction) : GivenOrder := { kind := .load, program := none, instruction := some i }

/-- The state that a taken ARRIVED leaves: the LOAD order is issued and its frame posted. -/
def State.received (s : State) (k n : Nat) (i : Instruction) : State :=
  ((s.placed k n i).issueOrder k (((s.pos k).orderNumber + 1) % 256) .load none (some i)).postOrder k

theorem State.acceptArrival_eq {s : State} {n : Nat} {q : Pallet} (k : Nat) (number : q.number = n) :
    ∃ data, s.acceptArrival k q = ok (s.received k n (s.loadDecision q)) data := by
  subst number
  exact ⟨_, rfl⟩

theorem State.IssuesOrders.motion {s t : State} (h : s.IssuesOrders t) : s.SameMotion t := by
  obtain ⟨m, ps, ds, store⟩ := h.store
  exact ⟨h.ixc, h.btk, h.wlu, by rw [h.aar], by rw [store]⟩

section received
variable (s : State) (k n : Nat) (i : Instruction)

theorem State.placed_rst : (s.placed k n i).rst =
    { s.rst with returnQueue := s.queueWithout n, positions := (s.placed k n i).rst.positions } := by
  rw [s.placed_eq]; rfl

theorem State.issueOrder_rst (number : Nat) (kind : OrderKind) (program : Option Nat) (x : Option Instruction) :
    (s.issueOrder k number kind program x).rst = { s.rst with
      positions := (s.issueOrder k number kind program x).rst.positions
      details := (s.issueOrder k number kind program x).rst.details } := rfl

theorem State.received_rst : ∃ ps ds, (s.received k n i).rst =
    { s.rst with returnQueue := s.queueWithout n, positions := ps, details := ds } := by
  rw [State.received, State.postOrder_rst, State.issueOrder_rst, s.placed_rst]
  exact ⟨_, _, rfl⟩

theorem State.received_attentions : (s.received k n i).liu.attentions = { s.liu.attentions with
    orderSlip := s.slipOf n, scheduleEmpty := s.liu.attentions.scheduleEmpty || i == .empty .noSchedule
    fixtureMismatch := s.mismatchOf n i } := by
  rw [State.received, s.placed_eq]; rfl

theorem State.issueOrder_frames (number : Nat) (kind : OrderKind) (program : Option Nat) (x : Option Instruction) :
    s.Frames (s.issueOrder k number kind program x) := ⟨rfl, rfl, rfl, .of_links rfl⟩

theorem State.received_frames : s.Frames (s.received k n i) := by
  have placed : s.Frames (s.placed k n i) := by
    rw [s.placed_eq]; exact ⟨rfl, rfl, rfl, .of_links rfl⟩
  exact (placed.trans (State.issueOrder_frames _ k _ _ _ _)).trans (State.postOrder_frames _ k)

theorem State.received_motion : s.SameMotion (s.received k n i) := by
  have placed : s.SameMotion (s.placed k n i) := by
    rw [s.placed_eq]; exact ⟨rfl, rfl, rfl, rfl, rfl⟩
  exact placed.trans ((State.issueOrder_issues _ k _ _ _ _).trans (State.postOrder_issues _ k)).motion

theorem State.placed_elsewhere : s.SameElsewhere (s.placed k n i) k := by
  rw [s.placed_eq]
  exact .trans (fun _ _ => ⟨rfl, rfl, rfl, rfl⟩) (State.onPos_elsewhere _ k _)

theorem State.received_elsewhere : s.SameElsewhere (s.received k n i) k :=
  ((s.placed_elsewhere k n i).trans (State.issueOrder_elsewhere _ k _ _ _ _)).trans fun _ _ => ⟨rfl, rfl, rfl, rfl⟩

theorem State.received_posts (k : Fin 16) (links : s.liu.links.length = 18) :
    ((s.received k.val n i).link (.sl k)).unsolicited = some (.order ((s.received k.val n i).orderFrame k.val)) := by
  refine State.postOrder_posts _ k ?_
  rw [s.placed_eq]; exact links
end received

/-- Position `k`, its order detail and its start timer once the LOAD order is issued. -/
theorem State.received_at (s : State) {k : Nat} (n : Nat) (i : Instruction) (h : s.HasEntry k) :
    (s.received k n i).pos k = { (s.pos k).given (.load i) with occupant := .pallet n } ∧
      (s.received k n i).detail k = (s.detail k).given (((s.pos k).orderNumber + 1) % 256) (.load i) ∧
      (s.received k n i).startTimer k = some 0 := by
  have here : (s.placed k n i).pos k = { s.pos k with occupant := .pallet n } := by
    rw [s.placed_eq]; exact State.pos_onPos_self _ _ h.position
  have record : (s.placed k n i).detail k = s.detail k := by rw [s.placed_eq]; rfl
  have next : (s.placed k n i).nextNumber k = ((s.pos k).orderNumber + 1) % 256 := by rw [State.nextNumber, here]
  have place : k < (s.placed k n i).rst.positions.length := by
    rw [s.placed_eq]; exact (State.onPos_length _ k _).symm ▸ h.position
  obtain ⟨position, detail⟩ := (s.placed k n i).enterOrder_at (.load i) place (by rw [s.placed_eq]; exact h.detail)
  rw [next, here] at position
  rw [next, record] at detail
  refine ⟨position, detail, State.startTimer_set_self _ _ ?_⟩
  rw [s.placed_eq]; exact h.startTimer

/-! ### The checks of an ARRIVED with a pallet (R103) -/

theorem State.positionOf_isSome_iff (s : State) (n : Nat) :
    (s.positionOf n).isSome = true ↔ ∃ j, j < 16 ∧ (s.pos j).occupant = .pallet n := by
  simp [State.positionOf, List.find?_isSome]

section arrive
variable {s : State} {k o n : Nat}

theorem State.arrive_refuses_phase (reports : s.Reports k o) (range : n ≤ 255)
    (other : ¬((s.pos k).orderKind = .feed ∧ (s.pos k).phase = .ordered)) : s.arrive o n k = refuse s .wrongState := by
  rw [State.arrive, decide_eq_false (Nat.not_lt.mpr range), reports.arrives]
  by_cases done : (s.pos k).orderKind = .feed ∧ (s.pos k).phase = .done
  · obtain ⟨feed, done⟩ := done
    rw [if_pos (by simp [feed, done])]
    exact if_pos (by simp [done])
  · have fails : ¬((s.pos k).orderKind == .feed && ((s.pos k).phase == .ordered || (s.pos k).phase == .done)) = true := by
      simp only [Bool.and_eq_true, Bool.or_eq_true, beq_iff_eq]
      rintro ⟨feed, ordered | ended⟩ <;> [exact other ⟨feed, ordered⟩; exact done ⟨feed, ended⟩]
    rw [if_neg fails]

/-- An ARRIVED with a pallet whose checks of R79 and of the order pass. -/
theorem State.arrivalRefusal_none (reports : s.Reports k o) (range : n ≤ 255) (feed : (s.pos k).orderKind = .feed)
    (ordered : (s.pos k).phase = .ordered) : s.arrivalRefusal k o (decide (255 < n)) = none := by
  rw [decide_eq_false (Nat.not_lt.mpr range), reports.arrives]
  exact if_pos (by simp [feed, ordered])

theorem State.arrive_unknown (passes : s.arrivalRefusal k o (decide (255 < n)) = none) (ordered : (s.pos k).phase = .ordered)
    (unknown : s.pallet n = none) :
    s.arrive o n k = refuse (s.attend fun a => { a with unknownPallet := some n }) .unknownPallet := by
  rw [State.arrive, passes]
  simp only [ordered, unknown]; rfl

theorem State.arrive_registered {q : Pallet} (passes : s.arrivalRefusal k o (decide (255 < n)) = none)
    (ordered : (s.pos k).phase = .ordered) (registered : s.pallet n = some q) :
    s.arrive o n k = if (s.positionOf n).isSome then refuse s .duplicatePallet else s.acceptArrival k q := by
  rw [State.arrive, passes]
  simp only [ordered, registered]; rfl
end arrive

/-- ARRIVED with a number other than 0 is the request on a pallet (R103). -/
theorem arrived_some {g : State} {k o n : Nat} {x : State × Reply} (some : 1 ≤ n) (h : g.arrive o n k = x) :
    (if n = 0 then g.arriveNone o k else g.arrive o n k) = x := (if_neg (by omega)).trans h

/-- Settles O46: ARRIVED places the pallet and issues its LOAD order, or is refused. -/
theorem arrivalIssuesTheLoadOrder : Obligations.ArrivalIssuesTheLoadOrder := by
  intro k tag o n s hr reports low high l p refused
  let g := s.granted (.arrived l tag o n) l
  have passes : p.orderKind = .feed → p.phase = .ordered → g.arrivalRefusal k.val o (decide (255 < n)) = none :=
    State.arrivalRefusal_none (s := g) reports high
  refine ⟨fun other => ?_, fun feed ordered unknown => ?_, fun q feed ordered registered placed => ?_,
    fun q feed ordered registered away shape => ?_⟩
  · exact State.grant_answers hr rfl (arrived_some low (State.arrive_refuses_phase (s := g) reports high other))
  · exact State.grant_leads (u := s.attend fun a => { a with unknownPallet := some n }) hr rfl
      (arrived_some low (State.arrive_unknown (s := g) (passes feed ordered) ordered unknown))
  · exact State.grant_answers hr rfl (arrived_some low ((State.arrive_registered (s := g) (passes feed ordered) ordered registered).trans
      (if_pos ((g.positionOf_isSome_iff n).mpr placed))))
  · let i := s.loadDecision q
    let u := g.received k.val n i
    have nowhere : ¬((g.positionOf n).isSome = true) := fun c => by
      obtain ⟨j, hj, here⟩ := (g.positionOf_isSome_iff n).mp c
      exact away j hj here
    obtain ⟨data, accepts⟩ := State.acceptArrival_eq (s := g) k.val (State.pallet_number registered)
    have taken := (State.arrive_registered (s := g) (passes feed ordered) ordered registered).trans ((if_neg nowhere).trans accepts)
    obtain ⟨t, next, answered, closes⟩ := State.grant_does (u := u) (tag := tag) (p := .station)
      (op := fun s => s.atStation l fun k s => if n = 0 then s.arriveNone o k else s.arrive o n k) hr rfl
      (arrived_some low taken) (g.received_frames k.val n i)
    have kept := closes.keeps
    obtain ⟨record, starting, -⟩ := shape.tables k.isLt
    obtain ⟨here, detail, waiting⟩ := g.received_at n i ⟨shape.position k.isLt, record, starting⟩
    obtain ⟨ps, ds, store⟩ := g.received_rst k.val n i
    have store : t.rst = { s.rst with returnQueue := s.queueWithout n, positions := ps, details := ds } := closes.rst.trans store
    have attentions : t.liu.attentions = { s.liu.attentions with
        orderSlip := s.slipOf n, scheduleEmpty := s.liu.attentions.scheduleEmpty || i == .empty .noSchedule
        fixtureMismatch := s.mismatchOf n i } := closes.attentions.trans (g.received_attentions k.val n i)
    have detail := (kept.positions k.val).2.1.trans detail
    have elsewhere := kept.elsewhere (g.received_elsewhere k.val n i)
    refine ⟨t, data, next, answered, (kept.positions k.val).1.trans here, by rw [detail]; rfl, by rw [detail]; rfl, by rw [detail]; rfl,
      (kept.positions k.val).2.2.2.trans waiting, fun absent => ?_, fun j queued => ?_, by rw [attentions], fun e es fixture head => ?_,
      fun other => ?_, ?_, by rw [store], by rw [store], by rw [store], fun j hj => ?_, ?_, ?_⟩
    · rw [store, attentions]
      simp [State.queueWithout, State.slipOf, absent]
    · rw [store, attentions]
      simp [State.queueWithout, State.slipOf, queued]
    · rw [attentions]
      simp [State.mismatchOf, i, fixture, head]
    · rw [attentions]
      simp [State.mismatchOf, i, other]
    · rw [closes.frames l nofun, kept.orderFrame]
      exact g.received_posts n i k ((s.onLink_length l _).trans hr.2.1)
    · exact ⟨(elsewhere j hj).1, (elsewhere j hj).2.1⟩
    · constructor <;> rw [store]
    · exact (g.received_motion k.val n i).trans closes.sameMotion

end Sys2Proof.Machine
end

section
/-! SUPPORT. The placed targets and the learn record (O10), their laws: the part of the state they speak of, the moves that commands
make of it, and that every move keeps both laws. -/

namespace Sys2Proof.Machine

/-! ### What the two laws look at -/

/-- All that `State.TargetsPlaced` and `State.LearnUnheld` speak of: both copies of T, of the learn its outcome, the state of its record
and its candidate, and the Index Controller's state with the kind of the pending motion. -/
structure Aim where
  geometry : Option Geometry
  targets : Option (Int × Int)
  outcome : Option LearnOutcome
  record : LearnState
  placed : Option Int
  state : IxcState
  kind : Option MotionKind

/-- The aim of a state. -/
def State.aim (s : State) : Aim :=
  { geometry := s.rst.geometry, targets := s.rst.transfer.map fun t => (t.pending.target, t.working.target)
    outcome := s.wlu.outcome, record := s.wlu.record.state, placed := s.wlu.record.placed, state := s.ixc.state, kind := s.motionKind }

/-- The law of R124 with what keeps it. -/
structure Aim.Placed (x : Aim) : Prop where
  range : ∀ g, x.geometry = some g → 1000 ≤ g.pitch ∧ 1 ≤ g.resolution ∧ g.resolution ≤ 64
  copies : ∀ g, x.geometry = some g → ∃ p w, x.targets = some (p, w) ∧ g.Placed p ∧ g.Placed w
  candidate : ∀ g, x.geometry = some g → x.outcome = some .applied ∨ x.outcome = some .held ∨ x.record = .held →
    ∃ y, x.placed = some y ∧ g.Placed y
  sweeping : x.outcome.isSome = true → x.state = .sweep
  learning : x.state = .sweep → x.kind = some .learn

/-- The law of the learn record (R139, R140, R145). -/
def Aim.Unheld (x : Aim) : Prop := x.state = .permit ∨ x.state = .carry ∨ x.state = .sweep → x.kind = some .learn → x.record ≠ .held

theorem State.targetsPlaced_iff (s : State) : s.TargetsPlaced ↔ s.aim.Placed := by
  constructor
  · rintro ⟨range, copies, candidate, sweeping, learning⟩
    refine ⟨range, fun g hg => ?_, candidate, sweeping, learning⟩
    obtain ⟨t, ht, pending, working⟩ := copies g hg
    exact ⟨_, _, by simp only [State.aim, ht]; rfl, pending, working⟩
  · rintro ⟨range, copies, candidate, sweeping, learning⟩
    refine ⟨range, fun g hg => ?_, candidate, sweeping, learning⟩
    obtain ⟨p, w, targets, pending, working⟩ := copies g hg
    obtain ⟨t, ht, pair⟩ := Option.map_eq_some_iff.mp targets
    obtain ⟨rfl, rfl⟩ := Prod.mk.inj pair
    exact ⟨t, ht, pending, working⟩

theorem State.learnUnheld_iff (s : State) : s.LearnUnheld ↔ s.aim.Unheld := Iff.rfl

/-! ### The moves that commands make -/

/-- A motion's first states, in which its learn is under way (R49, R146). -/
def IxcState.early : IxcState → Bool
  | .permit | .carry | .sweep => true
  | .halt | .collect | .reseat | .settle | .advance | .fault => false

theorem IxcState.ne_sweep {y : IxcState} (quiet : y.early = false) : y ≠ .sweep := by rintro rfl; cases quiet

/-- A value that a copy of T may take: one that a copy has, a placed one (R6, R125), or the candidate of a learn that was applied or is
HELD (R145, R149). -/
inductive Aim.Offers (x : Aim) : Int → Prop where
  | pending {p w : Int} (h : x.targets = some (p, w)) : Offers x p
  | working {p w : Int} (h : x.targets = some (p, w)) : Offers x w
  | placed {g : Geometry} (h : x.geometry = some g) (y : Int) : Offers x (g.place y)
  | learned (h : x.outcome = some .applied ∨ x.record = .held) : Offers x (x.placed.getD 0)

/-- The state of a learn record that is HELD no more (R6, R140). -/
def LearnState.discard (r : LearnState) : LearnState := if r = .held then .discarded else r

/-- A geometry is written: both copies of T are placed from P, and a HELD result is dropped (R6, R165). -/
def Aim.rebuilt (x : Aim) (g : Geometry) : Aim :=
  { x with geometry := some g, targets := some (g.place g.pitch, g.place g.pitch), record := x.record.discard }

/-- A motion begins; a LEARN begins a new record (R48, R64, R139). -/
def Aim.begun (x : Aim) (k : MotionKind) : Aim :=
  match k with
  | .learn => { x with state := .permit, kind := some .learn, outcome := none, record := .inProgress, placed := none }
  | .index | .forward | .back => { x with state := .permit, kind := some k }

/-- The moves of an aim, but for the lift that takes a LEARN motion to SWEEP. -/
inductive Aim.Moves : Aim → Aim → Prop where
  /-- Outside PERMIT, CARRY and SWEEP the Index Controller may come to any state, and leave the motion; the learn of a sweep that is
  left has no outcome any more. -/
  | rests {x : Aim} {y : IxcState} {k : Option MotionKind} {o : Option LearnOutcome} {r : LearnState} (quiet : y.early = false)
      (outcome : o = none ∨ o = x.outcome ∧ ¬(x.state = .sweep ∧ x.kind = some .learn)) (record : r = x.record ∨ r ≠ .held) :
      Moves x { x with state := y, kind := k, outcome := o, record := r }
  /-- Outside SWEEP the pending motion may end. -/
  | parts {x : Aim} (off : x.state ≠ .sweep) : Moves x { x with kind := none }
  | begins {x : Aim} (off : x.state ≠ .sweep) (k : MotionKind) : Moves x (x.begun k)
  /-- The sweep ends with an outcome; its candidate, where it reaches one, is placed (R143, R144). -/
  | ends {x : Aim} {g : Geometry} {o : LearnOutcome} {c : Option Int} (sweeping : x.state = .sweep) (geometry : x.geometry = some g)
      (reached : (c = x.placed ∧ ∃ f, o = .failed f) ∨ ∃ y, c = some (g.place y)) : Moves x { x with outcome := some o, placed := c }
  /-- The learn write records the outcome and leads to RESEAT (R145). -/
  | writes {x : Aim} {o : LearnOutcome} (outcome : x.outcome = some o) :
      Moves x { x with outcome := none, record := o.recorded.1, state := .reseat }
  | retargets {x : Aim} (f : Int × Int → Int × Int) (offers : ∀ t, x.targets = some t → x.Offers (f t).1 ∧ x.Offers (f t).2) :
      Moves x { x with targets := x.targets.map f }
  | rebuilds {x : Aim} {g : Geometry} (off : x.state ≠ .sweep) (range : 1000 ≤ g.pitch ∧ 1 ≤ g.resolution ∧ g.resolution ≤ 64) :
      Moves x (x.rebuilt g)
  /-- The geometry is lost (R165). -/
  | unplaces {x : Aim} : Moves x { x with geometry := none }
  /-- The record takes a state other than HELD (R6, R149, R150). -/
  | drops {x : Aim} {r : LearnState} (free : r ≠ .held) : Moves x { x with record := r }
  | resets {x : Aim} : Moves x State.reset.aim

/-- The lift of the bar: CARRY, or SWEEP in a LEARN motion (R50). -/
def Aim.lifted (x : Aim) : Aim := { x with state := if x.kind = some .learn then .sweep else .carry }

/-- A law that every command keeps. -/
structure Aim.Law (P : Aim → Prop) : Prop where
  moves : ∀ {x y : Aim}, x.Moves y → P x → P y
  lifts : ∀ {x : Aim}, x.state = .permit → P x → P x.lifted

/-! ### Every move keeps the targets placed -/

theorem Aim.Placed.outcome_none {x : Aim} (h : x.Placed) (off : x.state ≠ .sweep) : x.outcome = none := by
  by_contra some
  exact off (h.sweeping (Option.isSome_iff_ne_none.mpr some))

theorem Aim.Placed.place {x : Aim} (h : x.Placed) {g : Geometry} (hg : x.geometry = some g) (y : Int) : g.Placed (g.place y) := by
  obtain ⟨pitch, low, high⟩ := h.range g hg
  exact Geometry.place_placed pitch low high y

theorem Aim.Placed.offered {x : Aim} (h : x.Placed) {g : Geometry} (hg : x.geometry = some g) {v : Int} (offers : x.Offers v) : g.Placed v := by
  obtain ⟨p, w, targets, pending, working⟩ := h.copies g hg
  cases offers with
  | pending e => rw [targets] at e; cases e; exact pending
  | working e => rw [targets] at e; cases e; exact working
  | placed e y => rw [hg] at e; cases e; exact h.place hg y
  | learned e =>
    obtain ⟨y, candidate, placed⟩ := h.candidate g hg (e.imp_right .inr)
    rw [candidate]; exact placed

theorem Aim.Placed.begun {x : Aim} (h : x.Placed) (off : x.state ≠ .sweep) (k : MotionKind) : (x.begun k).Placed := by
  have outcome := h.outcome_none off
  cases k with
  | learn => exact ⟨h.range, h.copies, fun g _ c => by simp [Aim.begun] at c, nofun, nofun⟩
  | index | forward | back => exact ⟨h.range, h.copies, h.candidate, fun c => by simp [Aim.begun, outcome] at c, nofun⟩

theorem LearnState.discard_ne_held (r : LearnState) : r.discard ≠ .held := by cases r <;> decide

theorem Aim.Placed.rebuilt {x : Aim} (h : x.Placed) {g : Geometry} (off : x.state ≠ .sweep)
    (range : 1000 ≤ g.pitch ∧ 1 ≤ g.resolution ∧ g.resolution ≤ 64) : (x.rebuilt g).Placed := by
  have placed := Geometry.place_placed range.1 range.2.1 range.2.2 g.pitch
  have outcome := h.outcome_none off
  refine ⟨?_, ?_, fun _ _ held => ?_, h.sweeping, h.learning⟩
  · rintro _ ⟨⟩; exact range
  · rintro _ ⟨⟩; exact ⟨_, _, rfl, placed, placed⟩
  · simp [Aim.rebuilt, outcome, LearnState.discard_ne_held] at held

theorem Aim.placed_law : Aim.Law Aim.Placed where
  moves {x y} m h := by
    cases m with
    | rests quiet outcome record =>
      have ended := fun away : ¬(x.state = .sweep ∧ x.kind = some .learn) => h.outcome_none fun e => away ⟨e, h.learning e⟩
      have none := outcome.elim id fun ⟨same, away⟩ => same.trans (ended away)
      refine ⟨h.range, h.copies, fun g hg held => h.candidate g hg (.inr (.inr ?_)), fun c => by simp [none] at c, fun e => absurd e (IxcState.ne_sweep quiet)⟩
      rcases record with same | free
      · simpa [none, same] using held
      · simp [none, free] at held
    | parts off => exact ⟨h.range, h.copies, h.candidate, h.sweeping, fun e => absurd e off⟩
    | begins off k => exact h.begun off k
    | @ends g o c sweeping geometry reached =>
      refine ⟨h.range, h.copies, fun g' hg held => ?_, fun _ => sweeping, h.learning⟩
      obtain rfl : g = g' := Option.some.inj (geometry.symm.trans hg)
      rcases reached with ⟨rfl, f, rfl⟩ | ⟨y, rfl⟩
      · exact h.candidate g geometry (.inr (.inr (by simpa using held)))
      · exact ⟨_, rfl, h.place geometry y⟩
    | @writes o outcome =>
      refine ⟨h.range, h.copies, fun g hg held => h.candidate g hg (.inr (.inl ?_)), nofun, nofun⟩
      cases o <;> simp_all [LearnOutcome.recorded]
    | retargets f offers =>
      refine ⟨h.range, fun g hg => ?_, h.candidate, h.sweeping, h.learning⟩
      obtain ⟨p, w, targets, -, -⟩ := h.copies g hg
      obtain ⟨pending, working⟩ := offers _ targets
      exact ⟨_, _, by rw [targets]; rfl, h.offered hg pending, h.offered hg working⟩
    | rebuilds off range => exact h.rebuilt off range
    | unplaces => exact ⟨nofun, nofun, nofun, h.sweeping, h.learning⟩
    | drops free =>
      refine ⟨h.range, h.copies, fun g hg held => h.candidate g hg ?_, h.sweeping, h.learning⟩
      exact held.imp_right fun c => c.elim .inl fun c => absurd c free
    | resets => exact ⟨nofun, nofun, nofun, nofun, nofun⟩
  lifts {x} permit h := by
    have outcome := h.outcome_none (by simp [permit])
    refine ⟨h.range, h.copies, h.candidate, fun c => by simp [Aim.lifted, outcome] at c, fun e => ?_⟩
    by_contra away
    simp [Aim.lifted, show x.kind ≠ some .learn from away] at e

/-! ### Every move keeps the record of a LEARN motion unheld -/

theorem Aim.unheld_law : Aim.Law Aim.Unheld where
  moves {x y} m h := by
    cases m with
    | rests quiet _ _ => rintro (rfl | rfl | rfl) <;> cases quiet
    | parts _ => exact fun _ e => nomatch e
    | begins _ k => cases k <;> simp [Aim.begun, Aim.Unheld]
    | ends _ _ _ | retargets _ _ | unplaces => exact h
    | writes _ => exact nofun
    | rebuilds _ _ => exact fun _ _ => LearnState.discard_ne_held _
    | drops free => exact fun _ _ => free
    | resets => exact nofun
  lifts {x} permit h := fun _ learn => h (.inl permit) learn

/-! ### Chains of moves -/

/-- What commands other than LIFTED do to the aim: a chain of moves. -/
def State.Leads (s t : State) : Prop := Relation.ReflTransGen Aim.Moves s.aim t.aim

theorem State.Leads.of_aim {s t : State} (h : t.aim = s.aim) : s.Leads t := by rw [State.Leads, h]

theorem State.Leads.refl (s : State) : s.Leads s := .of_aim rfl

theorem State.Leads.trans {s t u : State} (a : s.Leads t) (b : t.Leads u) : s.Leads u := Relation.ReflTransGen.trans a b

theorem State.Leads.move {s t : State} {x : Aim} (m : s.aim.Moves x) (e : t.aim = x) : s.Leads t := .single (e ▸ m)

theorem State.Leads.then_aim {s t u : State} (h : s.Leads t) (e : u.aim = t.aim) : s.Leads u := h.trans (.of_aim e)

theorem State.Leads.after_aim {s t u : State} (h : t.Leads u) (e : t.aim = s.aim) : s.Leads u := (State.Leads.of_aim e).trans h

theorem State.Leads.foldl {α : Type} {f : State → α → State} (h : ∀ (u : State) (x : α), u.Leads (f u x)) (xs : List α) (s : State) :
    s.Leads (xs.foldl f s) := by
  induction xs generalizing s with
  | nil => exact .refl s
  | cons x xs ih => exact (h s x).trans (ih _)

/-- What every move keeps, a chain of moves keeps. -/
theorem Aim.along {P : Aim → Prop} (step : ∀ {x y : Aim}, x.Moves y → P x → P y) {x y : Aim} (h : Relation.ReflTransGen Aim.Moves x y)
    (hx : P x) : P y := by
  induction h with
  | refl => exact hx
  | tail _ m ih => exact step m ih

theorem State.Leads.keeps {s t : State} {P : Aim → Prop} (h : s.Leads t) (law : Aim.Law P) (hs : P s.aim) : P t.aim :=
  Aim.along law.moves h hs

theorem Aim.Moves.unswept {x y : Aim} (m : x.Moves y) (off : x.state ≠ .sweep) : y.state ≠ .sweep := by
  cases m with
  | rests quiet _ _ => exact IxcState.ne_sweep quiet
  | begins _ k => cases k <;> nofun
  | writes _ | resets => nofun
  | parts _ | ends _ _ _ | retargets _ _ | rebuilds _ _ | unplaces | drops _ => exact off

/-- No move but the lift leads into SWEEP. -/
theorem State.Leads.unswept {s t : State} (h : s.Leads t) (off : s.ixc.state ≠ .sweep) : t.ixc.state ≠ .sweep :=
  Aim.along (P := fun x => x.state ≠ .sweep) Aim.Moves.unswept h off

end Sys2Proof.Machine
end

section
/-! SUPPORT. The placed targets and the learn record (O10): the shared operations on the learn, on motion and on collection. -/

namespace Sys2Proof.Machine

/-! ### Operations that leave the aim as it is -/

theorem State.aim_congr {s t : State} (geometry : t.rst.geometry = s.rst.geometry) (transfer : t.rst.transfer = s.rst.transfer)
    (wlu : t.wlu = s.wlu) (ixc : t.ixc = s.ixc) : t.aim = s.aim := by
  simp only [State.aim, State.motionKind, geometry, transfer, wlu, ixc]

theorem State.OrdersOnly.aim {s t : State} (h : s.OrdersOnly t) : t.aim = s.aim := by
  obtain ⟨m, ps, ds, store⟩ := h.store
  exact State.aim_congr (by rw [store]) (by rw [store]) h.wlu h.ixc

theorem State.OrdersOnly.leads {s t : State} (h : s.OrdersOnly t) : s.Leads t := .of_aim h.aim

theorem State.DirectOnly.aim {s t : State} (h : s.DirectOnly t) : t.aim = s.aim :=
  State.aim_congr (by rw [h.rst]) (by rw [h.rst]) h.wlu h.ixc

theorem State.IssuesOrders.aim {s t : State} (h : s.IssuesOrders t) : t.aim = s.aim := by
  obtain ⟨m, ps, ds, store⟩ := h.store
  exact State.aim_congr (by rw [store]) (by rw [store]) h.wlu h.ixc

theorem foldl_aim {α : Type} {f : State → α → State} (h : ∀ u x, (f u x).aim = u.aim) (xs : List α) (s : State) :
    (xs.foldl f s).aim = s.aim := foldl_keeps (g := State.aim) h xs s

@[simp] theorem State.closeEvent_aim (s t : State) : (State.closeEvent s t).aim = t.aim := by
  unfold State.closeEvent; split <;> rfl

@[simp] theorem State.noteSchedule_aim (s t : State) : (State.noteSchedule s t).aim = t.aim := by
  unfold State.noteSchedule; split <;> rfl

theorem State.emptyWindows_aim (s : State) : s.emptyWindows.aim = s.aim := by
  obtain ⟨w, c, e, -, -, h⟩ := s.emptyWindows_frame
  rw [h]; rfl

theorem State.writeWindows_aim (s : State) : s.writeWindows.aim = s.aim :=
  foldl_aim (fun u i => by unfold State.writeMeasured; dsimp only; split <;> rfl) _ s

theorem State.tightenReseat_aim (s : State) : s.tightenReseat.aim = s.aim := by
  unfold State.tightenReseat
  split <;> [rfl; split] <;> rfl

theorem State.postMotion_aim (s : State) (x : MotionStep) : (s.postMotion x).aim = s.aim := by
  unfold State.postMotion; split <;> rfl

theorem State.recordGate_aim (s : State) (g : Gate) : (s.recordGate g).aim = s.aim := by cases g <;> rfl

/-! ### The end of a sweep (R143, R144) -/

/-- The computation of R144 leaves the record's state, and a candidate that it reaches is placed. -/
theorem LearnRecord.compute_aim (r : LearnRecord) (x : LearnSettings) (g : Geometry) : (r.compute x g).1.state = r.state ∧
    (((r.compute x g).1.placed = r.placed ∧ ∃ f, (r.compute x g).2 = .failed f) ∨ ∃ y, (r.compute x g).1.placed = some (g.place y)) := by
  unfold LearnRecord.compute
  split
  · exact ⟨rfl, .inl ⟨rfl, _, rfl⟩⟩
  · split
    · exact ⟨rfl, .inl ⟨rfl, _, rfl⟩⟩
    · dsimp only
      split_ifs
      · exact ⟨rfl, .inl ⟨rfl, _, rfl⟩⟩
      all_goals exact ⟨rfl, .inr ⟨_, rfl⟩⟩

theorem State.Leads.endSweep {s : State} (sweeping : s.ixc.state = .sweep) : s.Leads s.endSweep := by
  unfold State.endSweep
  split
  · next x g _ geometry =>
    obtain ⟨state, reached⟩ := (s.wlu.record.withOutcomes x.minWidth).compute_aim x g
    refine .move (.ends sweeping geometry reached) ?_
    simp only [State.aim, State.motionKind]
    rw [show s.wlu.record.state = _ from state.symm]
    rfl
  · exact .refl s

theorem State.Leads.checkSweepEnd (s : State) : s.Leads s.checkSweepEnd := by
  unfold State.checkSweepEnd
  split
  · next due =>
    simp only [Bool.and_eq_true, beq_iff_eq] at due
    exact .endSweep due.1.1
  · exact .refl s

/-! ### Entries to FAULT -/

/-- FAULT is entered with motion as it is, and with a learn under way ABORTED (R59, R60, R146). -/
def Aim.faulted (x : Aim) : Aim :=
  if x.state.early = true ∧ x.kind = some .learn then { x with state := .fault, outcome := none, record := .aborted } else { x with state := .fault }

/-- What the entry to FAULT does to the learn: it aborts one in the motion's first states (R146, R147). -/
theorem State.enterFault_wlu (s : State) (c : Cause) (k : Option SeatCheck) : (s.enterFault c k).wlu =
    if s.ixc.state.early = true ∧ s.motionKind = some .learn then (s.abortLearn c).wlu else s.wlu := by
  have early : (s.ixc.state == .permit || s.ixc.state == .carry || s.ixc.state == .sweep) = s.ixc.state.early := by
    cases s.ixc.state <;> rfl
  unfold State.enterFault
  rw [early]
  by_cases learning : s.ixc.state.early = true ∧ s.motionKind = some .learn
  · rw [if_pos learning]
    simp [learning.1, learning.2, State.attend, State.abortLearn]
  · rw [if_neg learning]
    have off : (s.ixc.state.early && s.motionKind == some .learn) = false := by simpa using learning
    simp only [off, Bool.false_eq_true, if_false]
    split <;> rfl

theorem State.enterFault_aim (s : State) (c : Cause) (k : Option SeatCheck) : (s.enterFault c k).aim = s.aim.faulted := by
  have h := s.enterFault_enters c k
  have wlu := s.enterFault_wlu c k
  by_cases learning : s.ixc.state.early = true ∧ s.motionKind = some .learn
  · rw [if_pos learning] at wlu
    rw [show s.aim.faulted = _ from if_pos learning]
    simp only [State.aim, State.motionKind, State.enterFault_rst, h.state, h.motion, wlu]
    rfl
  · rw [if_neg learning] at wlu
    rw [show s.aim.faulted = _ from if_neg learning]
    simp only [State.aim, State.motionKind, State.enterFault_rst, h.state, h.motion, wlu]

theorem Aim.Moves.faulted (x : Aim) : x.Moves x.faulted := by
  unfold Aim.faulted
  split
  · exact .rests (k := x.kind) rfl (.inl rfl) (.inr nofun)
  · next away =>
    refine .rests (k := x.kind) rfl (.inr ⟨rfl, fun ⟨sweeping, learn⟩ => away ⟨?_, learn⟩⟩) (.inl rfl)
    rw [sweeping]; rfl

theorem State.Leads.enterFault (s : State) (c : Cause) (k : Option SeatCheck) : s.Leads (s.enterFault c k) :=
  .move (.faulted _) (s.enterFault_aim c k)

theorem State.Leads.abortMotion (s : State) (c : Cause) : s.Leads (s.abortMotion c) := by
  unfold State.abortMotion; split <;> [exact .enterFault s c none; exact .refl s]

theorem State.Leads.abortMoving (s : State) (c : Cause) : s.Leads (s.abortMoving c) := by
  unfold State.abortMoving; split <;> [exact .enterFault s c none; exact .refl s]

theorem State.Leads.checkEntry (s : State) : s.Leads s.checkEntry := by
  unfold State.checkEntry
  split_ifs
  · exact .refl s
  · exact .enterFault s _ _
  · exact .enterFault s _ _
  · exact .refl s

theorem State.Leads.counterChanged (s : State) : s.Leads s.counterChanged := by
  have tight := State.Leads.of_aim s.tightenReseat_aim
  unfold State.counterChanged
  dsimp only
  split
  · exact tight.trans (.enterFault _ _ _)
  · exact tight.trans (.checkSweepEnd _)

/-! ### Entries to PERMIT -/

/-- Every transfer setting is rewritten, each copy of T by a value that it may take. -/
theorem State.Leads.onTransfer (s : State) {f : Transfer → Transfer} (g : Int × Int → Int × Int)
    (targets : ∀ t, ((f t).pending.target, (f t).working.target) = g (t.pending.target, t.working.target))
    (offers : ∀ x, s.aim.targets = some x → s.aim.Offers (g x).1 ∧ s.aim.Offers (g x).2) :
    s.Leads (s.onRst fun r => { r with transfer := r.transfer.map f }) := by
  have copies : (s.rst.transfer.map f).map (fun t => (t.pending.target, t.working.target)) = s.aim.targets.map g := by
    change _ = (s.rst.transfer.map fun t => (t.pending.target, t.working.target)).map g
    cases s.rst.transfer with
    | none => rfl
    | some t => exact congrArg some (targets t)
  exact .move (.retargets g offers) (congrArg (fun x => { s.aim with targets := x }) copies)

/-- The working copy of T becomes the pending one (R9). -/
theorem State.Leads.copyStaged (s : State) : s.Leads s.copyStaged :=
  (State.Leads.onTransfer s (fun x => (x.1, x.1)) (fun _ => rfl) fun x hx =>
    ⟨.pending (w := x.2) hx, .pending (w := x.2) hx⟩).then_aim rfl

theorem State.beginMotion_aim (s : State) (k : MotionKind) (m : Mask) : (s.beginMotion k m).aim = s.copyStaged.aim.begun k := by
  unfold State.beginMotion
  rw [State.postMotion_aim]
  cases k <;> rfl

theorem State.Leads.beginMotion {s : State} (off : s.ixc.state ≠ .sweep) (k : MotionKind) (m : Mask) : s.Leads (s.beginMotion k m) :=
  (State.Leads.copyStaged s).trans (.move (.begins off k) (s.beginMotion_aim k m))

theorem State.Leads.testCollection (s : State) (g : Gate) : s.Leads (s.testCollection g) := by
  unfold State.testCollection
  split
  · next c =>
    have off : s.ixc.state ≠ .sweep := by rw [(s.released_iff.mpr c).collecting]; nofun
    let t := s.onIxc fun i => { i with indexPending := false, learnArmed := false }
    refine .trans ?_ (.checkEntry _)
    exact ((State.Leads.beginMotion (s := t) off _ _).after_aim rfl).then_aim (State.recordGate_aim _ g)
  · exact .refl s

/-! ### The ends of motions -/

theorem State.Leads.rests {s t : State} {y : IxcState} (quiet : y.early = false) (off : s.ixc.state ≠ .sweep)
    (e : t.aim = { s.aim with state := y }) : s.Leads t :=
  .move (.rests (k := s.motionKind) quiet (.inr ⟨rfl, fun c => off c.1⟩) (.inl rfl)) e

theorem State.Leads.enterHalt {s : State} (off : s.ixc.state ≠ .sweep) : s.Leads s.enterHalt := .rests (y := .halt) rfl off rfl

theorem State.Leads.enterCollect {s : State} (off : s.ixc.state ≠ .sweep) {test : State → State} (ht : ∀ u : State, u.Leads (test u)) :
    s.Leads (s.enterCollect test) := by
  have home : s.Leads (if s.pins.home then s.onIxc fun i => { i with state := .collect }
      else (s.onIxc fun i => { i with state := .collect }).startHomeTimer) := by
    split <;> exact .rests (y := .collect) rfl off rfl
  unfold State.enterCollect
  dsimp only
  split
  · exact home.trans (.enterFault _ _ _)
  · exact home.trans (ht _)

theorem State.Leads.endMotion {s : State} (off : s.ixc.state ≠ .sweep) {test : State → State} (ht : ∀ u : State, u.Leads (test u)) :
    s.Leads (s.endMotion test) := by
  have parted : s.Leads (s.onIxc fun i => { i with motion := none }) := .move (.parts off) rfl
  unfold State.endMotion
  dsimp only
  split
  · exact parted.trans (.enterHalt (s := s.onIxc fun i => { i with motion := none }) off)
  · exact parted.trans (.enterCollect (s := s.onIxc fun i => { i with motion := none }) off ht)

theorem State.Leads.endSettle {s : State} (off : s.ixc.state ≠ .sweep) {test : State → State} (ht : ∀ u : State, u.Leads (test u)) :
    s.Leads (s.endSettle test) := by
  unfold State.endSettle
  split
  · exact .refl s
  · next m _ =>
    split_ifs
    · exact .enterFault _ _ _
    · exact .enterFault _ _ _
    · unfold State.motionSucceeded
      cases m.kind with
      | index | learn | forward => exact .rests (y := .advance) rfl off rfl
      | back =>
        dsimp only
        refine (State.Leads.endMotion ?_ ht).after_aim rfl
        exact off

end Sys2Proof.Machine
end

section
/-! SUPPORT. The placed targets and the learn record (O10): the reading of cells with its repairs, and what a grant and an event do
around their operations. -/

namespace Sys2Proof.Machine

/-! ### The repairs -/

theorem State.Leads.configRepaired (s : State) : s.Leads s.configRepaired := by
  unfold State.configRepaired
  cases s.ixc.state with
  | halt | fault | advance => exact .of_aim rfl
  | collect | permit | carry | sweep | reseat | settle => exact .enterFault s _ _

theorem Transfer.rebuild_targets (g : Geometry) (t : Option Transfer) : (Transfer.rebuild g t).pending.target = g.place g.pitch ∧
    (Transfer.rebuild g t).working.target = g.place g.pitch := by cases t <;> exact ⟨rfl, rfl⟩

theorem State.discardHeld_aim (s : State) : s.discardHeld.aim = { s.aim with record := s.aim.record.discard } := by
  rw [State.discardHeld_eq]; rfl

/-- The repair of both geometry cells writes a geometry, or leaves none (R165). -/
theorem State.repairBothGeometry_aim (s : State) (bad : List Cell) : (s.repairBothGeometry bad).aim = { s.aim with geometry := none } ∨
    (s.repairBothGeometry bad).aim = s.aim.rebuilt (s.rebuiltGeometry bad) := by
  unfold State.repairBothGeometry
  split
  · exact .inl rfl
  · refine .inr ?_
    obtain ⟨pending, working⟩ := Transfer.rebuild_targets (s.rebuiltGeometry bad) s.rst.transfer
    dsimp only
    rw [State.discardHeld_aim, State.emptyWindows_aim]
    split <;> simp only [State.aim, State.rewriteCells, State.onRst, Option.map_some, pending, working] <;> rfl

/-- A fault tells nothing of the geometry, and leaves no record HELD that a new geometry would drop. -/
theorem Aim.rebuilt_faulted (x : Aim) (g : Geometry) : (x.rebuilt g).faulted = x.faulted.rebuilt g := by
  unfold Aim.faulted Aim.rebuilt
  dsimp only
  split <;> rfl

/-- The repair of both geometry cells, with the fault that it brings about in a motion state (R165). -/
theorem State.Leads.repairBothGeometry (s : State) (bad : List Cell) : s.Leads (s.repairBothGeometry bad).configRepaired := by
  let t := s.repairBothGeometry bad
  rcases s.repairBothGeometry_aim bad with lost | rebuilt
  · exact (State.Leads.move .unplaces lost).trans (.configRepaired t)
  · have range : 1000 ≤ (s.rebuiltGeometry bad).pitch ∧ 1 ≤ (s.rebuiltGeometry bad).resolution ∧ (s.rebuiltGeometry bad).resolution ≤ 64 :=
      ⟨Nat.le_refl _, Nat.le_refl _, Nat.le_of_ble_eq_true rfl⟩
    by_cases sweeping : s.ixc.state = .sweep
    · have state : t.ixc.state = .sweep := (congrArg Aim.state rebuilt).trans sweeping
      have faults : t.configRepaired = t.enterFault .config := by unfold State.configRepaired; rw [state]
      have still : (s.enterFault .config).ixc.state ≠ .sweep := by rw [(s.enterFault_enters .config none).state]; nofun
      refine (State.Leads.enterFault s .config none).trans (.move (.rebuilds still range) ?_)
      rw [faults, State.enterFault_aim, rebuilt, Aim.rebuilt_faulted, ← State.enterFault_aim s .config none]
    · exact (State.Leads.move (.rebuilds sweeping range) rebuilt).trans (.configRepaired t)

/-- A group of settings that is lost takes its defaults, of which T's is placed from P (R7, R165). -/
theorem Staged.defaultGroup_target (x d : Staged) (i : Nat) : (x.defaultGroup d i).target = if i = 0 then d.target else x.target := by
  match i with
  | 0 | 1 | 2 | _ + 3 => rfl

/-- A repaired transfer cell leaves each copy of T, or places it (R165). -/
theorem State.Leads.repairTransfer (s : State) (i : Nat) : s.Leads (s.repairTransfer i) := by
  unfold State.repairTransfer
  cases hg : s.rst.geometry with
  | none => exact .refl s
  | some g =>
    let f : Int × Int → Int × Int := fun x => (if i = 0 then g.place g.pitch else x.1, if i = 4 then g.place g.pitch else x.2)
    have placed : s.aim.Offers (g.place g.pitch) := .placed hg _
    refine .onTransfer s f (fun t => ?_) fun x hx => ⟨?_, ?_⟩
    · by_cases pending : i < 4
      · simp [f, pending, Staged.defaultGroup_target, Geometry.defaults, show i ≠ 4 by omega]
      · by_cases working : i < 8
        · simp [f, pending, working, Staged.defaultGroup_target, Geometry.defaults, show i ≠ 0 by omega, show i ≤ 4 ↔ i = 4 by omega,
            Nat.sub_eq_zero_iff_le]
        · simp [f, pending, working, show i ≠ 0 by omega, show i ≠ 4 by omega]
    · dsimp only [f]; split <;> [exact placed; exact .pending (w := x.2) hx]
    · dsimp only [f]; split <;> [exact placed; exact .working (p := x.1) hx]

theorem State.Leads.repairTracking (s : State) (bad : List Cell) (b : Bool) (k : Nat) : s.Leads (s.repairTracking bad b k) := by
  have closing : ∀ t : State, (if bad.contains ⟨.orderDetail, k⟩ then t.onDetail k fun d => { d with closing := .noOrder }
      else if (s.pos k).phase.outstanding then t.onDetail k fun d => { d with closing := .withdrawn } else t).aim = t.aim :=
    fun t => by split_ifs <;> rfl
  unfold State.repairTracking
  dsimp only
  split
  · exact .of_aim rfl
  · split
    · exact (State.Leads.abortMotion _ _).after_aim (closing _)
    · exact .of_aim (closing _)

theorem State.freeSlot_aim (s : State) (i : Nat) : (s.freeSlot i).aim = s.aim := by
  unfold State.freeSlot
  split
  · rfl
  · refine (foldl_aim (fun u k => ?_) _ _).trans rfl
    split <;> rfl

theorem State.repairSlot_aim (s : State) (bad : List Cell) (i j : Nat) : (s.repairSlot bad i j).aim = s.aim := by
  unfold State.repairSlot
  dsimp only
  split <;> try split
  · exact s.freeSlot_aim i
  all_goals rfl

theorem State.repairBudget_aim (s : State) (i : Nat) : (s.repairBudget i).aim = s.aim := by
  unfold State.repairBudget
  dsimp only
  split
  · exact (State.reformLimit_direct _ _).aim
  · rfl

theorem State.repairLogPlace_aim (s : State) (bad : List Cell) (p j : Nat) : (s.repairLogPlace bad p j).aim = s.aim := by
  unfold State.repairLogPlace
  dsimp only
  split_ifs <;> rfl

theorem State.Leads.repairCell (s : State) (bad : List Cell) (b : Bool) (c : Cell) : s.Leads (State.repairCell bad b s c) := by
  refine .after_aim (t := s.noteDamaged c) ?_ rfl
  unfold State.repairCell
  dsimp only
  cases c.region with
  | geometry => dsimp only; split <;> [exact .repairBothGeometry _ bad; exact .configRepaired _]
  | transfer => exact (State.Leads.repairTransfer _ _).trans (.configRepaired _)
  | positionConfig => exact (State.Leads.configRepaired _).after_aim rfl
  | positionTracking => exact .repairTracking _ bad b _
  | palletSlot => exact .of_aim (State.repairSlot_aim _ _ _ _)
  | log => dsimp only; split <;> [exact .of_aim rfl; exact .of_aim (State.repairLogPlace_aim _ _ _ _)]
  | budget => exact .of_aim (State.repairBudget_aim _ _)
  | orderDetail | returnQueue | schedule | routing | window => exact .of_aim rfl

theorem State.afterRepairs_aim (s : State) (r : Rst) (bad : List Cell) : (s.afterRepairs r bad).aim = s.aim := by
  have lists : ((s.repairQueue r bad).repairSchedule bad).aim = s.aim := State.noteSchedule_aim _ _
  unfold State.afterRepairs
  dsimp only
  split
  · exact (State.directWritten_direct _).aim.trans lists
  · exact lists

theorem State.Leads.readCells (s : State) (cells : List Cell) (b : Bool) : s.Leads (s.readCells cells b) := by
  unfold State.readCells
  split
  · exact .refl s
  · refine .then_aim ?_ (State.afterRepairs_aim _ _ _)
    exact (State.Leads.foldl (fun u c => .repairCell u _ b c) _ _).after_aim (foldl_aim (f := State.noteCorrected) (fun _ _ => rfl) _ s)

theorem State.Leads.readStages (s : State) (stages : List (State → List Cell)) (b : Bool) : s.Leads (s.readStages stages b) :=
  .readCells s _ b

theorem State.Leads.collect (s : State) (g : Gate) : s.Leads (s.collect g) := by
  unfold State.collect
  dsimp only
  split_ifs
  · exact ((State.Leads.readStages s _ _).trans (.readCells _ _ _)).trans (.testCollection _ g)
  · exact .readStages s _ _
  · exact .refl s

/-! ### Grants and events -/

theorem State.place_aim (s : State) (l : Link) (tag : Byte) (v : Except Reason Instr) : (s.place l tag v).1.aim = s.aim := by
  unfold State.place
  split_ifs
  · rfl
  · rfl
  · cases v <;> rfl

theorem State.offer_aim (s : State) (i : Instr) (p : Permit) (l : Link) (tag : Byte) : (s.offer i p l tag).1.aim = s.aim := by
  unfold State.offer; split <;> [rfl; exact s.place_aim _ _ _]

theorem State.closeGrant_aim (s : State) (l : Link) (tag : Byte) (r : State × Reply) : (State.closeGrant s l tag r).aim = r.1.aim := by
  unfold State.closeGrant; dsimp only; split <;> rfl

/-- What a grant does to the aim: its reading leads to a state on which its operation is made, or no operation is made. -/
theorem State.grant_aim {s t : State} {i : Instr} {p : Permit} {l : Link} {tag : Byte} {cells : List (State → List Cell)}
    {op : State → State × Reply} (e : s.grant i p l tag cells op = .next t) :
    t.aim = s.aim ∨ ∃ u : State, s.Leads u ∧ t.aim = (op u).1.aim := by
  unfold State.grant at e
  dsimp only at e
  split_ifs at e <;> rw [← Host.Outcome.next.inj e]
  · exact .inl rfl
  · let u := (s.offer i p l tag).1.onAar fun a => { a with pointer := l.next }
    refine .inr ⟨u.readStages cells, (State.Leads.readStages u cells false).after_aim (s.offer_aim i p l tag), ?_⟩
    rw [State.serve]
    exact State.closeGrant_aim _ _ _ _
  · exact .inl (s.offer_aim i p l tag)

/-- A grant makes moves where its operation does. -/
theorem State.Leads.grant {s t : State} {i : Instr} {p : Permit} {l : Link} {tag : Byte} {cells : List (State → List Cell)}
    {op : State → State × Reply} (hop : ∀ u : State, u.Leads (op u).1) (e : s.grant i p l tag cells op = .next t) : s.Leads t := by
  rcases State.grant_aim e with same | ⟨u, read, same⟩
  · exact .of_aim same
  · exact (read.trans (hop u)).then_aim same

/-- An event makes moves where its change does. -/
theorem State.Leads.event {s t : State} {f : State → State} (hf : s.Leads (f s)) (e : s.event f = .next t) : s.Leads t := by
  unfold State.event at e
  split at e
  · exact Host.Outcome.next.inj e ▸ .refl s
  · exact Host.Outcome.next.inj e ▸ hf.then_aim (State.closeEvent_aim _ _)

end Sys2Proof.Machine
end

section
/-! SUPPORT. The placed targets and the learn record (O10): the operations of the stations, of the drive and of the supervisor. -/

namespace Sys2Proof.Machine

/-! ### Stations -/

theorem State.Leads.atStation (s : State) (l : Link) {op : Nat → State → State × Reply} (hop : ∀ k, s.Leads (op k s).1) :
    s.Leads (s.atStation l op).1 := by
  unfold State.atStation; split <;> [exact .refl s; exact hop _]

theorem State.Leads.joinOrder (s : State) (k : Nat) (t : SelfTest) : s.Leads (s.joinOrder k t) := by
  have ended := s.cancelOutstanding_orders k
  cases t with
  | pass => exact (ended.trans (State.onPos_orders _ k _)).leads
  | fail => exact (ended.trans (State.onPos_orders _ k _)).leads.trans (.abortMotion _ _)

theorem State.Leads.joinStation (s : State) (m : Mask) (t : Option SelfTest) (k : Nat) : s.Leads (s.joinStation m t k).1 := by
  unfold State.joinStation
  split <;> [exact .refl s; split] <;> [exact .refl s; skip]
  cases t with
  | none => exact .refl s
  | some t =>
    dsimp only
    split
    · exact .refl s
    · refine State.Leads.trans ?_ (.collect _ _)
      let u := s.onPos k fun p => { p with joined := some { programs := m, selfTest := t } }
      have joined : u.Leads (if u.active k then u.joinOrder k t else u) := by split <;> [exact .joinOrder u k t; exact .refl u]
      exact (joined.then_aim rfl).after_aim rfl

theorem State.Leads.leaveStation (s : State) (k : Nat) : s.Leads (s.leaveStation k).1 := by
  unfold State.leaveStation
  split <;> [exact .refl s; split] <;> exact .of_aim rfl

theorem State.Leads.holdStation (s : State) (k : Nat) : s.Leads (s.holdStation k).1 := by
  unfold State.holdStation
  split
  · exact .refl s
  · dsimp only [ok]; split <;> exact .of_aim rfl

theorem State.Leads.unholdStation (s : State) (k : Nat) : s.Leads (s.unholdStation k).1 := by
  unfold State.unholdStation
  split
  · exact .refl s
  · exact (State.Leads.collect _ _).after_aim rfl

theorem State.Leads.startReport (s : State) (o k : Nat) : s.Leads (s.startReport o k).1 := by
  unfold State.startReport
  split <;> [exact .refl s; split] <;> [exact (s.startWork_orders k).leads; exact .refl s]

theorem State.Leads.faultPosition (s : State) (k c : Nat) : s.Leads (s.faultPosition k c) := by
  unfold State.faultPosition
  split
  · exact .refl s
  · exact ((s.cancelOutstanding_orders k).trans (State.onPos_orders _ k _)).leads.trans (.abortMotion _ _)

theorem State.Leads.faultReport (s : State) (c k : Nat) : s.Leads (s.faultReport c k).1 := by
  unfold State.faultReport
  split <;> [exact .refl s; split] <;> [exact .refl s; skip]
  dsimp only [ok]
  split
  · exact (State.Leads.faultPosition _ k c).after_aim rfl
  · exact .of_aim rfl

theorem State.Leads.recoveredReport (s : State) (k : Nat) : s.Leads (s.recoveredReport k).1 := by
  unfold State.recoveredReport
  split <;> [exact .refl s; split] <;> [exact (State.Leads.collect _ _).after_aim rfl; exact .refl s]

/-- The end of an order on a state that differs in records only. -/
theorem State.Leads.finishOrder {s t : State} (same : t.aim = s.aim) (k : Nat) (r : Result) : s.Leads (t.finishOrder k r) := by
  refine .after_aim ?_ same
  rw [State.finishOrder_eq]
  exact (t.ended_orders k r).leads.trans (.collect _ _)

theorem State.Leads.clearReport (s : State) (o : Nat) (bad : Bool) (r : Result) (fits : Nat → State → Bool)
    (op : Nat → State → State × Reply) (body : State → List Byte) (k : Nat) (hop : s.Leads (op k s).1) :
    s.Leads (s.clearReport o bad r fits op body k).1 := by
  unfold State.clearReport
  split
  · exact .refl s
  · split
    · split <;> [exact hop; exact .refl s]
    · split <;> exact .refl s
    · exact .refl s
    · exact .refl s
    · exact .refl s

theorem State.recordResult_aim (s : State) (k g : Nat) (r : HistoryResult) (w : Option Nat) : (s.recordResult k g r w).aim = s.aim :=
  (s.recordResult_orders k g r w).aim

theorem State.Leads.clearPlain (s : State) (o : Nat) (r : Option PlainResult) (k : Nat) : s.Leads (s.clearPlain o r k).1 := by
  cases r with
  | none => exact .clearReport s _ _ _ _ _ _ _ (.refl s)
  | some r =>
    refine .clearReport s _ _ _ _ _ _ _ (.finishOrder ?_ k _)
    split <;> [rfl; exact s.recordResult_aim _ _ _ _]

theorem State.createWorkpiece_aim (s : State) (n v : Nat) (cs : List Byte) : (s.createWorkpiece n v cs).aim = s.aim := by
  unfold State.createWorkpiece; dsimp only; split <;> rfl

theorem State.decrementHead_aim (s : State) (v : Nat) : (s.decrementHead v).aim = s.aim :=
  (State.noteSchedule_aim s (s.onRst fun _ => _)).trans rfl

theorem State.Leads.loadedResult (s : State) (cs : List Byte) (k : Nat) : s.Leads (State.loadedResult cs k s).1 := by
  unfold State.loadedResult
  split
  · split_ifs
    · exact .refl s
    · exact .refl s
    · exact .refl s
    · exact .finishOrder ((State.decrementHead_aim _ _).trans (s.createWorkpiece_aim _ _ _)) k _
  · exact .refl s

theorem State.Leads.readyResult (s : State) (k : Nat) : s.Leads (State.readyResult k s).1 := .finishOrder (by split <;> rfl) k _

theorem State.completeWorkpiece_aim (s : State) (n : Nat) (x : LogLane) : (s.completeWorkpiece n x).aim = s.aim := by
  unfold State.completeWorkpiece; split <;> rfl

theorem State.Leads.completeResult (s : State) (x : LogLane) (r : Result) (k : Nat) : s.Leads (s.completeResult x r k).1 := by
  unfold State.completeResult
  split
  · exact .of_aim rfl
  · exact .finishOrder (by split <;> [rfl; exact s.completeWorkpiece_aim _ _]) k r

theorem State.Leads.unloadedResult (s : State) (k : Nat) : s.Leads (State.unloadedResult k s).1 := by
  unfold State.unloadedResult; split <;> [exact .refl s; exact .completeResult s _ _ k]

theorem State.Leads.stuckResult (s : State) (k : Nat) : s.Leads (State.stuckResult k s).1 := .finishOrder (by split <;> rfl) k _

theorem State.Leads.arriveNone (s : State) (o k : Nat) : s.Leads (s.arriveNone o k).1 := by
  unfold State.arriveNone
  split <;> [exact .refl s; split_ifs]
  · exact .refl s
  · exact .refl s
  · exact (State.Leads.collect _ _).after_aim rfl

theorem State.noteInstruction_aim (s : State) (n : Nat) (i : Instruction) : (s.noteInstruction n i).aim = s.aim := by
  unfold State.noteInstruction; split <;> rfl

theorem State.takeFromQueue_aim (s : State) (n : Nat) : (s.takeFromQueue n).aim = s.aim := by
  unfold State.takeFromQueue
  split <;> [rfl; (dsimp only; split)] <;> rfl

theorem State.Leads.arrive (s : State) (o n k : Nat) : s.Leads (s.arrive o n k).1 := by
  unfold State.arrive
  split <;> [exact .refl s; split] <;> [exact .refl s; split] <;> [exact .of_aim rfl; split] <;> [exact .refl s; skip]
  next p _ _ =>
  refine .of_aim ?_
  have taken := (State.noteInstruction_aim (s.takeFromQueue p.number) p.number (s.loadDecision p)).trans (s.takeFromQueue_aim p.number)
  exact (State.IssuesOrders.aim (State.issueOrder_issues _ k _ _ _ _)).trans taken

/-! ### The drive -/

theorem State.Leads.driveReport (s : State) {op : State → State × Reply} (hop : s.Leads (op s).1) : s.Leads (State.driveReport op s).1 := by
  unfold State.driveReport; split <;> [exact hop; exact .refl s]

theorem State.Leads.joinDrive (s : State) : s.Leads s.joinDrive.1 := by
  unfold State.joinDrive
  cases s.ixc.state with
  | permit | carry | sweep | reseat => exact .refl s
  | halt | collect | settle | advance | fault => exact (State.Leads.collect _ _).after_aim rfl

/-- LIFTED in PERMIT lifts the bar, and makes the tests on entry and of the sweep's end (R50, R129, R143). -/
theorem State.lift_aim (s : State) : s.lift.1 = s ∨ s.ixc.state = .permit ∧ ∃ u : State, u.aim = s.aim.lifted ∧ u.Leads s.lift.1 := by
  unfold State.lift
  split
  · next kind permit learn =>
    refine .inr ⟨permit, s.onIxc fun i => i.lift kind s.working, ?_, (State.Leads.checkEntry _).trans (.checkSweepEnd _)⟩
    have lifted : s.aim.lifted = { s.aim with state := if s.motionKind = some .learn then .sweep else .carry } := rfl
    rw [lifted, learn]
    cases kind <;> simp [State.aim, State.motionKind, Ixc.lift]
  · exact .inl rfl

theorem Ixc.lower_kind (i : Ixc) (v : Int) (w : Staged) : (i.lower v w).motion.map (·.kind) = i.motion.map (·.kind) := by
  unfold Ixc.lower; cases i.motion <;> rfl

theorem State.Leads.lowerBar {s : State} (off : s.ixc.state ≠ .sweep) : s.Leads s.lowerBar := by
  let t := s.onIxc fun i => i.lower s.btk.counter s.working
  have lowered : s.Leads t := .rests (y := .settle) rfl off (by
    simp only [State.aim, State.motionKind, t, State.onIxc_ixc, Ixc.lower_kind]; rfl)
  let u := (if s.motionKind == some .index then t.closeCaptures else t).checkEntry
  have tested : s.Leads u := by
    refine (lowered.trans ?_).trans (.checkEntry _)
    split <;> exact .of_aim rfl
  change s.Leads (if u.ixc.state == .settle && s.working.settleTime == 0 then u.endSettle (·.collect .drive) else u)
  split
  · next settling =>
    simp only [Bool.and_eq_true, beq_iff_eq] at settling
    exact tested.trans (.endSettle (by rw [settling.1]; nofun) fun u => .collect u .drive)
  · exact tested

theorem State.Leads.lower (s : State) : s.Leads s.lower.1 := by
  unfold State.lower
  split
  · next taken =>
    refine .lowerBar fun e => ?_
    simp [e] at taken
  · exact .refl s

theorem State.Leads.faultDrive (s : State) : s.Leads s.faultDrive.1 := (State.Leads.abortMoving _ _).after_aim rfl

theorem State.Leads.recoverDrive (s : State) : s.Leads s.recoverDrive.1 := (State.Leads.collect _ _).after_aim rfl

/-! ### SET GEOMETRY and LINE RESET -/

theorem geometryOf_targets {n p q : Nat} {ks : List (Option WorkKind)} {v : Option Nat} {g : Geometry} (h : geometryOf n ks p q v = some g) :
    1000 ≤ g.pitch ∧ 1 ≤ g.resolution ∧ g.resolution ≤ 64 := by
  by_cases fits : GeometryFits n ks p q v
  · obtain ⟨g', taken, -, -, pitch, resolution, -⟩ := geometryOf_taken fits
    obtain ⟨-, -, -, -, low, -, least, most, -⟩ := fits
    obtain rfl : g' = g := Option.some.inj (taken.symm.trans h)
    subst pitch resolution
    exact ⟨low, least, most⟩
  · rw [geometryOf_refused fits] at h; cases h

theorem State.rebuildLine_aim (u : State) (cells : List Cell) (g : Geometry) : (u.rebuildLine cells g).aim = u.aim.rebuilt g := by
  obtain ⟨w, e, -, built⟩ := u.rebuildLine_eq cells g
  obtain ⟨pending, working⟩ := Transfer.rebuild_targets g u.rst.transfer
  rw [built]
  simp only [State.aim, Option.map_some, pending, working]
  rfl

theorem State.Leads.rebuildLine {u : State} (off : u.ixc.state ≠ .sweep) (cells : List Cell) {g : Geometry}
    (range : 1000 ≤ g.pitch ∧ 1 ≤ g.resolution ∧ g.resolution ≤ 64) : u.Leads (u.rebuildLine cells g) :=
  .move (.rebuilds off range) (u.rebuildLine_aim cells g)

theorem State.Leads.setGeometry (s : State) {g : Option Geometry}
    (range : ∀ x, g = some x → 1000 ≤ x.pitch ∧ 1 ≤ x.resolution ∧ x.resolution ≤ 64) : s.Leads (s.setGeometry g).1 := by
  unfold State.setGeometry
  split
  · exact .refl s
  · next halted =>
    cases g with
    | none => exact .refl s
    | some g =>
      have off : s.clearOrders.ixc.state ≠ .sweep := by
        rw [s.clearOrders_orders.ixc, show s.ixc.state = .halt by simpa using halted]; nofun
      exact s.clearOrders_orders.leads.trans (.rebuildLine off _ (range g rfl))

theorem State.loseOccupant_aim (s : State) (k : Nat) : (s.loseOccupant k).aim = s.aim := by
  unfold State.loseOccupant
  split <;> [rfl; split] <;> rfl

/-- LINE RESET ends a learn: no outcome is left, and no record that was not HELD before becomes so (R140). -/
theorem State.resetLearn_aim (s : State) : ∃ r, (r = s.aim.record ∨ r ≠ .held) ∧ s.resetLearn.aim = { s.aim with outcome := none, record := r } := by
  refine ⟨s.resetLearn.wlu.record.state, ?_, ?_⟩
  · unfold State.resetLearn State.aim
    dsimp only [State.onWlu_wlu]
    split
    · exact .inr nofun
    · exact .inr nofun
    all_goals exact .inl rfl
  · unfold State.resetLearn State.aim
    dsimp only [State.onWlu_wlu]
    split <;> rfl

theorem State.clearHolds_aim (s : State) : s.clearHolds.aim = s.aim := rfl

/-- LINE RESET leaves no motion pending (R43). -/
theorem State.Leads.lineResetAll (s : State) : s.Leads s.lineResetAll := by
  let t := s.clearOrders.clearHolds
  let u := if s.ixc.motion.isSome then (List.range 16).foldl State.loseOccupant t else t
  let v := ((u.onAar fun a => { a with workList := [] }).onCtm Ctm.lineReset).idleCaptures
  have lost : v.aim = s.aim := by
    have cleared : t.aim = s.aim := s.clearOrders.clearHolds_aim.trans s.clearOrders_orders.aim
    change u.aim = s.aim
    dsimp only [u]
    split <;> [exact (foldl_aim State.loseOccupant_aim _ t).trans cleared; exact cleared]
  obtain ⟨r, record, learn⟩ := v.resetLearn_aim
  have reset : s.lineResetAll.aim = { v.resetLearn.aim with state := .halt, kind := none } := rfl
  rw [learn] at reset
  exact (State.Leads.of_aim lost).trans (.move (.rests rfl (.inl rfl) record) reset)

/-! ### The other requests of the supervisor -/

/-- No setting that SET TRANSFER names is T (R8). -/
theorem Transfer.write_targets (g : Geometry) {t u : Transfer} {x : Nat × Int} (h : Transfer.write g t x.1 x.2 = some u) :
    u.pending.target = t.pending.target ∧ u.working.target = t.working.target := by
  obtain ⟨working, -, -, direct⟩ := Transfer.write_keeps g h
  refine ⟨?_, by rw [working]⟩
  rcases setting_cases x with bad | ⟨low, high, extend⟩ | e | e
  · rw [Transfer.write_bad g t bad] at h; cases h
  · obtain rfl := Option.some.inj ((Transfer.write_staged g t ⟨low, high, extend⟩).symm.trans h)
    obtain ⟨p, v⟩ := x
    dsimp only at low high extend ⊢
    by_cases e : p = 10
    · subst e
      rcases extend rfl with rfl | rfl <;> rfl
    · rcases Nat.lt_or_gt_of_ne e with below | above <;> interval_cases p <;> rfl
  · rw [direct (by omega)]
  · rw [direct (by omega)]

theorem Transfer.writeAll_targets (g : Geometry) {t z : Transfer} {xs : List (Nat × Int)} (h : Transfer.writeAll g t xs = some z) :
    z.pending.target = t.pending.target ∧ z.working.target = t.working.target := by
  induction xs generalizing t with
  | nil => obtain rfl := Option.some.inj h; exact ⟨rfl, rfl⟩
  | cons x xs ih =>
    obtain ⟨u, first, rest⟩ := Transfer.writeAll_cons_some h
    obtain ⟨p, w⟩ := Transfer.write_targets g first
    exact ⟨(ih rest).1.trans p, (ih rest).2.trans w⟩

theorem State.setTransfer_aim (s : State) (xs : List (Nat × Int)) : (s.setTransfer xs).1.aim = s.aim := by
  unfold State.setTransfer
  split
  · next g t _ ht =>
    split
    · rfl
    · next u written =>
      obtain ⟨pending, working⟩ := Transfer.writeAll_targets g written
      have same : (s.onRst fun r => { r with transfer := some u }).aim = s.aim := by
        simp only [State.aim, State.onRst, ht, Option.map_some, pending, working]; rfl
      dsimp only [ok]
      split <;> [exact (State.directWritten_direct _).aim.trans same; exact same]
  · rfl

theorem State.Leads.setMode (s : State) (k : Nat) (m : Option Mode) : s.Leads (s.setMode k m).1 := by
  cases m with
  | none => exact .refl s
  | some m =>
    unfold State.setMode
    dsimp only
    split <;> [exact .refl s; split] <;> [exact .refl s; exact (s.changeMode_orders k m).leads.trans (.collect _ _)]

theorem State.nameOccupant_aim (s : State) (k : Nat) (o : Occupant) : (s.nameOccupant k o).1.aim = s.aim := by
  unfold State.nameOccupant; split <;> rfl

theorem State.surveyLine_aim (s : State) : s.surveyLine.1.aim = s.aim := by
  unfold State.surveyLine
  split <;> [rfl; split] <;> rfl

theorem State.Leads.runLine (s : State) (m : Option RunMode) : s.Leads (s.runLine m).1 := by
  cases m with
  | none => exact .refl s
  | some m =>
    unfold State.runLine
    dsimp only
    split <;> try exact .refl s
    · next halted =>
      split
      · exact .refl s
      · refine (State.Leads.enterCollect (s := s.onIxc fun i => { i with runMode := m }) ?_ fun u => .collect u _).after_aim rfl
        rw [State.onIxc_ixc, halted]; nofun
    · exact (State.Leads.collect _ _).after_aim rfl

theorem State.Leads.haltLine (s : State) : s.Leads s.haltLine.1 := by
  unfold State.haltLine
  split
  · next collecting => exact .enterHalt (by rw [collecting]; nofun)
  all_goals exact .of_aim rfl

theorem State.Leads.indexLine (s : State) : s.Leads s.indexLine.1 := by
  unfold State.indexLine
  split <;> [exact (State.Leads.collect _ _).after_aim rfl; exact .refl s]

theorem State.Leads.clearFaultLine (s : State) : s.Leads s.clearFaultLine.1 := by
  unfold State.clearFaultLine
  split
  · next faulted =>
    simp only [Bool.and_eq_true, beq_iff_eq] at faulted
    refine (State.Leads.enterHalt (s := s.onIxc fun i => { i with currentFault := none }) ?_).after_aim rfl
    rw [State.onIxc_ixc, faulted.1]; nofun
  · exact .refl s

/-- A RECOVER is taken in FAULT (R64). -/
theorem State.recoverRefusal_state {s : State} (h : s.recoverRefusal = none) : s.ixc.state = .fault := by
  unfold State.recoverRefusal at h
  split_ifs at h with away
  simpa using away

theorem State.Leads.recover {s u : State} (taken : s.recoverRefusal = none) (same : u.ixc = s.ixc) (aim : u.aim = s.aim) (k : MotionKind)
    (m : Mask) : s.Leads (u.recover k m).1 := by
  refine .after_aim (t := u.onIxc fun i => { i with currentFault := none }) ((State.Leads.beginMotion ?_ k m).trans (.checkEntry _)) aim
  rw [State.onIxc_ixc, same, State.recoverRefusal_state taken]; nofun

theorem State.Leads.recoverForwards (s : State) : s.Leads s.recoverForwards.1 := by
  unfold State.recoverForwards
  split
  · exact .refl s
  · next taken =>
    split
    · exact .refl s
    · exact .recover (u := s.onCtm fun c => { c with indexRecovered := c.indexTimer.isSome }) taken rfl rfl _ _

theorem State.Leads.recoverBackwards (s : State) : s.Leads s.recoverBackwards.1 := by
  unfold State.recoverBackwards
  split
  · exact .refl s
  · next taken => exact .recover (u := s) taken rfl rfl _ _

theorem State.atPallet_aim (s : State) (n : Nat) {op : Pallet → State → State × Reply} (hop : ∀ p, (op p s).1.aim = s.aim) :
    (s.atPallet n op).1.aim = s.aim := by
  unfold State.atPallet
  split <;> [rfl; split] <;> [rfl; exact hop _]

theorem State.registerPallet_aim (s : State) (n : Nat) (m : Mask) : (s.registerPallet n m).1.aim = s.aim := by
  unfold State.registerPallet
  split_ifs
  · rfl
  · rfl
  · split <;> rfl

theorem State.retirePallet_aim (s : State) (n : Nat) (p : Pallet) : (State.retirePallet n p s).1.aim = s.aim := by
  unfold State.retirePallet; split <;> rfl

theorem State.resetClamps_aim (s : State) (n : Nat) (m : Option Mask) (p : Pallet) : (State.resetClamps n m p s).1.aim = s.aim := by
  unfold State.resetClamps; split <;> rfl

theorem State.setDisposition_aim (s : State) (n : Nat) (d : Disposition) (p : Pallet) : (State.setDisposition n d p s).1.aim = s.aim := by
  unfold State.setDisposition
  split <;> [rfl; split] <;> rfl

theorem State.setRouting_aim (s : State) (v k g : Nat) : (s.setRouting v k g).1.aim = s.aim := by
  unfold State.setRouting; split <;> rfl

theorem State.insertReturn_aim (s : State) (n : Nat) (p : Pallet) : (State.insertReturn n p s).1.aim = s.aim := by
  unfold State.insertReturn; split <;> rfl

theorem State.withdrawReturn_aim (s : State) (n : Nat) (p : Pallet) : (State.withdrawReturn n p s).1.aim = s.aim := by
  unfold State.withdrawReturn; split <;> rfl

theorem State.appendSchedule_aim (s : State) (v q : Nat) : (s.appendSchedule v q).1.aim = s.aim := by
  unfold State.appendSchedule; split_ifs <;> rfl

theorem State.clearScheduleAll_aim (s : State) : s.clearScheduleAll.1.aim = s.aim := State.noteSchedule_aim _ _

theorem State.fetchCompletion_aim (s : State) : s.fetchCompletion.1.aim = s.aim := by
  unfold State.fetchCompletion; split <;> rfl

/-- SET TARGET places the pending copy (R125). -/
theorem State.Leads.setTarget (s : State) (x : Int) : s.Leads (s.setTarget x).1 := by
  unfold State.setTarget
  cases hg : s.rst.geometry with
  | none => exact .refl s
  | some g =>
    exact .onTransfer s (fun t => (g.place x, t.2)) (fun _ => rfl) fun t ht => ⟨.placed hg x, .working (p := t.1) ht⟩

theorem State.armLearn_aim (s : State) : s.armLearn.1.aim = s.aim := by
  unfold State.armLearn; split <;> rfl

/-- The candidate of a HELD learn is taken into the pending copy, and the learn is ACCEPTED (R149). -/
theorem State.Leads.takeHeld (s : State) {x : Int} (learned : s.aim.Offers x) :
    s.Leads ((s.setPendingTarget x).onWlu fun w => { w with record := { w.record with state := .accepted } }) := by
  have targeted : s.Leads (s.setPendingTarget x) :=
    .onTransfer s (fun t => (x, t.2)) (fun _ => rfl) fun t ht => ⟨learned, .working (p := t.1) ht⟩
  exact targeted.trans (.move (.drops (r := .accepted) nofun) rfl)

theorem State.Leads.acceptLearn (s : State) : s.Leads s.acceptLearn.1 := by
  unfold State.acceptLearn
  by_cases held : s.wlu.record.state = .held
  · rw [if_neg (by simp [held])]
    split
    · exact .refl s
    · have same := s.writeWindows_aim
      have learned : s.writeWindows.aim.Offers (s.wlu.record.placed.getD 0) := by rw [same]; exact .learned (.inr held)
      exact (State.Leads.takeHeld s.writeWindows learned).after_aim same
  · rw [if_pos (by simp [held])]
    exact .refl s

theorem State.Leads.discardLearn (s : State) : s.Leads s.discardLearn.1 := by
  unfold State.discardLearn
  split <;> [exact .refl s; exact .move (.drops (LearnState.discard_ne_held _)) s.discardHeld_aim]

theorem State.setBudget_aim (s : State) (k g b : Nat) : (s.setBudget k g b).1.aim = s.aim := by
  unfold State.setBudget
  split
  · rfl
  · dsimp only [ok]; split <;> [exact (State.reformLimit_direct _ k).aim; rfl]

theorem State.acknowledge_aim (s : State) (m : Mask) : (s.acknowledge m).1.aim = s.aim := by
  unfold State.acknowledge; split <;> rfl

theorem State.readAt_aim (s : State) (k : Option Nat) (b : State → List Byte) : (s.readAt k b).1.aim = s.aim := by
  unfold State.readAt; split <;> rfl

theorem State.readPallets_aim (s : State) (n : Option Nat) : (s.readPallets n).1.aim = s.aim := by
  unfold State.readPallets
  split <;> [rfl; split] <;> [rfl; split] <;> rfl

end Sys2Proof.Machine
end

section
/-! SUPPORT. The placed targets and the learn record (O10): the grants of the Index Controller, the wired inputs, and every command. -/

namespace Sys2Proof.Machine

theorem State.state_of_aim {s t : State} (h : t.aim = s.aim) : t.ixc.state = s.ixc.state := congrArg Aim.state h

theorem State.outcome_of_aim {s t : State} (h : t.aim = s.aim) : t.wlu.outcome = s.wlu.outcome := congrArg Aim.outcome h

/-! ### The expiry write and the advance (R56 to R58, R87) -/

theorem State.Leads.writeNoStart (s : State) (k : Nat) : s.Leads (s.writeNoStart k) := by
  unfold State.writeNoStart
  split
  · exact ((s.cancelOrder_orders k .missed).trans (State.onPos_orders _ k _)).leads.trans (.abortMotion _ _)
  · exact .refl s

theorem State.sendAway_aim (s : State) : s.sendAway.aim = s.aim := by
  unfold State.sendAway
  split
  · rfl
  · dsimp only
    split_ifs <;> rfl

theorem State.shift_aim (s : State) : s.shift.aim = s.aim := rfl

theorem State.issueNext_aim (s : State) (k : Nat) : (s.issueNext k).aim = s.aim := by
  rcases s.issueNext_cases k with e | ⟨n, o, g, i, e⟩
  · rw [e]
  · rw [e]; exact (s.issueOrder_issues k n o g i).aim

theorem State.passBypass_aim (s : State) (k : Nat) : (s.passBypass k).aim = s.aim := by
  have recorded : ∀ t : State, (((t.writeOrder k (t.nextNumber k) .noOrder none none).onPos k
      fun p => { p with phase := .idle, faultCode := none }).onDetail k fun d => { d with closing := .noOrder, resultTaken := none }).aim = t.aim :=
    fun _ => rfl
  unfold State.passBypass
  dsimp only
  rw [recorded]
  split <;> [rfl; exact s.recordResult_aim _ _ _ _]

theorem State.orderNext_aim (s : State) (k : Nat) : (s.orderNext k).aim = s.aim := by
  unfold State.orderNext
  dsimp only
  split_ifs
  · rfl
  · exact Eq.trans (b := (s.issueNext k).aim) rfl (s.issueNext_aim k)
  · exact s.issueNext_aim k
  · exact s.passBypass_aim k

theorem State.advanceCounted_aim (s : State) : (((List.range 16).foldl State.orderNext s.sendAway.shift).onCtm Ctm.advance).aim = s.aim := by
  have counted : ∀ t : State, (t.onCtm Ctm.advance).aim = t.aim := fun _ => rfl
  rw [counted, foldl_aim State.orderNext_aim, State.shift_aim, State.sendAway_aim]

theorem State.Leads.advanceLine {s : State} (off : s.ixc.state ≠ .sweep) : s.Leads s.advanceLine := by
  have ordered := s.advanceCounted_aim
  exact .after_aim (.endMotion (by rwa [State.state_of_aim ordered]) fun u => .collect u .drive) ordered

/-- The advance reads its cells outside SWEEP, and no repair leads there. -/
theorem State.Leads.advanceGrant {s : State} (off : s.ixc.state ≠ .sweep) : s.Leads s.advanceGrant := by
  have opened := State.Leads.readStages s advanceOpening true
  unfold State.advanceGrant
  dsimp only
  split
  · exact opened.trans (.enterFault _ _ _)
  · have read := opened.trans (.readStages _ [State.advanceCells] true)
    exact read.trans (.advanceLine (read.unswept off))

/-! ### The learn write (R145) -/

/-- RESEAT is entered with the outcome of the sweep recorded (R49, R145). -/
theorem State.Leads.recordLearn {s t : State} {o : LearnOutcome} (outcome : s.wlu.outcome = some o) (x : Int)
    (e : { t.aim with state := .reseat } = { s.aim with outcome := none, record := o.recorded.1, state := .reseat }) :
    s.Leads (t.enterReseat x) := by
  unfold State.enterReseat
  dsimp only
  refine .trans (.move (.writes (x := s.aim) outcome) ?_) (.checkEntry _)
  rw [← e, State.postMotion_aim, State.tightenReseat_aim]
  simp only [State.aim, State.motionKind, State.onIxc, State.onBtk]
  cases t.ixc.motion <;> rfl

/-- An APPLIED learn writes its candidate into both copies of T (R145). -/
theorem State.Leads.setBothTargets {s : State} (applied : s.wlu.outcome = some .applied) :
    s.Leads (s.setBothTargets (s.wlu.record.placed.getD 0)) := by
  have learned : s.aim.Offers (s.wlu.record.placed.getD 0) := .learned (.inl applied)
  exact .onTransfer s (fun _ => (s.wlu.record.placed.getD 0, s.wlu.record.placed.getD 0)) (fun _ => rfl) fun _ _ => ⟨learned, learned⟩

theorem State.Leads.writeLearn {s : State} {o : LearnOutcome} (outcome : s.wlu.outcome = some o) : s.Leads (s.writeLearn o) := by
  have written : ∀ t : State, t.wlu.outcome = some o → ∀ x, t.Leads (((t.onWlu fun w =>
      { record := { w.record with state := o.recorded.1, failure := o.recorded.2.1, resulting := some x, endTime := some s.ctm.clock }
        outcome := none }).attend fun a => { a with learnDone := some o.recorded.2.2 }).enterReseat x) :=
    fun t ht x => .recordLearn ht x rfl
  unfold State.writeLearn
  dsimp only
  cases o with
  | held | failed _ => exact written s outcome _
  | applied =>
    let x := s.wlu.record.placed.getD 0
    have same := State.writeWindows_aim (s.setBothTargets x)
    have targeted : s.Leads (s.setBothTargets x).writeWindows := (State.Leads.setBothTargets outcome).then_aim same
    have kept : (s.setBothTargets x).writeWindows.wlu.outcome = some .applied := (State.outcome_of_aim same).trans outcome
    exact targeted.trans (written _ kept x)

theorem State.Leads.learnGrant (s : State) : s.Leads s.learnGrant := by
  have read := State.Leads.readCells s [⟨.transfer, 0⟩, ⟨.transfer, 4⟩, ⟨.transfer, 7⟩] false
  unfold State.learnGrant
  dsimp only
  split
  · next outcome => exact read.trans (.writeLearn outcome)
  · exact read

/-! ### Wired inputs -/

theorem State.Leads.homeRises (s : State) : s.Leads s.homeRises := by
  let t := (s.onPins fun p => { p with home := true }).onBtk Btk.reference
  have referenced : (t.checkHomeDrift s.btk.counter).aim = s.aim := by
    unfold State.checkHomeDrift
    split <;> rfl
  exact ((State.Leads.counterChanged _).trans (.testCollection _ .home)).after_aim referenced

theorem State.ipEdge_aim (s : State) (k : Nat) (r : Bool) : (s.ipEdge k r).aim = s.aim := by
  unfold State.ipEdge State.entryEdge State.captureEntry
  dsimp only
  repeat' split
  all_goals rfl

theorem State.Leads.encoderChange (s : State) (c : EncoderChange) : s.Leads (s.encoderChange c) := by
  cases c with
  | both => exact .of_aim rfl
  | edge _ d =>
    change s.Leads (s.countEdge d)
    unfold State.countEdge
    dsimp only
    split_ifs
    · exact .refl s
    · exact (State.Leads.abortMoving (s.onBtk fun b => { b with saturated := true }) _).after_aim rfl
    · exact (State.Leads.counterChanged (s.onBtk fun b => { b with counter := Travel.count d s.btk.counter })).after_aim rfl

theorem State.Leads.lineStop {s t : State} :
    (execLineStopActive s = .next t → s.Leads t) ∧ (execLineStopInactive s = .next t → s.Leads t) := by
  constructor <;> intro e
  · unfold execLineStopActive at e
    dsimp only at e
    split_ifs at e <;> rw [← Host.Outcome.next.inj e]
    · exact .of_aim rfl
    · exact .refl s
    · exact ((State.Leads.abortMotion (s.onPins fun p => { p with lineStop := true }) _).after_aim rfl).then_aim (State.closeEvent_aim _ _)
  · unfold execLineStopInactive at e
    dsimp only at e
    split_ifs at e <;> rw [← Host.Outcome.next.inj e]
    · exact .of_aim rfl
    · exact ((State.Leads.testCollection (s.onPins fun p => { p with lineStop := false }) _).after_aim rfl).then_aim (State.closeEvent_aim _ _)
    · exact .refl s

theorem State.Leads.encoderEdge {s t : State} (c : EncoderChange) (e : execEncoderEdge c s = .next t) : s.Leads t := by
  unfold execEncoderEdge at e
  dsimp only at e
  split at e <;> rw [← Host.Outcome.next.inj e]
  · exact .of_aim rfl
  · exact ((State.Leads.encoderChange (s.onPins fun p => p.encoder c) c).after_aim rfl).then_aim (State.closeEvent_aim _ _)

theorem State.Leads.resetComplete {s t : State} (e : execDeviceResetComplete s = .next t) : s.Leads t := by
  unfold execDeviceResetComplete at e
  split at e <;> rw [← Host.Outcome.next.inj e]
  · exact .move .resets rfl
  · exact .refl s

/-! ### Links -/

theorem State.handleFrame_aim (s : State) (l : Link) (k t : Byte) (b : List Byte) (c : BitVec 16) :
    (s.handleFrame l k t b c).aim = s.aim := by
  unfold State.handleFrame
  dsimp only
  split <;> [rfl; exact State.place_aim _ _ _ _]

theorem State.takeCharacter_aim (s : State) (l : Link) (c : Option Byte) : (s.takeCharacter l c).aim = s.aim := by
  have taken : ∀ bs, (s.frameBytesTaken l bs).aim = s.aim := fun bs => by
    cases bs with
    | nil => rfl
    | cons n rest =>
      unfold State.frameBytesTaken
      dsimp only
      split_ifs
      · rfl
      · exact s.handleFrame_aim _ _ _ _ _
      · rfl
  unfold State.takeCharacter
  split
  · rfl
  · split <;> rfl
  · rfl
  · exact taken _

/-! ### Every command -/

/-- A grant whose operation leaves the aim makes no move but those of its reading. -/
theorem State.Leads.grant_same {s t : State} {i : Instr} {p : Permit} {l : Link} {tag : Byte} {cells : List (State → List Cell)}
    {op : State → State × Reply} (hop : ∀ u : State, (op u).1.aim = u.aim) (e : s.grant i p l tag cells op = .next t) : s.Leads t :=
  .grant (fun u => .of_aim (hop u)) e

/-- Every command but LIFTED makes moves. -/
theorem State.Leads.of_exec {s t : State} (c : Instr) (landed : ∀ l tag, c ≠ .lifted l tag) (e : exec c s = .next t) : s.Leads t := by
  cases c with
  -- wired lines and timers
  | deviceReset => exact Host.Outcome.next.inj e ▸ .of_aim rfl
  | deviceResetComplete => exact .resetComplete e
  | homeRising =>
    rw [exec, execHomeRising] at e
    exact .event (by split <;> [exact .refl s; exact .homeRises s]) e
  | homeFalling => exact .event (by split <;> [(dsimp only; split <;> exact .of_aim rfl); exact .refl s]) e
  | inPositionEdge k a =>
    rw [exec, execInPositionEdge] at e
    refine .event ?_ e
    split
    · exact .refl s
    · exact .of_aim (State.ipEdge_aim (s.onPins fun p => p.setIp k.val a) k.val a)
  | lineStopActive => exact State.Leads.lineStop.1 e
  | lineStopInactive => exact State.Leads.lineStop.2 e
  | encoderEdge c => exact .encoderEdge c e
  | liftTimeout | carryTimeout | sweepTimeout | homeTimeout =>
    exact .event (by split <;> [exact .enterFault s _ _; exact .refl s]) e
  | settleEnd =>
    refine .event ?_ e
    split
    · next settling =>
      simp only [Bool.and_eq_true, beq_iff_eq] at settling
      exact .endSettle (by rw [settling.1]; nofun) fun u => .testCollection u _
    · exact .refl s
  | startTimeout k => exact .event (by split <;> exact .of_aim rfl) e
  | overrun k =>
    rw [exec, execOverrun] at e
    exact .event (.of_aim (s.checkOverrun_direct k.val).aim) e
  -- grants of the Index Controller and of the scrubber
  | startTimeoutWrite k =>
    refine .event ?_ e
    split
    · exact ((State.Leads.readStages s.popWork _ _).trans (.writeNoStart _ _)).after_aim rfl
    · exact .refl s
  | advance =>
    refine .event ?_ e
    split
    · next taken =>
      have advancing : s.ixc.state = .advance := by simpa using (Bool.and_eq_true_iff.mp taken).2
      refine (State.Leads.advanceGrant (s := s.popWork) ?_).after_aim rfl
      change s.ixc.state ≠ .sweep
      rw [advancing]; nofun
    · exact .refl s
  | learnWrite => exact .event (by split <;> [exact (State.Leads.learnGrant s.popWork).after_aim rfl; exact .refl s]) e
  | scrubberRead us =>
    rw [exec, execScrubberRead] at e
    refine .event ?_ e
    split
    · exact ((State.Leads.readCells (s.upset us) _ false).after_aim rfl).then_aim rfl
    · exact .of_aim rfl
  -- link events
  | frameReceived l k tag b c =>
    rw [exec, execFrameReceived] at e
    exact .event (.of_aim (s.handleFrame_aim l k tag b c)) e
  | receiveGapTimeout l => exact .event (by split <;> exact .of_aim rfl) e
  | frameSent l =>
    rw [exec, execFrameSent] at e
    exact .event (.of_aim rfl) e
  | characterReceived l c =>
    rw [exec, execCharacterReceived] at e
    exact .event (.of_aim (s.takeCharacter_aim l c)) e
  -- reads
  | readPosition l tag k | readOrder l tag k | readBudget l tag k | readTiming l tag k => exact .grant_same (fun u => u.readAt_aim _ _) e
  | readPallet l tag n => exact .grant_same (fun u => u.readPallets_aim _) e
  | readRouting l tag v k => exact .grant_same (fun u => by split <;> rfl) e
  | readIndex l tag | readReturn l tag | readSchedule l tag | readCompletion l tag | readTarget l tag | readLearn l tag
  | readStore l tag | readStatus l tag | readLinks l tag => exact .grant_same (fun u => rfl) e
  -- stations
  | join l tag m x => exact .grant (fun u => .atStation u l fun k => .joinStation u m x k) e
  | leave l tag => exact .grant (fun u => .atStation u l fun k => .leaveStation u k) e
  | hold l tag => exact .grant (fun u => .atStation u l fun k => .holdStation u k) e
  | unhold l tag => exact .grant (fun u => .atStation u l fun k => .unholdStation u k) e
  | start l tag o => exact .grant (fun u => .atStation u l fun k => .startReport u o k) e
  | clear l tag o r => exact .grant (fun u => .atStation u l fun k => .clearPlain u o r k) e
  | clearLoaded l tag o cs => exact .grant (fun u => .atStation u l fun k => .clearReport u _ _ _ _ _ _ k (.loadedResult u cs k)) e
  | clearReady l tag o => exact .grant (fun u => .atStation u l fun k => .clearReport u _ _ _ _ _ _ k (.readyResult u k)) e
  | clearEmpty l tag o | clearKept l tag o =>
    exact .grant (fun u => .atStation u l fun k => .clearReport u _ _ _ _ _ _ k (.finishOrder rfl k _)) e
  | clearRemoved l tag o => exact .grant (fun u => .atStation u l fun k => .clearReport u _ _ _ _ _ _ k (.completeResult u _ _ k)) e
  | clearUnloaded l tag o => exact .grant (fun u => .atStation u l fun k => .clearReport u _ _ _ _ _ _ k (.unloadedResult u k)) e
  | clearStuck l tag o => exact .grant (fun u => .atStation u l fun k => .clearReport u _ _ _ _ _ _ k (.stuckResult u k)) e
  | stationFault l tag c => exact .grant (fun u => .atStation u l fun k => .faultReport u c k) e
  | recovered l tag => exact .grant (fun u => .atStation u l fun k => .recoveredReport u k) e
  | arrivedNoPallet l tag o => exact .grant (fun u => .atStation u l fun k => .arriveNone u o k) e
  | arrived l tag o n => exact .grant (fun u => .atStation u l fun k => by split <;> [exact .arriveNone u o k; exact .arrive u o n k]) e
  -- the drive
  | driveJoin l tag => exact .grant (fun u => .joinDrive u) e
  | lifted l tag => exact absurd rfl (landed l tag)
  | lowered l tag => exact .grant (fun u => .driveReport u (.lower u)) e
  | driveFault l tag => exact .grant (fun u => .driveReport u (.faultDrive u)) e
  | driveRecovered l tag => exact .grant (fun u => .driveReport u (.recoverDrive u)) e
  -- the supervisor: line, occupants and pallets
  | setGeometry l tag n ks p q v => exact .grant (fun u => .setGeometry u fun _ => geometryOf_targets) e
  | setTransfer l tag xs => exact .grant_same (fun u => u.setTransfer_aim xs) e
  | setMode l tag k m => exact .grant (fun u => .setMode u k m) e
  | setOccupant l tag k o => exact .grant_same (fun u => u.nameOccupant_aim k o) e
  | survey l tag => exact .grant_same (fun u => u.surveyLine_aim) e
  | registerPallet l tag n m => exact .grant_same (fun u => u.registerPallet_aim n m) e
  | retirePallet l tag n => exact .grant_same (fun u => u.atPallet_aim n fun p => u.retirePallet_aim n p) e
  | markOut l tag n => exact .grant_same (fun u => u.atPallet_aim n fun _ => rfl) e
  | resetClamps l tag n m => exact .grant_same (fun u => u.atPallet_aim n fun p => u.resetClamps_aim n m p) e
  | setDisposition l tag n d =>
    refine .grant_same (fun u => ?_) e
    cases d with
    | none => rfl
    | some d => exact u.atPallet_aim n fun p => u.setDisposition_aim n d p
  -- the supervisor: running the line
  | run l tag m => exact .grant (fun u => .runLine u m) e
  | halt l tag => exact .grant (fun u => .haltLine u) e
  | index l tag => exact .grant (fun u => .indexLine u) e
  | abort l tag => exact .grant (fun u => .abortMotion u _) e
  | clearFault l tag => exact .grant (fun u => .clearFaultLine u) e
  | recoverForward l tag => exact .grant (fun u => .recoverForwards u) e
  | recoverBack l tag => exact .grant (fun u => .recoverBackwards u) e
  | holdLine l tag => exact .grant_same (fun u => rfl) e
  | releaseLine l tag =>
    refine .grant (fun u => ?_) e
    exact (State.Leads.collect (u.onIxc fun i => { i with lineHold := false }) .supervisor).after_aim rfl
  | lineReset l tag => exact .grant (fun u => .lineResetAll u) e
  -- the supervisor: tables and lists
  | setRouting l tag v k g => exact .grant_same (fun u => u.setRouting_aim v k g) e
  | insertReturn l tag n => exact .grant_same (fun u => u.atPallet_aim n fun p => u.insertReturn_aim n p) e
  | withdrawReturn l tag n => exact .grant_same (fun u => u.atPallet_aim n fun p => u.withdrawReturn_aim n p) e
  | appendSchedule l tag v q => exact .grant_same (fun u => u.appendSchedule_aim v q) e
  | clearSchedule l tag => exact .grant_same (fun u => u.clearScheduleAll_aim) e
  | fetchCompletion l tag => exact .grant_same (fun u => u.fetchCompletion_aim) e
  | setTarget l tag x => exact .grant (fun u => .setTarget u x) e
  | learn l tag => exact .grant_same (fun u => u.armLearn_aim) e
  | acceptLearn l tag => exact .grant (fun u => .acceptLearn u) e
  | discardLearn l tag => exact .grant (fun u => .discardLearn u) e
  | setBudget l tag k g b => exact .grant_same (fun u => u.setBudget_aim k g b) e
  | clearTiming l tag => exact .grant_same (fun u => rfl) e
  | acknowledge l tag m => exact .grant_same (fun u => u.acknowledge_aim m) e

/-- LIFTED keeps what its moves and the lift keep. -/
theorem Aim.Law.kept_by_lifted {P : Aim → Prop} (law : Aim.Law P) {s t : State} {l : Link} {tag : Byte} (h : P s.aim)
    (e : exec (.lifted l tag) s = .next t) : P t.aim := by
  rw [exec, execLifted] at e
  rcases State.grant_aim e with same | ⟨u, read, same⟩
  · rwa [same]
  · have hu := read.keeps law h
    rw [same]
    unfold State.driveReport
    split
    · rcases u.lift_aim with refused | ⟨permit, v, lifted, tested⟩
      · rwa [refused]
      · exact tested.keeps law (by rw [lifted]; exact law.lifts permit hu)
    · exact hu

theorem State.idle_aim (s : State) : s.idle.aim = s.aim := by
  unfold State.idle
  split <;> [rfl; split] <;> rfl

/-- Every step keeps a law of aims. -/
theorem Aim.Law.kept_by_step {P : Aim → Prop} (law : Aim.Law P) {s t : State} (h : P s.aim) (e : step s = .next t) : P t.aim := by
  unfold step at e
  split at e
  · rw [← Host.Outcome.next.inj e, s.idle_aim]; exact h
  · next c rest _ =>
    let u : State := { s with pending := rest }
    by_cases lifting : ∃ l tag, c = .lifted l tag
    · obtain ⟨l, tag, rfl⟩ := lifting
      exact law.kept_by_lifted (s := u) h e
    · exact (State.Leads.of_exec (s := u) c (fun l tag c => lifting ⟨l, tag, c⟩) e).keeps law h

/-- Settles O10: every step keeps both targets placed, and the record of a LEARN motion in PERMIT, CARRY or SWEEP not HELD. -/
theorem targetsAndLearnRecordStayLawful : Obligations.TargetsAndLearnRecordStayLawful := by
  refine ⟨fun s t h e => ?_, fun s t h e => Aim.unheld_law.kept_by_step h e⟩
  rw [State.targetsPlaced_iff] at h ⊢
  exact Aim.placed_law.kept_by_step h e

end Sys2Proof.Machine
end

section
/-! SUPPORT. The levels of the permits (O6). -/

namespace Sys2Proof.Machine

theorem State.liftPermit_iff (s : State) : s.liftPermit = true ↔
    (s.ixc.state = .permit ∨ s.ixc.state = .carry ∨ s.ixc.state = .sweep ∨ s.ixc.state = .reseat) ∧
      s.pins.lineStop = false ∧ s.pins.resetInput = false := by
  unfold State.liftPermit
  cases s.ixc.state <;> simp

theorem State.returnPermit_iff (s : State) : s.returnPermit = true ↔
    s.ixc.state = .collect ∧ s.pins.home = false ∧ s.pins.lineStop = false ∧ s.pins.resetInput = false := by
  simp [State.returnPermit, and_assoc]

/-- LIFT PERMIT is asserted in a motion state only. -/
theorem State.moving_of_liftPermit {s : State} (h : s.liftPermit = true) : s.ixc.state.moving = true := by
  obtain ⟨state, -, -⟩ := s.liftPermit_iff.mp h
  rcases state with e | e | e | e <;> rw [e] <;> rfl

theorem Phase.quiet_of_not_outstanding {p : Phase} (h : p.outstanding = false) : p ≠ .ordered ∧ p ≠ .working := by
  cases p <;> simp [Phase.outstanding] at h ⊢

/-- While a motion runs no position is in ORDERED, WORKING or FAULT (R44). -/
theorem State.Interlocked.quiet {s : State} (h : s.Interlocked) (moving : s.ixc.state.moving = true) {k : Nat} (hk : k < 16) :
    (s.pos k).phase ≠ .ordered ∧ (s.pos k).phase ≠ .working ∧ (s.pos k).phase ≠ .fault := by
  obtain ⟨pending, clear⟩ := h.movingClear moving
  obtain ⟨ordered, working⟩ := Phase.quiet_of_not_outstanding (h.pendingQuiet pending k hk)
  exact ⟨ordered, working, clear k hk⟩

/-- Settles O6: the permits follow the state and the wires; LIFT PERMIT is asserted in motion states only, where the interlock holds. -/
theorem permitsFollowTheirConditions : Obligations.PermitsFollowTheirConditions := by
  intro s
  refine ⟨fun live => ?_, fun held => ?_, ?_, fun interlocked lift k hk => interlocked.quiet (State.moving_of_liftPermit lift) hk⟩
  · have live : s.pins.resetInput = false := live
    simp [State.returnPermit_iff, State.liftPermit_iff, live]
  · simp [State.liftPermit, State.returnPermit, held]
  · rintro ⟨lift, ret⟩
    have moving := State.moving_of_liftPermit lift
    rw [(s.returnPermit_iff.mp ret).1] at moving
    exact absurd moving (by decide)

end Sys2Proof.Machine
end

section
/-! SUPPORT. The edges of the in-position inputs (O14): an edge acts on one capture, of an INDEX motion's entry or of a LEARN motion's
sweep. -/

namespace Sys2Proof.Machine

/-! ### What an edge acts on -/

/-- The states in which the edges of an INDEX motion are captured (R133). -/
def State.Indexing (s : State) : Prop := (s.ixc.state = .permit ∨ s.ixc.state = .carry) ∧ s.motionKind = some .index

/-- The states in which the edges of a LEARN motion's sweep are captured (R142). -/
def State.Learning (s : State) : Prop :=
  (s.ixc.state = .permit ∨ s.ixc.state = .sweep) ∧ s.motionKind = some .learn ∧ s.wlu.outcome = none

theorem State.ipEdge_indexing {s : State} {k : Nat} (rising : Bool) (low : 0 < k) (line : k < s.count) (h : s.Indexing) :
    s.ipEdge k rising = s.entryEdge k rising := by
  obtain ⟨state, kind⟩ := h
  simp [State.ipEdge, low, line, state, kind]

theorem State.ipEdge_learning {s : State} {k : Nat} (rising : Bool) (low : 0 < k) (line : k < s.count) (h : s.Learning) :
    s.ipEdge k rising = s.sweepEdge k rising := by
  obtain ⟨state, kind, running⟩ := h
  simp [State.ipEdge, low, line, state, kind, running]

theorem State.ipEdge_rests {s : State} {k : Nat} (rising : Bool) (h : ¬(0 < k ∧ k < s.count ∧ (s.Indexing ∨ s.Learning))) :
    s.ipEdge k rising = s := by
  unfold State.ipEdge
  split_ifs with line indexing learning
  · have placed : 0 < k ∧ k < s.count := by simpa using line
    exact absurd ⟨placed.1, placed.2, .inl (by simpa [State.Indexing] using indexing)⟩ h
  · have placed : 0 < k ∧ k < s.count := by simpa using line
    exact absurd ⟨placed.1, placed.2, .inr (by simpa [State.Learning, and_assoc] using learning)⟩ h
  · rfl
  · rfl

/-! ### The entry captures (R133) -/

/-- The drift of an arrival at position `k`, where the position has a window (R133). -/
def State.entryDrift (s : State) (k : Nat) : Option Int := (s.window k).map fun w => s.btk.counter - w.low

/-- What an edge of its input makes of position `k`'s entry capture (R133). -/
def State.entered (s : State) (k : Nat) (rising : Bool) (c : EntryCapture) : EntryCapture :=
  match c.state, rising with
  | .awaitDeparture, false => { c with state := .armed }
  | .armed, true => { state := .captured, entry := some s.btk.counter, drift := s.entryDrift k
                      largest := match s.entryDrift k with | none => c.largest | some x => max c.largest x.natAbs }
  | _, _ => c

/-- Whether an arrival at position `k` has a drift beyond the working ET (R133). -/
def State.drifts (s : State) (k : Nat) : Bool := (s.entryDrift k).any fun x => decide (s.working.entryTolerance < (x.natAbs : Int))

theorem State.drifts_iff (s : State) (k : Nat) :
    s.drifts k = true ↔ ∃ x, s.entryDrift k = some x ∧ s.working.entryTolerance < (x.natAbs : Int) := by
  unfold State.drifts
  cases s.entryDrift k <;> simp

/-- The attentions after an edge of position `k`'s input that finds the entry capture `c` (R133). -/
def State.arrivalAttentions (s : State) (k : Nat) (rising : Bool) (c : EntryCapture) : Attentions :=
  if c.state = .armed ∧ rising = true ∧ s.drifts k = true then
    { s.liu.attentions with locatorDrift := withMember s.liu.attentions.locatorDrift k }
  else s.liu.attentions

/-- The state with one entry capture changed, and other attentions. -/
def State.onCapture (s : State) (k : Nat) (f : EntryCapture → EntryCapture) (a : Attentions) : State :=
  { s with btk := { s.btk with captures := s.btk.captures.modify (k - 1) f }, liu := { s.liu with attentions := a } }

theorem State.onCapture_id (s : State) (k : Nat) : s.onCapture k id s.liu.attentions = s := by
  simp only [State.onCapture, List.modify_id]

/-- The arrival at an ARMED position (R133). -/
theorem State.captureEntry_eq (s : State) (k : Nat) {c : EntryCapture} (armed : c.state = .armed) :
    ∃ f, f c = s.entered k true c ∧ s.captureEntry k = s.onCapture k f (s.arrivalAttentions k true c) := by
  refine ⟨fun c => { c with state := .captured, entry := some s.btk.counter, drift := s.entryDrift k
                            largest := max c.largest (((s.entryDrift k).map Int.natAbs).getD 0) }, ?_, ?_⟩
  · unfold State.entered
    rw [armed]
    cases s.entryDrift k <;> simp
  · unfold State.arrivalAttentions
    cases far : s.drifts k with
    | true => rw [if_pos ⟨armed, rfl, rfl⟩]; exact if_pos far
    | false => rw [if_neg nofun]; exact if_neg (Bool.eq_false_iff.mp far)

/-- The two edges of an INDEX motion's entry that a capture acts on: the departure and the arrival (R133). -/
theorem State.entryEdge_rests {s : State} {k : Nat} {rising : Bool} {c : EntryCapture}
    (here : s.btk.captures.getD (k - 1) EntryCapture.reset = c) (departs : ¬(c.state = .awaitDeparture ∧ rising = false))
    (arrives : ¬(c.state = .armed ∧ rising = true)) :
    s.entryEdge k rising = s ∧ s.entered k rising c = c ∧ s.arrivalAttentions k rising c = s.liu.attentions := by
  refine ⟨?_, ?_, if_neg fun h => arrives ⟨h.1, h.2.1⟩⟩
  · unfold State.entryEdge
    rw [here]
    cases state : c.state <;> cases rising <;> simp_all
  · unfold State.entered
    cases state : c.state <;> cases rising <;> simp_all

/-- An edge of an INDEX motion's entry changes one capture and, beyond the working ET, one attention (R133). -/
theorem State.entryEdge_eq (s : State) (k : Nat) (rising : Bool) {c : EntryCapture}
    (here : s.btk.captures.getD (k - 1) EntryCapture.reset = c) :
    ∃ f, f c = s.entered k rising c ∧ s.entryEdge k rising = s.onCapture k f (s.arrivalAttentions k rising c) := by
  by_cases departs : c.state = .awaitDeparture ∧ rising = false
  · obtain ⟨waits, rfl⟩ := departs
    have none : s.arrivalAttentions k false c = s.liu.attentions := if_neg nofun
    refine ⟨fun c => { c with state := .armed }, ?_, ?_⟩
    · simp [State.entered, waits]
    · unfold State.entryEdge
      rw [none, here, waits]; rfl
  by_cases arrives : c.state = .armed ∧ rising = true
  · obtain ⟨armed, rfl⟩ := arrives
    obtain ⟨f, taken, eq⟩ := s.captureEntry_eq k armed
    refine ⟨f, taken, ?_⟩
    unfold State.entryEdge
    rw [here, armed]; exact eq
  · obtain ⟨rests, same, none⟩ := State.entryEdge_rests here departs arrives
    exact ⟨id, same.symm, by rw [rests, none, s.onCapture_id]⟩

/-! ### The event -/

theorem execInPositionEdge_level {k : Fin 16} {active : Bool} {s : State} (live : s.Live) (h : member s.pins.ip k.val = active) :
    execInPositionEdge k active s = .next s :=
  State.event_rests live (if_pos (beq_iff_eq.mpr h))

theorem execInPositionEdge_changes {k : Fin 16} {active : Bool} {s : State} (live : s.Live) (h : member s.pins.ip k.val ≠ active) :
    execInPositionEdge k active s =
      .next (State.closeEvent s ((s.onPins fun p => p.setIp k.val active).ipEdge k.val active)) := by
  rw [execInPositionEdge, s.event_live _ live, if_neg (by simpa using h)]

/-- Settles O14: the one edge that an INDEX or LEARN motion captures changes one capture; the event closes with nothing else changed. -/
theorem inPositionEdgeMovesOneCapture : Obligations.InPositionEdgeMovesOneCapture := by
  intro k active s live u indexing learning
  have event (edge : member s.pins.ip k.val ≠ active) :
      exec (.inPositionEdge k active) s = .next (State.closeEvent s (u.ipEdge k.val active)) := execInPositionEdge_changes live edge
  have place : k.val - 1 < 15 := by omega
  refine ⟨execInPositionEdge_level live, fun edge none => ?_, fun edge low line motion length => ?_,
    fun edge low line motion length x settings => ?_⟩
  · rw [event edge, State.ipEdge_rests (s := u) active none]
    exact congrArg Host.Outcome.next (State.closeEvent_same s u rfl)
  · obtain ⟨f, taken, eq⟩ := State.entryEdge_eq u k.val active rfl
    let a := u.arrivalAttentions k.val active (s.btk.captures.getD (k.val - 1) EntryCapture.reset)
    have event := event edge
    rw [State.ipEdge_indexing (s := u) active low line motion, eq] at event
    obtain ⟨rst, ixc, btk, wlu, ctm, aar, pins, -, attentions⟩ := State.closeEvent_blocks s (u.onCapture k.val f a)
    have linked : s.LinksKept (u.onCapture k.val f a) := .of_links rfl
    refine ⟨_, event, pins, rst, ixc, wlu, ctm, aar, ?_, linked.closeEvent s, fun j other => ?_, ?_, ?_⟩
    · rw [btk]; rfl
    · rw [btk]; exact getD_modify_ne _ f _ other
    · rw [btk]
      exact (getD_modify_self _ _ f _ (by rw [length]; exact place)).trans taken
    · exact attentions.trans (if_congr (and_congr_right' (and_congr_right' (u.drifts_iff k.val))) rfl rfl)
  · have event := event edge
    rw [State.ipEdge_learning (s := u) active low line motion,
      State.closeEvent_same s (u.sweepEdge k.val active) rfl] at event
    refine ⟨_, event, rfl, rfl, rfl, rfl, rfl, rfl, rfl, rfl, fun j other => getD_modify_ne _ _ _ other, ?_⟩
    refine (getD_modify_self _ _ _ _ (by rw [length]; exact place)).trans ?_
    rw [settings]
    change (s.wlu.record.entries.getD (k.val - 1) SweepEntry.blank).edge active x.extend s.btk.counter = _
    generalize s.wlu.record.entries.getD (k.val - 1) SweepEntry.blank = e
    unfold SweepEntry.edge
    cases e.capture <;> cases active <;> rfl

end Sys2Proof.Machine
end

section
/-! SUPPORT. A change of the counter (O13, O16): what it keeps, and what it comes to in a motion: the abort with OVERTRAVEL, the end of the
sweep, or nothing but the tighter limit of RESEAT. -/

namespace Sys2Proof.Machine

/-! ### What an event of the counter keeps -/

/-- What every test of an event keeps: the blocks that a collection keeps, the counter and its records with the home timer where it is
stopped, and the attentions that no fault raises. -/
structure State.KeepsCount (s t : State) : Prop extends s.Collects t where
  tracker : ∃ cs r h, (h = s.btk.homeTimer ∨ h = none) ∧ t.btk = { s.btk with captures := cs, reseatTight := r, homeTimer := h }
  attentions : s.AttentionsKept t

theorem State.KeepsCount.of_btk {s t : State} (collects : s.Collects t) (btk : t.btk = s.btk)
    (attentions : t.liu.attentions = s.liu.attentions) : s.KeepsCount t :=
  ⟨collects, ⟨_, _, _, .inl rfl, btk⟩, .of_same attentions⟩

theorem State.KeepsCount.refl (s : State) : s.KeepsCount s := .of_btk (.refl s) rfl rfl

theorem State.KeepsCount.trans {s t u : State} (a : s.KeepsCount t) (b : t.KeepsCount u) : s.KeepsCount u := by
  obtain ⟨_, _, h, timer, ha⟩ := a.tracker
  obtain ⟨cs, r, h', timer', hb⟩ := b.tracker
  refine ⟨a.toCollects.trans b.toCollects, ⟨cs, r, h', ?_, by rw [hb, ha]⟩, a.attentions.trans b.attentions⟩
  rcases timer' with e | e
  · rw [e, ha]; exact timer
  · exact .inr e

theorem State.enterFault_keepsCount (s : State) (c : Cause) (x : Option SeatCheck) : s.KeepsCount (s.enterFault c x) := by
  refine ⟨s.enterFault_collects c x, ?_, s.enterFault_attentions c x⟩
  unfold State.enterFault
  dsimp only
  split_ifs <;> exact ⟨_, _, _, .inr rfl, rfl⟩

theorem State.checkEntry_keepsCount (s : State) : s.KeepsCount s.checkEntry := by
  unfold State.checkEntry
  split_ifs
  · exact .refl s
  · exact s.enterFault_keepsCount _ _
  · exact s.enterFault_keepsCount _ _
  · exact .refl s

theorem State.lifting_btk (s : State) (kind : MotionKind) (origin : Mask) : ∃ cs,
    (s.lifting kind origin).btk = { s.btk with captures := cs, reseatTight := false, homeTimer := none } := by
  cases kind <;> exact ⟨_, rfl⟩

theorem State.beginMotion_keepsCount (s : State) (kind : MotionKind) (origin : Mask) : s.KeepsCount (s.beginMotion kind origin) := by
  refine ⟨s.beginMotion_collects kind origin, ?_, .of_same (s.beginMotion_attentions kind origin)⟩
  obtain ⟨cs, btk⟩ := s.lifting_btk kind origin
  rw [s.beginMotion_eq, s.lifting_posts]
  exact ⟨cs, _, _, .inr rfl, btk⟩

theorem State.testCollection_keepsCount (s : State) (g : Gate) : s.KeepsCount (s.testCollection g) := by
  by_cases released : s.Released
  · let t := s.onIxc fun i => { i with indexPending := false, learnArmed := false }
    let u := t.beginMotion (if s.ixc.learnArmed then .learn else .index) s.palletMask
    have taken : s.testCollection g = ((u.recordGate g).startIndexTimer).checkEntry := if_pos (s.released_iff.mp released)
    have armed : s.KeepsCount t := .of_btk ⟨⟨_, _, rfl⟩, rfl, rfl, rfl, rfl, rfl, .of_links rfl⟩ rfl rfl
    have gated : u.KeepsCount ((u.recordGate g).startIndexTimer) :=
      .of_btk ((u.recordGate_collects g).trans (State.startIndexTimer_collects _)) (by rw [u.gate_eq]; rfl) (by rw [u.gate_eq]; rfl)
    rw [taken]
    exact ((armed.trans (t.beginMotion_keepsCount _ _)).trans gated).trans (State.checkEntry_keepsCount _)
  · rw [s.testCollection_waits g released]
    exact .refl s

/-! ### The tighter limit of RESEAT and the end of the sweep -/

theorem State.tightenReseat_eq {s : State} {m : Motion} (hm : s.ixc.motion = some m) : s.tightenReseat = s.onBtk fun b => { b with
    reseatTight := b.reseatTight || decide (s.ixc.state = .reseat ∧ s.btk.counter ≤ m.target + s.working.overtravel) } := by
  unfold State.tightenReseat
  rw [hm]
  by_cases tight : s.ixc.state = .reseat ∧ s.btk.counter ≤ m.target + s.working.overtravel
  · simp [tight]
  · have rests : (s.ixc.state == .reseat && decide (s.btk.counter ≤ m.target + s.working.overtravel)) = false := by simpa using tight
    simp [rests, tight]; rfl

theorem State.tightenReseat_keepsCount (s : State) : s.KeepsCount s.tightenReseat := by
  unfold State.tightenReseat
  split
  · exact .refl s
  · split
    · exact ⟨⟨⟨_, _, rfl⟩, rfl, rfl, rfl, rfl, rfl, .of_links rfl⟩, ⟨_, _, _, .inl rfl, rfl⟩, .of_same rfl⟩
    · exact .refl s

/-- Outside RESEAT no limit changes. -/
theorem State.tightenReseat_away {s : State} (away : s.ixc.state ≠ .reseat) : s.tightenReseat = s := by
  unfold State.tightenReseat
  split
  · rfl
  · simp [away]

/-- The end of the sweep changes the learn, the sweep timer and the work list at most. -/
theorem State.checkSweepEnd_eq (s : State) : ∃ w x l, s.checkSweepEnd = { s with
    wlu := w, ixc := { s.ixc with sweepTimer := x }, aar := { s.aar with workList := l } } := by
  unfold State.checkSweepEnd State.endSweep
  split
  · split <;> exact ⟨_, _, _, rfl⟩
  · exact ⟨_, _, _, rfl⟩

theorem State.checkSweepEnd_keepsCount (s : State) : s.KeepsCount s.checkSweepEnd := by
  obtain ⟨w, x, l, eq⟩ := s.checkSweepEnd_eq
  rw [eq]
  exact .of_btk ⟨⟨_, _, rfl⟩, rfl, rfl, rfl, rfl, rfl, .of_links rfl⟩ rfl rfl

/-- The sweep has not ended and the counter stands at its limit or beyond (R143). -/
def State.SweepEnds (s : State) : Prop := s.ixc.state = .sweep ∧ s.wlu.outcome = none ∧ s.sweepLimit ≤ s.btk.counter

theorem State.checkSweepEnd_stands {s : State} (h : ¬s.SweepEnds) : s.checkSweepEnd = s :=
  if_neg fun c => h (by simpa [State.SweepEnds, and_assoc] using c)

theorem State.checkSweepEnd_ends {s : State} (h : s.SweepEnds) : s.checkSweepEnd = s.endSweep := by
  obtain ⟨sweeping, running, limit⟩ := h
  simp [State.checkSweepEnd, sweeping, running, limit]

/-! ### What a change of the counter comes to -/

theorem State.counterChanged_keepsCount (s : State) : s.KeepsCount s.counterChanged := by
  unfold State.counterChanged
  dsimp only
  split
  · exact s.tightenReseat_keepsCount.trans (State.enterFault_keepsCount _ _ _)
  · exact s.tightenReseat_keepsCount.trans (State.checkSweepEnd_keepsCount _)

theorem State.counterChanged_ctm (s : State) : s.counterChanged.ctm = s.ctm := by
  have tight : s.tightenReseat.ctm = s.ctm := by unfold State.tightenReseat; split <;> [rfl; split] <;> rfl
  unfold State.counterChanged
  dsimp only
  split
  · rw [State.enterFault_ctm, tight]
  · obtain ⟨w, x, l, eq⟩ := s.tightenReseat.checkSweepEnd_eq
    rw [eq]; exact tight

/-- The overtravel test in RESEAT, by the limit that is taken up (R128). -/
theorem State.overtravels_reseat {s : State} {m : Motion} (hm : s.ixc.motion = some m) (reseat : s.ixc.state = .reseat)
    (learn : m.kind = .learn) : s.overtravels = true ↔
      if s.btk.reseatTight = true then m.target + s.working.overtravel < s.btk.counter
      else s.sweepLimit + s.working.overtravel < s.btk.counter := by
  unfold State.overtravels State.overtravelLimit
  rw [hm, reseat]
  cases tight : s.btk.reseatTight <;> simp [learn, IxcState.moving, beyond]

/-- The overtravel test that follows the change of limit in RESEAT (R128). -/
theorem State.tightened_overtravels {s : State} {m : Motion} (hm : s.ixc.motion = some m) (runs : m.kind.runsIn s.ixc.state = true) :
    s.tightenReseat.overtravels = true ↔ s.InOvertravel m s.btk.counter := by
  by_cases reseat : s.ixc.state = .reseat
  · have learn : m.kind = .learn := by cases kind : m.kind <;> simp [kind, reseat, MotionKind.runsIn] at runs ⊢
    rw [State.tightenReseat_eq hm]
    refine (State.overtravels_reseat (s := s.onBtk _) hm reseat learn).trans ?_
    unfold State.InOvertravel
    rw [learn, reseat]
    exact iff_of_eq (if_congr (by simp) rfl rfl)
  · rw [State.tightenReseat_away reseat]
    exact State.overtravels_iff hm runs reseat rfl rfl rfl

theorem State.counterChanged_overtravels {s : State} {m : Motion} (hm : s.ixc.motion = some m) (runs : m.kind.runsIn s.ixc.state = true)
    (out : s.InOvertravel m s.btk.counter) : s.counterChanged = s.tightenReseat.enterFault .overtravel :=
  if_pos ((State.tightened_overtravels hm runs).mpr out)

/-- A motion that stays within its limit ends its sweep at most. -/
theorem State.counterChanged_within {s : State} {m : Motion} (hm : s.ixc.motion = some m) (runs : m.kind.runsIn s.ixc.state = true)
    (within : ¬s.InOvertravel m s.btk.counter) : s.counterChanged = s.tightenReseat.checkSweepEnd :=
  if_neg fun out => within ((State.tightened_overtravels hm runs).mp out)

theorem State.counterChanged_within_eq {s : State} {m : Motion} (hm : s.ixc.motion = some m) (runs : m.kind.runsIn s.ixc.state = true)
    (within : ¬s.InOvertravel m s.btk.counter) : ∃ w x l, s.counterChanged = { s with
      btk := { s.btk with
        reseatTight := s.btk.reseatTight || decide (s.ixc.state = .reseat ∧ s.btk.counter ≤ m.target + s.working.overtravel) }
      wlu := w, ixc := { s.ixc with sweepTimer := x }, aar := { s.aar with workList := l } } := by
  obtain ⟨w, x, l, eq⟩ := s.tightenReseat.checkSweepEnd_eq
  rw [State.counterChanged_within hm runs within, eq, State.tightenReseat_eq hm]
  exact ⟨w, x, l, rfl⟩

/-- The abort with OVERTRAVEL does not look at the limit that RESEAT has taken up. -/
theorem State.counterChanged_faults {s : State} {m : Motion} (hm : s.ixc.motion = some m) (runs : m.kind.runsIn s.ixc.state = true)
    (out : s.InOvertravel m s.btk.counter) : s.EntersFault s.counterChanged .overtravel none := by
  have enters := s.tightenReseat.enterFault_enters .overtravel none
  rw [State.counterChanged_overtravels hm runs out]
  rw [State.tightenReseat_eq hm] at enters ⊢
  exact { enters with }

/-- A sweep that ends within the limits. -/
theorem State.counterChanged_ends {s : State} {m : Motion} (hm : s.ixc.motion = some m) (runs : m.kind.runsIn s.ixc.state = true)
    (within : ¬s.InOvertravel m s.btk.counter) (ends : s.SweepEnds) : s.counterChanged = s.endSweep := by
  have away : s.ixc.state ≠ .reseat := by rw [ends.1]; nofun
  rw [State.counterChanged_within hm runs within, State.tightenReseat_away away, State.checkSweepEnd_ends ends]

theorem State.counterChanged_stands {s : State} {m : Motion} (hm : s.ixc.motion = some m) (runs : m.kind.runsIn s.ixc.state = true)
    (within : ¬s.InOvertravel m s.btk.counter) (stands : ¬s.SweepEnds) : s.counterChanged = s.tightenReseat := by
  rw [State.counterChanged_within hm runs within]
  refine State.checkSweepEnd_stands ?_
  rw [State.tightenReseat_eq hm]
  exact stands

/-- A motion that the counter moves in is not collected by it. -/
theorem State.counterChanged_uncollected {s : State} {m : Motion} (hm : s.ixc.motion = some m) (runs : m.kind.runsIn s.ixc.state = true) :
    ¬s.counterChanged.Released := by
  intro released
  have collecting := released.collecting
  by_cases out : s.InOvertravel m s.btk.counter
  · rw [(State.counterChanged_faults hm runs out).state] at collecting
    exact absurd collecting nofun
  · obtain ⟨w, x, l, eq⟩ := State.counterChanged_within_eq hm runs out
    rw [eq] at collecting
    have collecting : s.ixc.state = .collect := collecting
    rw [collecting] at runs
    cases kind : m.kind <;> rw [kind] at runs <;> exact absurd runs (by decide)

end Sys2Proof.Machine
end

section
/-! SUPPORT. The encoder (O16): an edge counts, saturates the counter, or finds it saturated. -/

namespace Sys2Proof.Machine

theorem execEncoderEdge_live {s : State} (live : s.Live) (change : EncoderChange) : execEncoderEdge change s =
    .next (State.closeEvent s ((s.onPins fun p => p.encoder change).encoderChange change)) := if_neg (Bool.eq_false_iff.mp live)

/-- The state in which the counter has taken another value. -/
abbrev State.counted (s : State) (c : Int) : State := s.onBtk fun b => { b with counter := c }

theorem State.countEdge_saturated {s : State} (d : Travel) (h : s.btk.saturated = true) : s.countEdge d = s := if_pos h

theorem State.countEdge_counts {s : State} {d : Travel} (h : s.btk.saturated = false) (low : Config.counterMin ≤ Travel.count d s.btk.counter)
    (high : Travel.count d s.btk.counter ≤ Config.counterMax) : s.countEdge d = (s.counted (Travel.count d s.btk.counter)).counterChanged := by
  unfold State.countEdge
  rw [if_neg (by simp [h]), if_neg (by omega)]

theorem State.countEdge_beyond {s : State} {d : Travel} (h : s.btk.saturated = false)
    (out : ¬(Config.counterMin ≤ Travel.count d s.btk.counter ∧ Travel.count d s.btk.counter ≤ Config.counterMax)) : s.countEdge d = s.saturate := by
  unfold State.countEdge
  rw [if_neg (by simp [h]), if_pos (by omega)]

theorem State.saturate_rests {s : State} (resting : s.ixc.state.moving = false) :
    s.saturate = s.onBtk fun b => { b with saturated := true } := if_neg (Bool.eq_false_iff.mp resting)

theorem State.saturate_aborts {s : State} (moving : s.ixc.state.moving = true) :
    s.saturate = (s.onBtk fun b => { b with saturated := true }).enterFault .encoderRange := if_pos moving

/-- A count beyond the range in a motion: the abort with ENCODER_RANGE, and what it keeps (R122). -/
theorem State.saturate_faults {s : State} (f : Pins → Pins) (moving : s.ixc.state.moving = true) :
    let t := State.closeEvent s (s.onPins f).saturate
    { s with btk := { s.btk with saturated := true } }.EntersFault t .encoderRange none ∧ t.pins = f s.pins ∧ t.rst = s.rst ∧ s.LinksKept t := by
  let w := (s.onPins f).onBtk fun b => { b with saturated := true }
  have before : w.Alike { s with btk := { s.btk with saturated := true } } := ⟨rfl, rfl, rfl, rfl, rfl, rfl, rfl⟩
  have after := State.alike_closeEvent s (w.enterFault .encoderRange)
  have kept := w.enterFault_collects .encoderRange none
  have linked : s.LinksKept w := .of_links rfl
  rw [State.saturate_aborts (s := s.onPins f) moving]
  refine ⟨(w.enterFault_enters .encoderRange none).alike before after, ?_, ?_, (linked.trans kept.links).closeEvent s⟩
  · rw [State.closeEvent_pins, kept.wires]; rfl
  · rw [after.rst, State.enterFault_rst]; rfl

/-- Settles O16: an edge that counts is a change of the counter, whose tests act in a motion only. -/
theorem encoderEdgesMoveTheCounter : Obligations.EncoderEdgesMoveTheCounter := by
  intro ch d s live c u inRange
  let v := u.counted c
  have event : exec (.encoderEdge (.edge ch d)) s = .next (State.closeEvent s (u.countEdge d)) := execEncoderEdge_live live _
  have value : Travel.count d u.btk.counter = c := by cases d <;> rfl
  have counts (free : s.btk.saturated = false) (within : inRange) :
      exec (.encoderEdge (.edge ch d)) s = .next (State.closeEvent s v.counterChanged) := by
    rw [event, State.countEdge_counts (s := u) free (by rw [value]; exact within.1) (by rw [value]; exact within.2), value]
  have saturates (free : s.btk.saturated = false) (out : ¬inRange) :
      exec (.encoderEdge (.edge ch d)) s = .next (State.closeEvent s u.saturate) := by
    rw [event, State.countEdge_beyond (s := u) free (by rw [value]; exact out)]
  have alike := State.alike_closeEvent s v.counterChanged
  have rst : (State.closeEvent s v.counterChanged).rst = s.rst := by rw [alike.rst, State.counterChanged_rst]; rfl
  refine ⟨fun full => ?_, fun free within => ?_, fun free out resting => ?_, fun free out moving => ?_, ?_, ?_⟩
  · rw [event, State.countEdge_saturated (s := u) d full]
    exact congrArg Host.Outcome.next (State.closeEvent_same s u rfl)
  · have keeps := v.counterChanged_keepsCount
    have linked : s.LinksKept v := .of_links rfl
    obtain ⟨cs, r, h, -, btk⟩ := keeps.tracker
    refine ⟨_, counts free within, ?_, ?_, ?_, rst, ?_, (linked.trans keeps.links).closeEvent s, fun resting => ?_⟩
    · rw [State.closeEvent_pins, keeps.wires]; rfl
    · rw [alike.btk, btk]; rfl
    · rw [alike.btk, btk]; exact free
    · rw [alike.ctm, State.counterChanged_ctm]; rfl
    · rw [State.counterChanged_resting (s := v) resting]
      exact State.closeEvent_same s v rfl
  · rw [saturates free out, State.saturate_rests (s := u) resting]
    exact congrArg Host.Outcome.next (State.closeEvent_same s (u.onBtk fun b => { b with saturated := true }) rfl)
  · exact ⟨_, saturates free out, State.saturate_faults (s := s) (fun p => p.encoder (.edge ch d)) moving⟩
  · exact (execEncoderEdge_live live .both).trans (congrArg Host.Outcome.next (State.closeEvent_same s _ rfl))
  · intro m free hm runs within
    have before : v.Alike { s with btk := { s.btk with counter := c } } := ⟨rfl, rfl, rfl, rfl, rfl, rfl, rfl⟩
    have faults := fun out => (State.counterChanged_faults (s := v) hm runs out).alike before alike
    refine ⟨_, counts free within, fun out => ⟨faults out, rst⟩, fun inside => ?_⟩
    obtain ⟨w, x, l, moved⟩ := State.counterChanged_within_eq (s := v) hm runs inside
    refine ⟨by rw [alike.ixc, moved]; rfl, by rw [alike.ixc, moved]; rfl, rst, fun sweeping _ below => ?_,
      fun sweeping running limit present settings => ?_⟩
    · have away : v.ixc.state ≠ .reseat := by rw [show v.ixc.state = .sweep from sweeping]; nofun
      have stands : ¬v.SweepEnds := fun ends => absurd ends.2.2 (Int.not_le.mpr below)
      rw [State.counterChanged_stands (s := v) hm runs inside stands, State.tightenReseat_away away, State.closeEvent_same s v rfl]
      exact ⟨rfl, rfl⟩
    · obtain ⟨w, outcome, ended⟩ := State.endSweep_ends (s := v) settings present
      rw [State.counterChanged_ends (s := v) hm runs inside ⟨sweeping, running, limit⟩, ended] at alike ⊢
      exact ⟨alike.work, by rw [alike.ixc], by rw [alike.wlu]; exact outcome⟩

end Sys2Proof.Machine
end

section
/-! SUPPORT. The edges of HOME (O13): the re-reference, then the tests of a change of the counter in a motion, or the collection test. -/

namespace Sys2Proof.Machine

/-! ### The re-referenced state -/

/-- HOME_DRIFT after a rising edge of HOME (R123). -/
def State.homeDrift (s : State) : Option Int :=
  if s.rst.geometry.isSome = true ∧ s.working.homeTolerance < (s.btk.counter.natAbs : Int) then some s.btk.counter
  else s.liu.attentions.homeDrift

/-- The state that a rising edge of HOME has re-referenced, written out (R123). -/
def State.homed (s : State) : State := { s with
  pins := { s.pins with home := true }, btk := s.btk.reference
  liu := { s.liu with attentions := { s.liu.attentions with homeDrift := s.homeDrift } } }

theorem State.referenced_homed (s : State) : s.referenced = s.homed := by
  let t := (s.onPins fun p => { p with home := true }).onBtk Btk.reference
  have test : (t.rst.geometry.isSome && decide (t.working.homeTolerance < (s.btk.counter.natAbs : Int))) =
      decide (s.rst.geometry.isSome = true ∧ s.working.homeTolerance < (s.btk.counter.natAbs : Int)) := by
    rw [Bool.decide_and, Bool.decide_eq_true]; rfl
  unfold State.referenced State.checkHomeDrift State.homed State.homeDrift
  rw [test]
  by_cases far : s.rst.geometry.isSome = true ∧ s.working.homeTolerance < (s.btk.counter.natAbs : Int)
  · rw [if_pos far, if_pos (decide_eq_true far)]; rfl
  · rw [if_neg far, if_neg (by simpa using far)]; rfl

theorem State.homeRises_eq (s : State) : s.homeRises = s.homed.counterChanged.testCollection .home :=
  congrArg (fun t => State.testCollection (State.counterChanged t) .home) s.referenced_homed

theorem State.homeRises_keepsCount (s : State) : s.homed.KeepsCount s.homeRises := by
  rw [s.homeRises_eq]
  exact s.homed.counterChanged_keepsCount.trans (State.testCollection_keepsCount _ .home)

theorem State.homeRises_rests {s : State} (resting : s.ixc.state.moving = false) (waits : ¬s.homed.Released) : s.homeRises = s.homed := by
  rw [s.homeRises_eq, State.counterChanged_resting (s := s.homed) resting, State.testCollection_waits _ _ waits]

theorem State.homeRises_moves {s : State} {m : Motion} (hm : s.ixc.motion = some m) (runs : m.kind.runsIn s.ixc.state = true) :
    s.homeRises = s.homed.counterChanged :=
  s.homeRises_eq.trans (State.testCollection_waits _ _ (State.counterChanged_uncollected (s := s.homed) hm runs))

theorem State.homed_released (s : State) : s.homed.Released ↔ { s with pins := { s.pins with home := true } }.Released :=
  State.released_congr (s := { s with pins := { s.pins with home := true } }) (t := s.homed) rfl (fun _ => rfl) rfl rfl

/-- Attentions of which no other than HOME_DRIFT has changed. -/
theorem State.drift_of_attentions {s t : State} {d : Option Int} (h : t.liu.attentions = { s.liu.attentions with homeDrift := d }) :
    t.liu.attentions = { s.liu.attentions with homeDrift := t.liu.attentions.homeDrift } := by rw [h]

/-! ### The events -/

theorem execHomeRising_level {s : State} (live : s.Live) (high : s.pins.home = true) : execHomeRising s = .next s :=
  State.event_rests live (if_pos high)

theorem execHomeRising_rises {s : State} (live : s.Live) (low : s.pins.home = false) :
    execHomeRising s = .next (State.closeEvent s s.homeRises) := by
  rw [execHomeRising, s.event_live _ live, if_neg (by simp [low])]

theorem execHomeFalling_level {s : State} (live : s.Live) (low : s.pins.home = false) : execHomeFalling s = .next s :=
  State.event_rests live (if_neg (by simp [low]))

theorem execHomeFalling_falls {s : State} (live : s.Live) (high : s.pins.home = true) : execHomeFalling s = .next { s with
    pins := { s.pins with home := false }
    btk := if s.ixc.state = .collect then { s.btk with homeTimer := some { elapsed := 0, limit := s.working.homeTimeout } } else s.btk } := by
  rw [execHomeFalling, s.event_live _ live, if_pos high]
  by_cases collecting : s.ixc.state = .collect
  · rw [if_pos (by simpa using collecting), if_pos collecting]
    exact congrArg Host.Outcome.next (State.closeEvent_same s _ rfl)
  · rw [if_neg (by simpa using collecting), if_neg collecting]
    exact congrArg Host.Outcome.next (State.closeEvent_same s _ rfl)

/-- Settles O13: the re-reference stands in every state; only in a motion does the re-referenced counter bring anything about. -/
theorem homeEdgesReferenceTheCounter : Obligations.HomeEdgesReferenceTheCounter := by
  intro s live referenced drift
  refine ⟨execHomeRising_level live, fun low => ?_, execHomeFalling_level live, execHomeFalling_falls live⟩
  refine ⟨_, execHomeRising_rises live low, ?_⟩
  obtain ⟨rst, ixc, btk, wlu, ctm, aar, pins, pending, attentions⟩ := State.closeEvent_blocks s s.homeRises
  have alike := State.alike_closeEvent s s.homeRises
  have linked : s.LinksKept s.homed := .of_links rfl
  have keeps := s.homeRises_keepsCount
  have links := (linked.trans keeps.links).closeEvent s
  generalize State.closeEvent s s.homeRises = t at *
  obtain ⟨cs, tight, h, timer, tracker⟩ := keeps.tracker
  obtain ⟨f, x, raised⟩ := keeps.attentions
  obtain ⟨y, e, store⟩ := keeps.store
  have stopped : h = none := timer.elim id id
  refine ⟨pins.trans keeps.wires, ?_, ?_, ?_, ?_, ?_, ?_, ?_, ?_, ?_, ?_, links, pending.trans keeps.queue, fun waits resting => ?_,
    fun m hm runs => ?_⟩
  · rw [btk, tracker]; rfl
  · rw [btk, tracker]; rfl
  · rw [btk, tracker]; rfl
  · rw [btk, tracker]; rfl
  · rw [btk, tracker, stopped]
  · rw [btk, tracker]; rfl
  · rw [alike.attentions, raised]; rfl
  · rw [rst, store]; rfl
  · rw [rst, store]; rfl
  · rw [State.SameLists, rst, store]; exact ⟨rfl, rfl, rfl, rfl⟩
  · rw [State.homeRises_rests resting fun c => waits (s.homed_released.mp c)] at *
    exact ⟨ixc, btk, rst, wlu, ctm, aar, State.drift_of_attentions attentions⟩
  · intro ends
    have before : s.homed.FaultsAs { s with btk := referenced } := ⟨rfl, rfl, rfl, rfl, rfl, rfl, rfl⟩
    rw [State.homeRises_moves hm runs] at *
    refine ⟨rst.trans s.homed.counterChanged_rst, ctm.trans s.homed.counterChanged_ctm, fun out => ?_, fun inside => ?_,
      fun inside stands => ?_, fun inside ends present settings => ?_⟩
    · exact ((State.counterChanged_faults (s := s.homed) hm runs out).alike (.refl _) alike).same before (.refl t)
    · obtain ⟨w, x, l, moved⟩ := State.counterChanged_within_eq (s := s.homed) hm runs inside
      rw [moved] at btk attentions
      exact ⟨State.drift_of_attentions attentions, btk⟩
    · rw [State.counterChanged_stands (s := s.homed) hm runs inside stands, State.tightenReseat_eq (s := s.homed) hm] at ixc wlu aar
      exact ⟨ixc, wlu, aar⟩
    · obtain ⟨w, outcome, ended⟩ := State.endSweep_ends (s := s.homed) settings present
      rw [State.counterChanged_ends (s := s.homed) hm runs inside ends, ended] at ixc wlu aar
      exact ⟨ixc, by rw [aar]; rfl, by rw [wlu]; exact outcome⟩

end Sys2Proof.Machine
end

section
/-! SUPPORT. The windows that a learn writes (R134, R145, R149), and the requests on a learn (O60). -/

namespace Sys2Proof.Machine

/-! ### What a learn writes at one place -/

/-- A place of the window table after the learn has written its WINDOW positions (R151). -/
def SweepEntry.written (e : SweepEntry) (w : Option Window) : Option Window :=
  if e.outcome = some .window then some { low := e.low.getD 0, high := e.high.getD 0 } else w

/-- An entry capture after the largest drifts of the WINDOW positions have been cleared (R134). -/
def SweepEntry.cleared (e : SweepEntry) (c : EntryCapture) : EntryCapture :=
  if e.outcome = some .window then { c with largest := 0 } else c

theorem SweepEntry.written_written (e : SweepEntry) (w : Option Window) : e.written (e.written w) = e.written w := by
  unfold SweepEntry.written; split <;> rfl

theorem SweepEntry.cleared_cleared (e : SweepEntry) (c : EntryCapture) : e.cleared (e.cleared c) = e.cleared c := by
  unfold SweepEntry.cleared; split <;> rfl

/-! ### The writing of the windows -/

/-- The learn has written the places `xs` of the windows, cleared the drifts beside them, and changed nothing else but renewed cells. -/
structure State.Measures (s t : State) (xs : List Nat) : Prop where
  frame : ∃ w c e, w.length = s.rst.windows.length ∧ c.length = s.btk.captures.length ∧
    t = { s with rst := { s.rst with windows := w, errors := e }, btk := { s.btk with captures := c } }
  windows : ∀ i, i < s.rst.windows.length →
    t.rst.windows.getD i none = if i ∈ xs then (s.sweepEntry (i + 1)).written (s.rst.windows.getD i none) else s.rst.windows.getD i none
  captures : ∀ i, i < s.btk.captures.length → t.btk.captures.getD i EntryCapture.reset =
    if i ∈ xs then (s.sweepEntry (i + 1)).cleared (s.btk.captures.getD i EntryCapture.reset) else s.btk.captures.getD i EntryCapture.reset

theorem State.Measures.nil (s : State) : s.Measures s [] :=
  ⟨⟨_, _, _, rfl, rfl, rfl⟩, fun _ _ => by simp, fun _ _ => by simp⟩

theorem State.Measures.cons {s t u : State} {x : Nat} {xs : List Nat} (a : s.Measures t [x]) (b : t.Measures u xs) :
    s.Measures u (x :: xs) := by
  obtain ⟨w, c, e, wide, long, rfl⟩ := a.frame
  obtain ⟨w', c', e', wide', long', rfl⟩ := b.frame
  refine ⟨⟨w', c', e', wide'.trans wide, long'.trans long, rfl⟩, fun i hi => ?_, fun i hi => ?_⟩
  · rw [b.windows i (hi.trans_eq wide.symm), a.windows i hi]
    by_cases here : i = x <;> by_cases later : i ∈ xs <;> simp [here, later, State.sweepEntry, SweepEntry.written_written]
  · rw [b.captures i (hi.trans_eq long.symm), a.captures i hi]
    by_cases here : i = x <;> by_cases later : i ∈ xs <;> simp [here, later, State.sweepEntry, SweepEntry.cleared_cleared]

/-- The write of one position's window (R145, R149). -/
theorem State.writeMeasured_measures (s : State) (x : Nat) : s.Measures (s.writeMeasured (x + 1)) [x] := by
  by_cases seen : (s.sweepEntry (x + 1)).outcome = some .window
  · have taken : s.writeMeasured (x + 1) = (s.setWindow (x + 1) ((s.sweepEntry (x + 1)).written none)).rewriteCells [⟨.window, x⟩] := by
      simp [State.writeMeasured, SweepEntry.written, seen]
    rw [taken]
    refine ⟨⟨_, _, _, List.length_set .., List.length_modify .., rfl⟩, fun i hi => ?_, fun i hi => ?_⟩
    · by_cases here : i = x
      · subst here
        exact (getD_set_self _ _ _ _ hi).trans (by simp [SweepEntry.written, seen])
      · exact (getD_set_ne _ _ _ here).trans (by simp [here])
    · by_cases here : i = x
      · subst here
        exact (getD_modify_self _ _ _ _ hi).trans (by simp [SweepEntry.cleared, seen])
      · exact (getD_modify_ne _ _ _ here).trans (by simp [here])
  · have kept : s.writeMeasured (x + 1) = s := by simp [State.writeMeasured, seen]
    rw [kept]
    refine ⟨⟨_, _, _, rfl, rfl, rfl⟩, fun i _ => ?_, fun i _ => ?_⟩ <;> by_cases here : i = x <;>
      simp [here, seen, SweepEntry.written, SweepEntry.cleared]

theorem State.foldl_measures (xs : List Nat) (s : State) : s.Measures (xs.foldl (fun t i => t.writeMeasured (i + 1)) s) xs := by
  induction xs generalizing s with
  | nil => exact .nil s
  | cons x xs ih => exact (s.writeMeasured_measures x).cons (ih _)

theorem State.writeWindows_measures (s : State) : s.Measures s.writeWindows (List.range 15) := s.foldl_measures (List.range 15)

/-- The window of each of the positions 1 to 15 after a learn has written (R151). -/
theorem State.Measures.window {s t : State} (h : s.Measures t (List.range 15)) (length : s.rst.windows.length = 15) {k : Nat}
    (low : 1 ≤ k) (high : k ≤ 15) : t.window k = (s.sweepEntry k).written (s.window k) := by
  have place := h.windows (k - 1) (by omega)
  rw [if_pos (List.mem_range.mpr (by omega)), Nat.sub_add_cancel low] at place
  simpa only [State.window, if_neg (Nat.ne_of_gt low)] using place

/-- The entry capture of each of the positions 1 to 15 after a learn has written (R134). -/
theorem State.Measures.capture {s t : State} (h : s.Measures t (List.range 15)) (length : s.btk.captures.length = 15) {k : Nat}
    (low : 1 ≤ k) (high : k ≤ 15) :
    t.btk.captures.getD (k - 1) EntryCapture.reset = (s.sweepEntry k).cleared (s.btk.captures.getD (k - 1) EntryCapture.reset) := by
  have place := h.captures (k - 1) (by omega)
  rwa [if_pos (List.mem_range.mpr (by omega)), Nat.sub_add_cancel low] at place

/-- The working copy is that of the transfer settings (R7). -/
theorem State.working_of_transfer {s t : State} (h : t.rst.transfer.map Transfer.working = s.rst.transfer.map Transfer.working) :
    t.working = s.working := by
  unfold State.working
  cases a : t.rst.transfer <;> cases b : s.rst.transfer <;> simp_all

/-! ### The requests on a learn (R138, R149, R150) -/

theorem State.tooNarrow_iff (s : State) : s.tooNarrow = true ↔
    ∃ e, e ∈ s.wlu.record.entries ∧ e.outcome = some .window ∧ e.high.getD 0 - e.low.getD 0 < s.working.minWidth := by
  simp [State.tooNarrow, LearnRecord.windows]

theorem State.acceptLearn_unheld {s : State} (h : s.wlu.record.state ≠ .held) : s.acceptLearn = refuse s .wrongState :=
  if_pos (by simpa using h)

theorem State.acceptLearn_narrow {s : State} (h : s.tooNarrow = true) : s.acceptLearn = refuse s .wrongState := by
  rw [State.acceptLearn, if_pos h, ite_self]

/-- The state that an accepted learn leaves (R149). -/
def State.learnAccepted (s : State) : State :=
  (s.writeWindows.setPendingTarget (s.wlu.record.placed.getD 0)).onWlu fun w => { w with record := { w.record with state := .accepted } }

theorem State.acceptLearn_takes {s : State} (held : s.wlu.record.state = .held) (wide : s.tooNarrow = false) :
    ∃ d, s.acceptLearn = ok s.learnAccepted d :=
  ⟨_, (if_neg (by simp [held])).trans (if_neg (Bool.eq_false_iff.mp wide))⟩

/-- An accepted learn changes the windows, the drifts, the pending target and the record's state (R134, R149). -/
theorem State.learnAccepted_frame (s : State) : ∃ v, s.Measures v (List.range 15) ∧ s.learnAccepted = { s with
    rst := { s.rst with
      windows := v.rst.windows, errors := v.rst.errors
      transfer := s.rst.transfer.map fun x => { x with pending := { x.pending with target := s.wlu.record.placed.getD 0 } } }
    btk := { s.btk with captures := v.btk.captures }
    wlu := { s.wlu with record := { s.wlu.record with state := .accepted } } } := by
  have measures := s.writeWindows_measures
  rw [State.learnAccepted]
  generalize s.writeWindows = v at *
  obtain ⟨w, c, e, -, -, rfl⟩ := measures.frame
  exact ⟨_, measures, rfl⟩

theorem State.discardLearn_unheld {s : State} (h : s.wlu.record.state ≠ .held) : s.discardLearn = refuse s .wrongState :=
  if_pos (by simpa using h)

theorem State.discardLearn_takes {s : State} (held : s.wlu.record.state = .held) :
    s.discardLearn = ok { s with wlu := { s.wlu with record := { s.wlu.record with state := .discarded } } } := by
  unfold State.discardLearn State.discardHeld State.onWlu
  simp [held]

/-- An ACCEPT LEARN that its checks let through. -/
theorem acceptLearn_taken (tag : Byte) {s : State} (hr : s.Ready .supl) (held : s.wlu.record.state = .held) (wide : s.tooNarrow = false) :
    ∃ t d, exec (.acceptLearn .supl tag) s = .next t ∧ s.Answered t .supl tag .ok d ∧
      (s.granted (.acceptLearn .supl tag) .supl).learnAccepted.Closes t := by
  let q := s.granted (.acceptLearn .supl tag) .supl
  obtain ⟨d, taken⟩ := State.acceptLearn_takes (s := q) held wide
  have frames : q.Frames q.learnAccepted := by
    obtain ⟨v, -, accepted⟩ := q.learnAccepted_frame
    rw [accepted]
    exact ⟨rfl, rfl, rfl, .of_links rfl⟩
  obtain ⟨t, done⟩ := State.grant_does (tag := tag) (p := .supervisor)
    (cells := [fun _ => [⟨.transfer, 0⟩, ⟨.transfer, 4⟩, ⟨.transfer, 5⟩]]) (op := State.acceptLearn) hr rfl taken frames
  exact ⟨t, d, done⟩

/-- Settles O60: LEARN arms the next learn; ACCEPT LEARN and DISCARD LEARN rule a HELD result, with their refusals in order. -/
theorem learnRequestsRuleTheHeldResult : Obligations.LearnRequestsRuleTheHeldResult := by
  intro tag s hr refused r narrow
  refine ⟨fun absent => ?_, fun present => ?_, fun unheld => ⟨?_, ?_⟩, fun held => ?_, fun _ thin => ?_, fun held wide length shape => ?_⟩
  · exact State.grant_answers hr rfl (if_pos (by simpa using absent))
  · let u : State := { s with ixc := { s.ixc with learnArmed := true } }
    have armed : (s.granted (.learn .supl tag) .supl).armLearn = accepted (u.granted (.learn .supl tag) .supl) (flagByte true) :=
      if_neg (by simpa [Option.isSome_iff_ne_none] using present)
    exact (State.grant_leads (d := flagByte true) hr rfl armed).trans (congrArg _ (State.replied_same (s := s) (u := u) _ _ _ _ rfl))
  · exact State.grant_answers hr rfl (State.acceptLearn_unheld (s := s.granted (.acceptLearn .supl tag) .supl) unheld)
  · exact State.grant_answers hr rfl (State.discardLearn_unheld (s := s.granted (.discardLearn .supl tag) .supl) unheld)
  · let u : State := { s with wlu := { s.wlu with record := { r with state := .discarded } } }
    have dropped : (s.granted (.discardLearn .supl tag) .supl).discardLearn = ok (u.granted (.discardLearn .supl tag) .supl) :=
      State.discardLearn_takes (s := s.granted (.discardLearn .supl tag) .supl) held
    exact (State.grant_leads (d := []) hr rfl dropped).trans (congrArg _ (State.replied_same (s := s) (u := u) _ _ _ _ rfl))
  · exact State.grant_answers hr rfl
      (State.acceptLearn_narrow (s := s.granted (.acceptLearn .supl tag) .supl) ((State.tooNarrow_iff _).mpr thin))
  · let q := s.granted (.acceptLearn .supl tag) .supl
    have wide : s.tooNarrow = false := Bool.eq_false_iff.mpr fun thin => wide (s.tooNarrow_iff.mp thin)
    obtain ⟨t, d, next, answered, closes⟩ := acceptLearn_taken tag hr held wide
    obtain ⟨v, measures, accepted⟩ := q.learnAccepted_frame
    have store := closes.rst.trans (congrArg State.rst accepted)
    have tracker := closes.btk.trans (congrArg State.btk accepted)
    refine ⟨t, d, next, answered, ?_, ?_, fun x hx => ?_, fun k low high => ⟨?_, ?_⟩, ?_, ?_, ?_, ?_, ?_, ?_, ?_⟩
    · rw [closes.wlu, accepted]; rfl
    · refine State.working_of_transfer ?_
      rw [store]
      exact Option.map_map ..
    · rw [store]
      exact congrArg (Option.map _) hx
    · rw [State.window, store]
      exact measures.window length low high
    · rw [tracker, measures.capture shape low high]
      exact apply_ite EntryCapture.largest _ _ _
    · rw [store]; rfl
    · rw [store]; rfl
    · rw [State.SameLists, store]; exact ⟨rfl, rfl, rfl, rfl⟩
    · rw [closes.ixc, accepted]; rfl
    · rw [closes.ctm, accepted]; rfl
    · rw [tracker]; rfl
    · rw [closes.attentions, accepted]; rfl

end Sys2Proof.Machine
end

section
/-! SUPPORT. The learn write (O24): the tables it writes, the record it closes, and the entry to RESEAT with its tests. -/

namespace Sys2Proof.Machine

/-! ### The entry to RESEAT (R49, R127 to R129) -/

/-- The MOTION frame of RESEAT (R127, R128). -/
def State.reseatFrame (s : State) (m : Motion) : MotionFrame :=
  { step := .reseat, kind := m.kind, target := m.target, stopBand := s.working.stopBand
    limit := if s.btk.counter ≤ m.target + s.working.overtravel then m.target + s.working.overtravel
      else s.sweepLimit + s.working.overtravel
    sense := .upper }

/-- The state that enters RESEAT with the motion record `m`, before the tests on entry. -/
def State.reseating (s : State) (m : Motion) : State := { s with
  ixc := { s.ixc with
    state := .reseat, motion := some m, sweepTimer := none, carryTimer := some { elapsed := 0, limit := s.working.carryTimeout } }
  btk := { s.btk with reseatTight := decide (s.btk.counter ≤ m.target + s.working.overtravel) } }

/-- The same state with its MOTION frame posted. -/
def State.reseated (s : State) (m : Motion) : State := (s.reseating m).post .drvl (.motion (s.reseatFrame m))

theorem State.reseating_posts {s : State} {m : Motion} (learn : m.kind = .learn) : (s.reseating m).postMotion .reseat = s.reseated m := by
  have motion : (s.reseating m).ixc.motion = some m := rfl
  have limit : (s.reseating m).overtravelLimit m = ((s.reseatFrame m).limit, .upper) := by
    unfold State.overtravelLimit State.reseatFrame
    rw [learn]
    by_cases tight : s.btk.counter ≤ m.target + s.working.overtravel
    · rw [if_pos tight]; exact if_pos (decide_eq_true tight)
    · rw [if_neg tight]; exact if_neg (by simpa [State.reseating] using tight)
  unfold State.postMotion State.reseated
  rw [motion]
  dsimp only
  rw [limit]
  rfl

theorem State.enterReseat_eq {s : State} {m : Motion} (hm : s.ixc.motion = some m) (learn : m.kind = .learn) (x : Int) :
    s.enterReseat x = (s.reseated { m with target := x }).checkEntry := by
  let u := (s.onIxc fun i => { i with
    state := .reseat, motion := i.motion.map fun m => { m with target := x }
    sweepTimer := none, carryTimer := some { elapsed := 0, limit := s.working.carryTimeout } }).onBtk fun b => { b with reseatTight := false }
  have moved : u.ixc.motion = some { m with target := x } := congrArg (Option.map _) hm
  have tight : u.tightenReseat = s.reseating { m with target := x } := by
    rw [State.tightenReseat_eq moved]
    simp only [u, State.reseating, State.onBtk, State.onIxc, hm, Option.map_some, Bool.false_or, true_and]
    rfl
  rw [← State.reseating_posts (m := { m with target := x }) learn, ← tight]
  rfl

/-- The tests on the entry to RESEAT let the motion go on: the counter is not saturated, and not in overtravel (R122, R128, R129). -/
def State.ClearToReseat (s : State) (x : Int) : Prop :=
  s.btk.saturated = false ∧ (s.btk.counter ≤ x + s.working.overtravel ∨ s.btk.counter ≤ s.sweepLimit + s.working.overtravel)

theorem State.reseated_overtravels {s : State} {m : Motion} (learn : m.kind = .learn) : (s.reseated m).overtravels = true ↔
    ¬(s.btk.counter ≤ m.target + s.working.overtravel ∨ s.btk.counter ≤ s.sweepLimit + s.working.overtravel) := by
  refine (State.overtravels_reseat (s := s.reseated m) rfl rfl learn).trans ?_
  change (if decide (s.btk.counter ≤ m.target + s.working.overtravel) = true then m.target + s.working.overtravel < s.btk.counter
    else s.sweepLimit + s.working.overtravel < s.btk.counter) ↔ _
  by_cases tight : s.btk.counter ≤ m.target + s.working.overtravel
  · simp [tight]
  · simp [tight]

theorem State.enterReseat_clear {s : State} {m : Motion} (hm : s.ixc.motion = some m) (learn : m.kind = .learn) {x : Int}
    (clear : s.ClearToReseat x) : s.enterReseat x = s.reseated { m with target := x } := by
  have within := fun out => (State.reseated_overtravels (m := { m with target := x }) learn).mp out clear.2
  rw [State.enterReseat_eq hm learn]
  exact State.checkEntry_passes clear.1 (Bool.eq_false_iff.mpr within)

theorem State.enterReseat_barred {s : State} {m : Motion} (hm : s.ixc.motion = some m) (learn : m.kind = .learn) {x : Int}
    (barred : ¬s.ClearToReseat x) : ∃ y, s.enterReseat x = (s.reseated { m with target := x }).enterFault y ∧
      (y = .encoderRange ∧ s.btk.saturated = true ∨ y = .overtravel ∧
        ¬(s.btk.counter ≤ x + s.working.overtravel ∨ s.btk.counter ≤ s.sweepLimit + s.working.overtravel)) := by
  rw [State.enterReseat_eq hm learn]
  cases saturated : s.btk.saturated with
  | true => exact ⟨_, State.checkEntry_saturated rfl saturated, .inl ⟨rfl, rfl⟩⟩
  | false =>
    have out := fun within => barred ⟨saturated, within⟩
    have overtravels := (State.reseated_overtravels (m := { m with target := x }) learn).mpr out
    exact ⟨_, State.checkEntry_overtravels rfl saturated overtravels, .inr ⟨rfl, out⟩⟩

/-- What the entry to RESEAT leaves whether or not its tests abort the motion. -/
structure State.Reseats (s t : State) (m : Motion) : Prop where
  motion : t.ixc.motion = some m
  timer : t.ixc.sweepTimer = none
  rst : t.rst = s.rst
  wlu : t.wlu = s.wlu
  captures : t.btk.captures = s.btk.captures
  learnDone : t.liu.attentions.learnDone = s.liu.attentions.learnDone
  wires : t.pins = s.pins
  frame : (t.link .drvl).unsolicited = some (.motion (s.reseatFrame m))

theorem State.reseated_reseats (s : State) (m : Motion) (links : s.liu.links.length = 18) : s.Reseats (s.reseated m) m := by
  refine ⟨rfl, rfl, rfl, rfl, rfl, rfl, rfl, ?_⟩
  exact congrArg LinkRecord.unsolicited ((s.reseating m).link_onLink_self .drvl _ links)

/-- A fault in RESEAT finds the learn ended, and aborts none (R146). -/
theorem State.enterFault_learnDone {s : State} (reseat : s.ixc.state = .reseat) (c : Cause) (x : Option SeatCheck) :
    (s.enterFault c x).liu.attentions.learnDone = s.liu.attentions.learnDone := by
  unfold State.enterFault
  rw [reseat]
  rfl

theorem State.Reseats.enterFault {s t : State} {m : Motion} (h : s.Reseats t m) (learn : m.kind = .learn) (reseat : t.ixc.state = .reseat)
    (c : Cause) : s.Reseats (t.enterFault c) m := by
  have faults := t.enterFault_enters c none
  obtain ⟨-, -, sweepTimer, -⟩ := faults.timers
  have moved : t.motionKind = some .learn := by rw [State.motionKind, h.motion, ← learn]; rfl
  refine ⟨faults.motion.trans h.motion, sweepTimer, (t.enterFault_rst c none).trans h.rst,
    (faults.kept (.inr (.inl reseat))).trans h.wlu, (faults.captures (by rw [moved]; nofun)).trans h.captures,
    (State.enterFault_learnDone reseat c none).trans h.learnDone, (t.enterFault_collects c none).wires.trans h.wires, ?_⟩
  rw [State.link_of_links (t.enterFault_links c none)]
  exact h.frame

theorem State.enterReseat_reseats {s : State} {m : Motion} (hm : s.ixc.motion = some m) (learn : m.kind = .learn)
    (links : s.liu.links.length = 18) (x : Int) : s.Reseats (s.enterReseat x) { m with target := x } := by
  have entered := s.reseated_reseats { m with target := x } links
  by_cases clear : s.ClearToReseat x
  · rw [State.enterReseat_clear hm learn clear]; exact entered
  · obtain ⟨y, aborts, -⟩ := State.enterReseat_barred hm learn clear
    rw [aborts]; exact entered.enterFault learn rfl y

/-! ### What the learn write writes before it (R134, R145) -/

/-- The transfer settings after the learn write (R145). -/
def LearnOutcome.retarget (o : LearnOutcome) (target : Int) (x : Transfer) : Transfer :=
  if o = .applied then { x with pending := { x.pending with target := target }, working := { x.working with target := target } } else x

theorem LearnOutcome.retarget_working (o : LearnOutcome) (target : Int) (x : Transfer) :
    (o.retarget target x).working.overtravel = x.working.overtravel ∧ (o.retarget target x).working.stopBand = x.working.stopBand ∧
    (o.retarget target x).working.carryTimeout = x.working.carryTimeout := by
  unfold LearnOutcome.retarget; split <;> exact ⟨rfl, rfl, rfl⟩

/-- The tables as the learn write of `o` leaves them in `v`: the windows and the targets of an APPLIED learn, nothing of another. -/
structure State.TablesLearned (s v : State) (o : LearnOutcome) : Prop where
  applied : o = .applied → (s.setBothTargets (s.wlu.record.result o)).Measures v (List.range 15)
  kept : o ≠ .applied → v = s

theorem State.TablesLearned.transfer {s v : State} {o : LearnOutcome} (h : s.TablesLearned v o) {x : Transfer} (hx : s.rst.transfer = some x) :
    v.rst.transfer = some (o.retarget (s.wlu.record.result o) x) := by
  unfold LearnOutcome.retarget
  by_cases applied : o = .applied
  · obtain ⟨w, c, e, -, -, rfl⟩ := (h.applied applied).frame
    rw [if_pos applied]
    exact congrArg (Option.map _) hx
  · rw [if_neg applied, h.kept applied, hx]

theorem State.TablesLearned.window {s v : State} {o : LearnOutcome} (h : s.TablesLearned v o) (applied : o = .applied)
    (length : s.rst.windows.length = 15) {k : Nat} (low : 1 ≤ k) (high : k ≤ 15) : v.window k = (s.sweepEntry k).written (s.window k) :=
  (h.applied applied).window length low high

theorem State.TablesLearned.capture {s v : State} {o : LearnOutcome} (h : s.TablesLearned v o) (length : s.btk.captures.length = 15) {k : Nat}
    (low : 1 ≤ k) (high : k ≤ 15) :
    let c := s.btk.captures.getD (k - 1) EntryCapture.reset
    v.btk.captures.getD (k - 1) EntryCapture.reset =
      if o = .applied ∧ (s.sweepEntry k).outcome = some .window then { c with largest := 0 } else c := by
  intro c
  by_cases applied : o = .applied
  · rw [(h.applied applied).capture length low high]
    exact if_congr (iff_and_self.mpr fun _ => applied) rfl rfl
  · rw [h.kept applied, if_neg fun c => applied c.1]

/-- The learn record as the learn write of `o` closes it (R145). -/
def LearnRecord.closed (r : LearnRecord) (o : LearnOutcome) (time : Clock) : LearnRecord :=
  { r with state := o.recorded.1, failure := o.recorded.2.1, resulting := some (r.result o), endTime := some time }

/-- The learn write before its entry to RESEAT: the tables of `v`, the record closed, LEARN_DONE raised. -/
def State.learned (s v : State) (o : LearnOutcome) : State := { s with
  rst := { s.rst with windows := v.rst.windows, errors := v.rst.errors, transfer := v.rst.transfer }
  btk := { s.btk with captures := v.btk.captures }
  wlu := { record := s.wlu.record.closed o s.ctm.clock, outcome := none }
  liu := { s.liu with attentions := { s.liu.attentions with learnDone := some o.recorded.2.2 } } }

/-- The working settings of RESEAT are those of the learn but for the target (R145). -/
theorem State.TablesLearned.working {s v : State} {o : LearnOutcome} (h : s.TablesLearned v o) {x : Transfer} (hx : s.rst.transfer = some x) :
    (s.learned v o).working = (o.retarget (s.wlu.record.result o) x).working := by
  unfold State.working
  rw [show (s.learned v o).rst.transfer = _ from h.transfer hx]

theorem State.TablesLearned.clear_iff {s v : State} {o : LearnOutcome} (h : s.TablesLearned v o) {x : Transfer} (hx : s.rst.transfer = some x)
    (target : Int) : (s.learned v o).ClearToReseat target ↔ s.btk.saturated = false ∧
      (s.btk.counter ≤ target + x.working.overtravel ∨ s.btk.counter ≤ s.sweepLimit + x.working.overtravel) := by
  unfold State.ClearToReseat
  rw [h.working hx, (o.retarget_working _ x).1]
  rfl

theorem State.TablesLearned.reseatFrame {s v : State} {o : LearnOutcome} (h : s.TablesLearned v o) {x : Transfer} (hx : s.rst.transfer = some x)
    (m : Motion) : (s.learned v o).reseatFrame m =
      { step := .reseat, kind := m.kind, target := m.target, stopBand := x.working.stopBand
        limit := if s.btk.counter ≤ m.target + x.working.overtravel then m.target + x.working.overtravel
          else s.sweepLimit + x.working.overtravel
        sense := .upper } := by
  obtain ⟨overtravel, stopBand, -⟩ := o.retarget_working (s.wlu.record.result o) x
  unfold State.reseatFrame
  rw [h.working hx, overtravel, stopBand]
  rfl

theorem State.writeLearn_eq (s : State) (o : LearnOutcome) : ∃ v, s.TablesLearned v o ∧
    s.writeLearn o = (s.learned v o).enterReseat (s.wlu.record.result o) := by
  unfold State.writeLearn
  cases o with
  | held | failed _ => exact ⟨s, ⟨nofun, fun _ => rfl⟩, rfl⟩
  | applied =>
    dsimp only
    have measures := (s.setBothTargets (s.wlu.record.result .applied)).writeWindows_measures
    generalize (s.setBothTargets (s.wlu.record.result .applied)).writeWindows = v at *
    refine ⟨v, ⟨fun _ => measures, fun h => absurd rfl h⟩, ?_⟩
    obtain ⟨w, c, e, -, -, rfl⟩ := measures.frame
    rfl

/-- The learn write in its grant, on a sound store. -/
theorem execLearnWrite_writes {ws : List WorkItem} {o : LearnOutcome} {s : State} (sound : s.Sound) (head : s.aar.workList = .learnWrite :: ws)
    (sweeping : s.ixc.state = .sweep) (outcome : s.wlu.outcome = some o) :
    execLearnWrite s = .next (State.closeEvent s (s.popWork.writeLearn o)) := by
  have due : (s.aar.workList.head? = some .learnWrite && s.ixc.state == .sweep && s.wlu.outcome.isSome) = true := by
    simp [head, sweeping, outcome]
  rw [execLearnWrite, s.event_live _ sound.1, if_pos due, State.learnGrant, State.readCells_sound _ _ _ (show s.popWork.rst.errors = [] from sound.2)]
  rw [State.popWork_ixc, State.popWork_wlu, sweeping, outcome]

/-- Settles O24: the learn write closes the record, writes what an APPLIED learn has found, and enters RESEAT, or FAULT by its tests. -/
theorem learnWriteEntersReseat : Obligations.LearnWriteEntersReseat := by
  intro ws o m x s sound head sweeping outcome hm learn hx wide target within clear links
  have result : target = s.wlu.record.result o := by cases o <;> rfl
  obtain ⟨v, tables, written⟩ := s.popWork.writeLearn_eq o
  have next := (execLearnWrite_writes sound head sweeping outcome).trans (by rw [written])
  rw [show s.popWork.wlu.record.result o = target from result.symm] at next
  let u := s.popWork.learned v o
  have settings : u.working = (o.retarget target x).working := result ▸ tables.working hx
  obtain ⟨overtravel, -, carryTimeout⟩ := o.retarget_working target x
  have tests : u.ClearToReseat target ↔ clear := tables.clear_iff hx target
  have reseats := State.enterReseat_reseats (s := u) hm learn links target
  have frame := tables.reseatFrame hx { m with target := target }
  obtain ⟨⟨rst, ixc, btk, wlu, ctm, work, attentions⟩, wires, frames⟩ := State.closes_closeEvent s (u.enterReseat target)
  generalize State.closeEvent s (u.enterReseat target) = t at *
  have store := rst.trans reseats.rst
  have record : t.wlu = u.wlu := wlu.trans reseats.wlu
  have report : t.liu.attentions.learnDone = some o.recorded.2.2 := (congrArg Attentions.learnDone attentions).trans reseats.learnDone
  refine ⟨t, next, ?_, ?_, fun passes => ?_, fun fails => ?_, ?_, ?_, ?_, ?_, ?_, ?_, ?_, ?_, ?_, ?_, ?_⟩
  · rw [ixc, reseats.motion]
  · rw [ixc, reseats.timer]
  · rw [State.enterReseat_clear (s := u) hm learn (tests.mpr passes)] at ixc wires work
    refine ⟨by rw [ixc]; rfl, ?_, work.trans (congrArg List.tail head), ?_⟩
    · rw [ixc, ← carryTimeout, ← settings]; rfl
    · have free : s.pins.resetInput = false := sound.1
      have pins : t.pins = s.pins := wires
      simp [State.liftPermit, show t.ixc.state = .reseat by rw [ixc]; rfl, pins, free]
  · obtain ⟨y, aborts, why⟩ := State.enterReseat_barred (s := u) hm learn (mt tests.mp fails)
    have faults := (u.reseated { m with target := target }).enterFault_enters y none
    obtain ⟨-, carryTimer, -⟩ := faults.timers
    have kind : (u.reseated { m with target := target }).motionKind = some .learn := congrArg some learn
    rw [settings, overtravel] at why
    rw [aborts] at ixc attentions
    refine ⟨y, why, by rw [ixc, faults.state], ?_, by rw [ixc, faults.last], by rw [ixc, carryTimer], ?_, ?_⟩
    · rw [ixc, faults.current, kind]; rfl
    · simp [State.liftPermit, ixc, faults.state]
    · rw [attentions, faults.attention]
  · rw [record]; rfl
  · rw [record, result]; rfl
  · rw [record]; rfl
  · rintro rfl
    rw [record]
    exact ⟨rfl, report⟩
  · rintro rfl
    rw [record]
    exact ⟨rfl, report⟩
  · rintro r rfl
    rw [record]
    exact ⟨rfl, rfl, report⟩
  · intro applied
    have both : t.rst.transfer = some (o.retarget target x) := (congrArg Rst.transfer store).trans (result ▸ tables.transfer hx)
    rw [State.working, State.staged, both, LearnOutcome.retarget, if_pos applied]
    exact ⟨rfl, rfl⟩
  · intro other
    rw [store, ← s.popWork_rst, ← tables.kept other]
    exact ⟨rfl, rfl⟩
  · intro applied k low high
    refine Eq.trans ?_ (tables.window applied wide low high)
    rw [State.window, store]; rfl
  · intro length k low high
    refine Eq.trans ?_ (tables.capture length low high)
    rw [btk, reseats.captures]; rfl
  · exact ⟨_, (frames .drvl nofun).trans reseats.frame, by rw [frame]; exact ⟨rfl, learn, rfl, rfl, rfl⟩⟩

end Sys2Proof.Machine
end

section
/-! SUPPORT. The steps (O1, O2): the command at the front of the queue, and on an empty queue the arbiter's grant or one millisecond. -/

namespace Sys2Proof.Machine

/-! ### The queue and the arbiter's choice (R154, R156) -/

theorem step_front {s : State} {c : Instr} {rest : List Instr} (front : s.pending = c :: rest) : step s = exec c { s with pending := rest } := by
  rw [step, front]

/-- Settles O1: a step carries out the command at the front of the queue. -/
theorem stepCarriesOutTheFrontCommand : Obligations.StepCarriesOutTheFrontCommand := fun _ _ _ front => step_front front

theorem step_empty {s : State} (empty : s.pending = []) : step s = .next s.idle := by
  rw [step, empty]

/-- What the arbiter grants is put into the queue (R154). -/
theorem State.idle_grants {s : State} (live : s.Live) {c : Instr} (chosen : s.choice = some c) : s.idle = { s with pending := [c] } := by
  rw [State.idle, if_neg (by rw [live]; nofun), chosen]

/-- With nothing to grant one millisecond passes (R166, R168). -/
theorem State.idle_ticks {s : State} (live : s.Live) (nothing : s.choice = none) : s.idle = s.millisecond := by
  rw [State.idle, if_neg (by rw [live]; nofun), nothing]

theorem State.choice_work {s : State} {w : WorkItem} {ws : List WorkItem} (head : s.aar.workList = w :: ws) : s.choice = some w.command := by
  rw [State.choice, head]

theorem State.choice_slots {s : State} (idle : s.aar.workList = []) : s.choice = s.firstSlot s.aar.pointer := by
  rw [State.choice, idle]

/-- The first of the places 0 to `n`−1 at which a search finds something. -/
theorem findSome?_range {α : Type} {f : Nat → Option α} {n d : Nat} {a : α} (bound : d < n) (found : f d = some a)
    (before : ∀ j, j < d → f j = none) : (List.range n).findSome? f = some a := by
  refine List.findSome?_eq_some_iff.mpr ⟨List.range d, d, (List.range (n - d - 1)).map (d + 1 + ·), ?_, found, ?_⟩
  · rw [← List.singleton_append, ← List.append_assoc, ← List.range_succ, ← List.range_add, show d + 1 + (n - d - 1) = n by omega]
  · exact fun j hj => before j (List.mem_range.mp hj)

/-- The first slot that holds a request from the pointer on is served (R154). -/
theorem State.firstSlot_finds {s : State} {l : Link} {c : Instr} {d : Nat} (bound : d < 18)
    (holds : (s.link (Link.at ((l.place + d) % 18))).slot = some c)
    (before : ∀ j, j < d → (s.link (Link.at ((l.place + j) % 18))).slot = none) : s.firstSlot l = some c :=
  findSome?_range bound holds before

theorem State.firstSlot_none {s : State} (empty : ∀ l, (s.link l).slot = none) (l : Link) : s.firstSlot l = none :=
  List.findSome?_eq_none_iff.mpr fun _ _ => empty _

/-! ### One millisecond (R52, R136, R168) -/

theorem State.startTimer_tick (s : State) (k : Nat) : s.tick.startTimer k = tickValue (s.startTimer k) := by
  have ticked : s.tick.startTimer k = (s.ctm.startTimers.map tickValue).getD k none := rfl
  rw [ticked, State.startTimer, List.getD_eq_getElem?_getD, List.getD_eq_getElem?_getD, List.getElem?_map]
  cases s.ctm.startTimers[k]? <;> rfl

theorem expired_iff (x : Option Timer) : expired x = true ↔ ∃ y, x = some y ∧ y.limit ≤ y.elapsed := by
  simp [expired, Option.any_eq_true]

theorem State.startDue_iff (s : State) (k : Nat) :
    s.startDue k = true ↔ ∃ v x, s.startTimer k = some v ∧ s.rst.transfer = some x ∧ x.startTimeout ≤ v := by
  simp [State.startDue, Option.any_eq_true]

theorem State.overrunDue_iff (s : State) (k : Nat) : s.overrunDue k = true ↔
    (s.work k).overrunTaken = false ∧ ∃ v m, (s.work k).running = some v ∧ (s.work k).limit = some m ∧ m < v := by
  simp [State.overrunDue, Option.any_eq_true]

/-- The expiries of a millisecond, by the timer that each is of. -/
theorem State.mem_dueEvents (s : State) (c : Instr) : c ∈ s.dueEvents ↔
    (c = .liftTimeout ∧ expired s.ixc.liftTimer = true) ∨ (c = .carryTimeout ∧ expired s.ixc.carryTimer = true) ∨
    (c = .sweepTimeout ∧ expired s.ixc.sweepTimer = true) ∨ (c = .settleEnd ∧ expired s.ixc.settleTimer = true) ∨
    (c = .homeTimeout ∧ expired s.btk.homeTimer = true) ∨ (∃ k : Fin 16, c = .startTimeout k ∧ s.startDue k.val = true) ∨
    ∃ k : Fin 16, c = .overrun k ∧ s.overrunDue k.val = true := by
  have alone : ∀ (b : Bool) (y : Instr), c ∈ (if b then [y] else []) ↔ c = y ∧ b = true := fun b y => by cases b <;> simp
  have each : ∀ (p : Fin 16 → Bool) (f : Fin 16 → Instr), c ∈ ((List.finRange 16).filter p).map f ↔ ∃ k, c = f k ∧ p k = true :=
    fun p f => by simp [and_comm, eq_comm (a := c)]
  simp only [State.dueEvents, List.mem_append, alone, each, or_assoc]

/-- What joins the queue in a millisecond: its expiries, or the scrubber where there are none (R166). -/
theorem State.mem_millisecond (s : State) (c : Instr) :
    c ∈ s.millisecond.pending ↔ c ∈ s.tick.dueEvents ∨ s.tick.dueEvents = [] ∧ c = .scrubberRead [] := by
  unfold State.millisecond
  cases s.tick.dueEvents <;> simp

/-- Each timer's expiry is queued exactly where the timer has reached its limit. -/
theorem State.millisecond_expiries (s : State) :
    (.liftTimeout ∈ s.millisecond.pending ↔ expired s.tick.ixc.liftTimer = true) ∧
    (.carryTimeout ∈ s.millisecond.pending ↔ expired s.tick.ixc.carryTimer = true) ∧
    (.sweepTimeout ∈ s.millisecond.pending ↔ expired s.tick.ixc.sweepTimer = true) ∧
    (.settleEnd ∈ s.millisecond.pending ↔ expired s.tick.ixc.settleTimer = true) ∧
    (.homeTimeout ∈ s.millisecond.pending ↔ expired s.tick.btk.homeTimer = true) ∧
    (∀ k : Fin 16, .startTimeout k ∈ s.millisecond.pending ↔ s.tick.startDue k.val = true) ∧
    ∀ k : Fin 16, .overrun k ∈ s.millisecond.pending ↔ s.tick.overrunDue k.val = true := by
  simp [State.mem_millisecond, State.mem_dueEvents]

theorem State.millisecond_queues (s : State) : s.millisecond.pending ≠ [] := by
  unfold State.millisecond
  cases s.tick.dueEvents <;> nofun

/-- The scrubber is queued alone: it is no timer's expiry. -/
theorem State.scrubber_alone (s : State) : .scrubberRead [] ∈ s.millisecond.pending ↔ s.millisecond.pending = [.scrubberRead []] := by
  have no_timer : .scrubberRead [] ∉ s.tick.dueEvents := by rw [State.mem_dueEvents]; simp
  refine ⟨fun h => ?_, fun h => by rw [h]; exact .head _⟩
  obtain ⟨nothing, -⟩ := ((s.mem_millisecond _).mp h).resolve_left no_timer
  rw [State.millisecond, nothing]

/-- Settles O2: a step on an empty queue grants, or adds a millisecond and queues the expiries. -/
theorem idleStepGrantsOrTicks : Obligations.IdleStepGrantsOrTicks := by
  intro s empty live later
  refine ⟨fun w ws head => ?_, fun idle d c bound holds before => ?_, fun idle slots => ?_⟩
  · rw [step_empty empty, State.idle_grants live (State.choice_work head)]
  · rw [step_empty empty, State.idle_grants live ((State.choice_slots idle).trans (State.firstSlot_finds bound holds before))]
  · have ticks := State.idle_ticks live ((State.choice_slots idle).trans (State.firstSlot_none slots _))
    obtain ⟨lift, carry, sweep, settle, home, start, overrun⟩ := s.millisecond_expiries
    refine ⟨s.millisecond, by rw [step_empty empty, ticks], rfl, s.startTimer_tick, rfl, rfl, rfl, rfl, rfl, rfl, rfl, rfl, rfl, rfl,
      fun c hc => ?_, s.millisecond_queues, ?_, fun k => ?_, fun k => ?_, ?_, ?_, ?_, ?_, ?_⟩
    · rw [State.mem_millisecond, State.mem_dueEvents] at hc
      rcases hc with (⟨rfl, -⟩ | ⟨rfl, -⟩ | ⟨rfl, -⟩ | ⟨rfl, -⟩ | ⟨rfl, -⟩ | ⟨k, rfl, -⟩ | ⟨k, rfl, -⟩) | ⟨-, rfl⟩ <;> simp
    · exact s.scrubber_alone
    · exact (start k).trans (s.tick.startDue_iff k)
    · exact (overrun k).trans (s.tick.overrunDue_iff k)
    · exact lift.trans (expired_iff _)
    · exact carry.trans (expired_iff _)
    · exact sweep.trans (expired_iff _)
    · exact settle.trans (expired_iff _)
    · exact home.trans (expired_iff _)

end Sys2Proof.Machine
end

section
/-! SUPPORT. The scrubber (O25): how upsets come in, the reading of one cell, and what a grant leaves beside the cell it repairs. -/

namespace Sys2Proof.Machine

/-! ### Upsets, and a grant that is not made (R154, R159) -/

theorem State.upset_nil (s : State) : s.upset [] = s := rfl

theorem State.upset_one (s : State) {c : Cell} {e : CellError} (known : c.index < Region.size c.region) :
    (s.upset [(c, e)]).rst.errors = s.rst.errors.filter (fun x => x.1 != c) ++ [(c, e)] := if_pos (decide_eq_true known)

/-- The command takes in the upsets, then is the command without any. -/
theorem execScrubberRead_upset {s : State} (live : s.Live) (us : List (Cell × CellError)) :
    exec (.scrubberRead us) s = exec (.scrubberRead []) (s.upset us) := by
  have live' : (s.upset us).Live := live
  rw [exec, exec, execScrubberRead, execScrubberRead, s.event_live _ live, State.event_live _ _ live']
  rfl

/-- While something waits for the store the scrubber reads nothing (R154). -/
theorem execScrubberRead_waits {s : State} (live : s.Live) (waits : ¬s.Quiet) (us : List (Cell × CellError)) :
    exec (.scrubberRead us) s = .next (s.upset us) := by
  rw [exec, execScrubberRead, s.event_live _ live, if_neg (mt s.quiet_iff.mp waits)]
  exact congrArg _ (s.closeEvent_same _ rfl)

/-! ### A grant that reads its cell (R166) -/

theorem State.LinksKept.after {s u t : State} (h : u.LinksKept t) (same : u.liu.links = s.liu.links) : s.LinksKept t :=
  (State.LinksKept.of_links same).trans h

/-- What a scrubber grant leaves that has read and repaired its way to `u`: the walk position moved on to `c`, and at most the
supervisor's STATUS frame posted (R187). -/
structure State.Scrubs (u t : State) (c : Cell) : Prop where
  rst : t.rst = { u.rst with walk := c }
  ixc : t.ixc = u.ixc
  btk : t.btk = u.btk
  wlu : t.wlu = u.wlu
  ctm : t.ctm = u.ctm
  aar : t.aar = u.aar
  attentions : t.liu.attentions = u.liu.attentions
  links : u.LinksKept t

theorem execScrubberRead_reads {s u : State} (live : s.Live) (quiet : s.Quiet) (read : s.readCells [s.rst.walk] = u) :
    ∃ t, exec (.scrubberRead []) s = .next t ∧ u.Scrubs t (nextCell s.rst.walk) := by
  refine ⟨_, execScrubberRead_quiet live quiet, ?_⟩
  rw [read]
  obtain ⟨rst, ixc, btk, wlu, ctm, aar, -, -, attentions⟩ := State.closeEvent_blocks s (u.onRst fun r => { r with walk := nextCell s.rst.walk })
  have walked : u.LinksKept (u.onRst fun r => { r with walk := nextCell s.rst.walk }) := .of_links rfl
  exact ⟨rst, ixc, btk, wlu, ctm, aar, attentions, walked.closeEvent s⟩

/-- A sound store is read without any effect but the walk. -/
theorem execScrubberRead_sound {s : State} (live : s.Live) (quiet : s.Quiet) (sound : s.rst.errors = []) :
    exec (.scrubberRead []) s = .next { s with rst := { s.rst with walk := nextCell s.rst.walk } } := by
  rw [execScrubberRead_quiet live quiet, s.readCells_sound _ _ sound]
  exact congrArg _ (s.closeEvent_same _ rfl)

/-! ### A single-bit error (R159) -/

theorem State.readCells_corrects {s : State} {c : Cell} (errors : s.rst.errors = [(c, .correctable)]) :
    s.readCells [c] = (s.noteCorrected c).rewriteCells [c] := by
  have unsound : ¬s.rst.errors.isEmpty = true := by rw [errors]; exact Bool.false_ne_true
  have read : c ∈ s.readSet [c] := s.readSet_self c
  have good : s.found .correctable [c] = [c] := by simp [State.found, errors, read, sortCells, insertCell]
  have bad : s.found .uncorrectable [c] = [] := by simp [State.found, errors, sortCells]
  rw [State.readCells, if_neg unsound, good, bad]
  exact State.afterRepairs_plain _ _ nofun

/-! ### Lost cells (R160) -/

/-- The store with no cell in error. -/
def State.mended (s : State) : State := s.onRst fun r => { r with errors := [] }

/-- The rewriting of all lost cells leaves a sound store. -/
theorem State.Lost.mends {s : State} {bad : List Cell} (h : s.Lost bad) : s.rewriteCells bad = s.mended :=
  congrArg (fun es => s.onRst fun r => { r with errors := es }) h.rewritten

/-- Cells that stand in the order of repairs are repaired in the order given. -/
theorem sortCells_of_sorted {cs : List Cell} (sorted : cs.Pairwise (cellRank · ≤ cellRank ·)) : sortCells cs = cs := by
  induction cs with
  | nil => rfl
  | cons c cs ih =>
    obtain ⟨first, rest⟩ := List.pairwise_cons.mp sorted
    rw [show sortCells (c :: cs) = insertCell c (sortCells cs) from rfl, ih rest]
    cases cs with
    | nil => rfl
    | cons d ds => exact if_pos (first d (.head ds))

/-- A grant that reads a lost cell reads the cells that its repair needs (R160). -/
theorem State.readSet_needs {s : State} {c d : Cell} (damaged : c ∈ s.damagedCells) (needed : d ∈ s.needs c) : d ∈ s.readSet [c] := by
  rw [State.readSet, State.reach]
  refine s.reach_keeps _ (List.mem_append_right _ (List.mem_flatMap.mpr ⟨c, ?_, needed⟩))
  exact List.mem_filter.mpr ⟨damaged, by simp⟩

/-- The scrubber at the first of the lost cells, whose repair reads the others: all are repaired, in region order (R160). -/
theorem scrubber_repairs {s : State} (live : s.Live) (quiet : s.Quiet) {c : Cell} {cs : List Cell} (walk : s.rst.walk = c)
    (lost : s.Lost (c :: cs)) (needed : ∀ d ∈ cs, d ∈ s.needs c) (sorted : (c :: cs).Pairwise (cellRank · ≤ cellRank ·)) :
    ∃ t, exec (.scrubberRead []) s = .next t ∧ (s.mended.repairAll (c :: cs) false).Scrubs t (nextCell c) := by
  subst walk
  refine execScrubberRead_reads live quiet ?_
  have unsound : ¬s.rst.errors.isEmpty = true := by rw [lost]; exact Bool.false_ne_true
  have damaged : s.rst.walk ∈ s.damagedCells := by simp [State.damagedCells, show s.rst.errors = _ from lost]
  have reached : ∀ d ∈ s.rst.walk :: cs, d ∈ s.readSet [s.rst.walk] := fun d hd => by
    rcases List.mem_cons.mp hd with rfl | hd
    · exact s.readSet_self _
    · exact State.readSet_needs damaged (needed d hd)
  rw [State.readCells, if_neg unsound, lost.correctable, lost.found reached, sortCells_of_sorted sorted, ← lost.mends]
  rfl

/-! ### Repairs that write the store alone -/

/-- Repairs have led from `s` to the store `r` with no cell in error; beside it they have changed counts and reports only. -/
def State.Rewrites (s u : State) (r : Rst) : Prop := ∃ d x a, u = { s with
  rst := { r with errors := [], damages := d, lastDamaged := x }
  liu := { s.liu with attentions := a } }

/-- A further lost cell is counted, which writes nothing more. -/
theorem State.Rewrites.noteDamaged {s u : State} {r : Rst} (h : s.Rewrites u r) (c : Cell) : s.Rewrites (u.noteDamaged c) r := by
  obtain ⟨d, x, a, rfl⟩ := h
  exact ⟨_, _, _, rfl⟩

/-- What a scrubber grant leaves whose repairs have written the store `r`: the other blocks as they were. -/
structure State.ScrubbedTo (s t : State) (r : Rst) : Prop where
  store : ∃ d x w, t.rst = { r with errors := [], damages := d, lastDamaged := x, walk := w }
  ixc : t.ixc = s.ixc
  btk : t.btk = s.btk
  wlu : t.wlu = s.wlu
  ctm : t.ctm = s.ctm
  aar : t.aar = s.aar
  links : s.LinksKept t

theorem State.Scrubs.rewritten {s u t : State} {c : Cell} {r : Rst} (h : u.Scrubs t c) (rewrites : s.Rewrites u r) : s.ScrubbedTo t r := by
  obtain ⟨d, x, a, rfl⟩ := rewrites
  exact ⟨⟨d, x, c, h.rst⟩, h.ixc, h.btk, h.wlu, h.ctm, h.aar, h.links.after rfl⟩

/-! ### Lost routing, window and budget cells (R163, R171) -/

/-- The routing of a variant whose cell is lost is 0, that of the others is kept (R163). -/
theorem State.routing_repairRouting (s : State) (length : s.rst.routing.length = 128) {i v k : Nat} (hv : 1 ≤ v ∧ v ≤ 8) (hk : k < 16) :
    (s.repairRouting i).routing v k = if v = i + 1 then 0 else s.routing v k := by
  have place : (v - 1) * 16 + k < s.rst.routing.length := by omega
  have variant : ((v - 1) * 16 + k) / 16 = i ↔ v = i + 1 := by omega
  refine (getD_mapIdx s.rst.routing _ _ 0 0 place).trans ?_
  simp only [variant]
  rfl

/-- A window that is removed, and the largest drift with it (R134, R151). -/
theorem State.setWindow_at (s : State) {i : Nat} (hi : i < s.rst.windows.length) (captures : i < s.btk.captures.length) (w : Option Window) :
    (s.setWindow (i + 1) w).window (i + 1) = w ∧ (∀ k, k ≠ i + 1 → (s.setWindow (i + 1) w).window k = s.window k) ∧
      ((s.setWindow (i + 1) w).btk.captures.getD i EntryCapture.reset).largest = 0 := by
  refine ⟨getD_set_self s.rst.windows i w none hi, fun k hk => ?_, ?_⟩
  · unfold State.window
    split
    · rfl
    · exact getD_set_ne _ _ _ (by omega)
  · exact congrArg EntryCapture.largest (getD_modify_self s.btk.captures i _ _ captures)

/-- A lost budget is written as 0 is (R163, R170, R171). -/
theorem State.repairBudget_eq (s : State) {k g : Nat} (low : 1 ≤ g) (high : g ≤ 15) :
    s.repairBudget (k * 15 + (g - 1)) = s.rebudgeted k g 0 := by
  have position : (k * 15 + (g - 1)) / 15 = k := by omega
  have program : (k * 15 + (g - 1)) % 15 + 1 = g := by omega
  rw [State.repairBudget, position, program]
  rfl

/-- A budget of 0 gives no limit (R171). -/
theorem budgetLimit_zero (tolerance : Option Nat) : budgetLimit tolerance 0 = none := by cases tolerance <;> rfl

/-- The work timer of a position whose program's budget has become 0: it runs on without a limit (R171). -/
theorem State.rebudgeted_zero (s : State) {k g : Nat} (hk : k < 16) (low : 1 ≤ g) (high : g ≤ 15) (length : s.rst.budgets.length = 240)
    (shape : s.Shaped) : ((s.rebudgeted k g 0).work k).running = (s.work k).running ∧
      ((s.pos k).program = some g → (s.work k).running.isSome = true → ((s.rebudgeted k g 0).work k).limit = none) := by
  by_cases named : (s.pos k).program = some g
  · obtain ⟨running, limited, -⟩ := (s.work k).reformed_spec ((s.budgeted k g 0).orderLimit k)
    have none_left : (s.budgeted k g 0).orderLimit k = none := by
      rw [s.orderLimit_budgeted 0 (by omega) low high length named, budgetLimit_zero, ite_self]
    rw [s.rebudgeted_work k g 0 named (shape.tables hk).2.2]
    exact ⟨running, fun _ runs => by rw [limited, if_pos runs, none_left]⟩
  · rw [s.rebudgeted_work_other k g 0 fun h => named h.1]
    exact ⟨rfl, fun h => absurd h named⟩

/-- The scrubber at a lost cell of a table that no list and no setting depends on. -/
theorem scrubber_rewrites_table {s : State} (live : s.Live) (quiet : s.Quiet) {c : Cell} (walk : s.rst.walk = c)
    (lost : s.rst.errors = [(s.rst.walk, .uncorrectable)]) (plain : c.region ∉ [Region.palletSlot, .returnQueue, .schedule, .transfer]) :
    ∃ t, exec (.scrubberRead []) s = .next t ∧ (State.repairCell [c] false s.mended c).Scrubs t (nextCell c) := by
  have repaired := scrubber_repairs live quiet walk (cs := []) (by rw [← walk]; exact lost) nofun (List.pairwise_singleton _ c)
  rwa [State.repairAll, State.afterRepairs_plain _ _ (by simpa using plain)] at repaired

/-- Settles O25: the scrubber reads its cell, repairs it and moves on. -/
theorem scrubberReadsAndRepairsItsCell : Obligations.ScrubberReadsAndRepairsItsCell := by
  intro s live
  refine ⟨execScrubberRead_upset live, execScrubberRead_waits live, fun c e => s.upset_one, fun quiet => ?_⟩
  intro next
  have moved : next = nextCell s.rst.walk := rfl
  rw [moved]
  refine ⟨execScrubberRead_sound live quiet, fun errors => ?_, fun i hi walk lost length => ?_,
    fun i hi walk lost windows captures => ?_, fun k g hk low high walk lost length shape => ?_⟩
  · obtain ⟨t, taken, rst, ixc, btk, wlu, ctm, aar, attentions, links⟩ :=
      execScrubberRead_reads live quiet (State.readCells_corrects errors)
    have sound : ((s.noteCorrected s.rst.walk).rewriteCells [s.rst.walk]).rst.errors = [] :=
      (congrArg (List.filter _) errors).trans (by simp)
    refine ⟨t, taken, ?_, attentions, ixc, btk, wlu, ctm, aar, links.after rfl⟩
    rw [rst, ← sound]; rfl
  · obtain ⟨t, taken, rst, ixc, btk, wlu, ctm, aar, attentions, links⟩ := scrubber_rewrites_table live quiet walk lost (by simp)
    refine ⟨t, taken, by rw [rst, walk]; rfl, fun v x low high hx => ?_, attentions, ixc, btk, wlu, ctm, aar, links.after rfl⟩
    rw [State.routing, rst]
    exact s.mended.routing_repairRouting length ⟨low, high⟩ hx
  · obtain ⟨t, taken, rst, ixc, btk, -, ctm, -, attentions, links⟩ := scrubber_rewrites_table live quiet walk lost (by simp)
    obtain ⟨removed, others, drift⟩ := (s.mended.noteDamaged ⟨.window, i⟩).setWindow_at (windows.symm ▸ hi) (captures.symm ▸ hi) none
    refine ⟨t, taken, ?_, fun j hj => ?_, ?_, by rw [btk]; rfl, by rw [rst]; rfl, attentions, by rw [rst]; rfl, ixc, ctm,
      links.after rfl⟩
    · rw [State.window, rst]; exact removed
    · rw [State.window, rst]; exact others j hj
    · rw [btk]; exact drift
  · obtain ⟨t, taken, rst, ixc, -, -, ctm, -, -, links⟩ := scrubber_rewrites_table live quiet walk lost (by simp)
    let n := s.mended.noteDamaged ⟨.budget, k * 15 + (g - 1)⟩
    have repaired : State.repairCell [⟨.budget, k * 15 + (g - 1)⟩] false s.mended ⟨.budget, k * 15 + (g - 1)⟩ = n.rebudgeted k g 0 :=
      n.repairBudget_eq low high
    rw [repaired] at rst ixc ctm links
    have direct := n.rebudgeted_direct k g 0
    obtain ⟨running, unlimited⟩ := n.rebudgeted_zero hk low high length shape
    have work : t.work k = (n.rebudgeted k g 0).work k := by rw [State.work, ctm]; rfl
    refine ⟨t, taken, ?_, fun named runs => ?_, ?_, ?_, ?_, ixc.trans direct.ixc, links.after direct.links⟩
    · rw [State.budget, rst, direct.rst]
      exact (n.budget_budgeted 0 (by omega) low high length low high).trans (if_pos ⟨rfl, rfl⟩)
    · rw [work]; exact unlimited named runs
    · rw [work]; exact running
    · rw [rst, direct.rst]; rfl
    · rw [rst, direct.rst]; rfl

end Sys2Proof.Machine
end

section
/-! SUPPORT. The scrubber on lost cells of a pallet slot (O26). -/

namespace Sys2Proof.Machine

/-! ### What follows from a grant's repairs taken together (R161, R164) -/

theorem State.repairQueue_still (s : State) (r : Rst) {bad : List Cell} (places : ∀ i, (⟨.returnQueue, i⟩ : Cell) ∉ bad)
    (slots : ∀ i, slotLost bad i = false) : s.repairQueue r bad = s := by
  have freed : ∀ n, r.freed bad n = false := fun n => List.any_eq_false.mpr fun i _ => by simp [slots i]
  have kept := dropPlaces_none s.rst.returnQueue (fun i n => bad.contains ⟨.returnQueue, i⟩ || r.freed bad n)
    fun i n => by simp [freed, places]
  rw [State.repairQueue, State.onRst, kept]

theorem State.repairSchedule_still (s : State) {bad : List Cell} (entries : ∀ i, (⟨.schedule, i⟩ : Cell) ∉ bad) :
    s.repairSchedule bad = s := by
  have kept := dropPlaces_none s.rst.schedule (fun i _ => bad.contains ⟨.schedule, i⟩) fun i _ => by simp [entries]
  rw [State.repairSchedule, State.onRst, kept, State.noteSchedule, if_neg (by simp)]

/-- Without a lost cell of the direct settings only the two lists may change. -/
theorem State.afterRepairs_lists (s : State) (r : Rst) {bad : List Cell} (settings : (⟨.transfer, 8⟩ : Cell) ∉ bad) :
    s.afterRepairs r bad = (s.repairQueue r bad).repairSchedule bad := if_neg (by simp [settings])

/-- A list that loses its places by what they hold. -/
theorem dropPlaces_filter {α : Type} (xs : List α) (gone : Nat → α → Bool) (f : α → Bool) (h : ∀ i x, gone i x = !f x) :
    dropPlaces xs gone = xs.filter f := by
  have same := (List.filter_map (f := Prod.fst) (p := f) (l := xs.zipIdx)).symm
  rw [List.zipIdx_map_fst] at same
  simpa [dropPlaces, h, Function.comp_def] using same

/-! ### The cells of a slot (R158) -/

/-- Cells of slot `i`, by their place in it. -/
def slotPart (i : Nat) (js : List Nat) : List Cell := js.map fun j => ⟨.palletSlot, 17 * i + j⟩

section slotPart
variable {i : Nat} {js : List Nat} (small : ∀ j ∈ js, j < 17)

theorem mem_slotPart_region {c : Cell} (h : c ∈ slotPart i js) : c.region = .palletSlot := by
  obtain ⟨j, -, rfl⟩ := List.mem_map.mp h
  rfl

include small in
theorem mem_slotPart {x n : Nat} (hn : n < 17) : (⟨.palletSlot, 17 * x + n⟩ : Cell) ∈ slotPart i js ↔ x = i ∧ n ∈ js := by
  constructor
  · intro h
    obtain ⟨j, hj, e⟩ := List.mem_map.mp h
    have := small j hj
    have same : 17 * i + j = 17 * x + n := congrArg Cell.index e
    obtain ⟨rfl, rfl⟩ : x = i ∧ n = j := by omega
    exact ⟨rfl, hj⟩
  · rintro ⟨rfl, hj⟩
    exact List.mem_map.mpr ⟨n, hj, rfl⟩

include small in
theorem contains_slotPart {n : Nat} (hn : n < 17) : (slotPart i js).contains ⟨.palletSlot, 17 * i + n⟩ = decide (n ∈ js) := by
  rw [Bool.eq_iff_iff]
  simp [mem_slotPart small hn]

include small in
/-- A slot has lost its number exactly where its three number-holding cells are lost (R161). -/
theorem slotLost_slotPart (x : Nat) : slotLost (slotPart i js) x = true ↔ x = i ∧ 0 ∈ js ∧ 1 ∈ js ∧ 2 ∈ js := by
  simp only [slotLost, List.all_eq_true, List.mem_range, List.contains_eq_mem, decide_eq_true_eq]
  refine ⟨fun h => ?_, fun ⟨e, zero, one, two⟩ n hn => (mem_slotPart small (by omega)).mpr ⟨e, ?_⟩⟩
  · have at_n := fun n (hn : n < 3) => (mem_slotPart small (by omega)).mp (h n hn)
    exact ⟨(at_n 0 (by omega)).1, (at_n 0 (by omega)).2, (at_n 1 (by omega)).2, (at_n 2 (by omega)).2⟩
  · interval_cases n <;> assumption

end slotPart

theorem State.repairCell_slot (s : State) (bad : List Cell) (i : Nat) {j : Nat} (hj : j < 17) :
    State.repairCell bad false s ⟨.palletSlot, 17 * i + j⟩ = (s.noteDamaged ⟨.palletSlot, 17 * i + j⟩).repairSlot bad i j := by
  have slot : (17 * i + j) / 17 = i := by omega
  have part : (17 * i + j) % 17 = j := by omega
  rw [State.repairCell]
  dsimp only
  rw [slot, part]

/-- The repair of a cell of a slot reads the three number-holding cells (R161). -/
theorem State.needs_holder (s : State) (i : Nat) {j n : Nat} (hj : j < 17) (hn : n < 3) :
    (⟨.palletSlot, 17 * i + n⟩ : Cell) ∈ s.needs ⟨.palletSlot, 17 * i + j⟩ := by
  have base : (17 * i + j) / 17 * 17 = 17 * i := by omega
  refine List.mem_append_left _ (List.mem_append_left _ ?_)
  dsimp only
  rw [base]
  interval_cases n <;> simp

section repairSlot
variable (s : State) {bad : List Cell} {i : Nat}

theorem State.repairSlot_frees (workpiece : bad.contains ⟨.palletSlot, 17 * i + 1⟩ = true)
    (serial : bad.contains ⟨.palletSlot, 17 * i + 2⟩ = true) : s.repairSlot bad i 0 = s.freeSlot i :=
  if_pos (Bool.and_eq_true_iff.mpr ⟨workpiece, serial⟩)

theorem State.repairSlot_header (workpiece : bad.contains ⟨.palletSlot, 17 * i + 1⟩ = false) :
    s.repairSlot bad i 0 = s.onSlot i fun p => p.safeHeader s.rst.geometry :=
  if_neg fun both => Bool.eq_false_iff.mp workpiece (Bool.and_eq_true_iff.mp both).1

theorem State.repairSlot_assumes (serial : bad.contains ⟨.palletSlot, 17 * i + 2⟩ = true) :
    s.repairSlot bad i 1 = s.onSlot i fun p => { p with workpiece := some p.assumed } := if_pos serial

theorem State.repairSlot_workpiece (serial : bad.contains ⟨.palletSlot, 17 * i + 2⟩ = false) : s.repairSlot bad i 1 =
    s.onSlot i fun p => { p with workpiece := p.workpiece.map fun w => { w with disposition := .reject, serial := .lost } } :=
  if_neg (Bool.eq_false_iff.mp serial)

theorem State.repairSlot_stands (workpiece : bad.contains ⟨.palletSlot, 17 * i + 1⟩ = true) : s.repairSlot bad i 2 = s := if_pos workpiece

theorem State.repairSlot_serial (workpiece : bad.contains ⟨.palletSlot, 17 * i + 1⟩ = false) : s.repairSlot bad i 2 =
    s.onSlot i fun p => { p with workpiece := p.workpiece.map fun w => { w.raiseTo .suspect with serial := .lost } } :=
  if_neg (Bool.eq_false_iff.mp workpiece)

theorem State.repairSlot_history (n : Nat) : s.repairSlot bad i (3 + n) = s.onSlot i fun p =>
    { p with workpiece := p.workpiece.map fun w => { w.raiseTo .suspect with history := loseEntries w.history n } } := by
  rw [Nat.add_comm]; rfl

end repairSlot

/-! ### A slot whose record is kept (R25, R161) -/

theorem modify_slot {slots : List (Option Pallet)} {i : Nat} {p : Pallet} (held : slots[i]? = some (some p)) (f : Pallet → Pallet) :
    slots.modify i (fun o => o.map f) = slots.set i (some (f p)) := by
  rw [List.modify_eq_set_getElem?, held]
  rfl

/-- The store with the record `o` in slot `i`. -/
def Rst.inSlot (r : Rst) (i : Nat) (o : Option Pallet) : Rst := { r with slots := r.slots.set i o }

/-- One cell is counted, and its slot rewritten. -/
theorem State.onSlot_rewrites {s : State} {i : Nat} {p : Pallet} (held : s.rst.slots[i]? = some (some p)) (c : Cell) (f : Pallet → Pallet) :
    s.Rewrites ((s.mended.noteDamaged c).onSlot i f) (s.rst.inSlot i (some (f p))) :=
  ⟨_, _, _, by rw [Rst.inSlot, ← modify_slot held f]; rfl⟩

section slot
variable {s : State} {i : Nat}

/-- The scrubber at lost cells of one slot. -/
theorem scrubber_repairs_slot (live : s.Live) (quiet : s.Quiet) {j : Nat} {js : List Nat} (small : j < 17)
    (holders : ∀ n ∈ js, n < 3) (sorted : (j :: js).Pairwise (· ≤ ·)) (walk : s.rst.walk = ⟨.palletSlot, 17 * i + j⟩)
    (lost : s.Lost (slotPart i (j :: js))) :
    ∃ t, exec (.scrubberRead []) s = .next t ∧ (s.mended.repairAll (slotPart i (j :: js)) false).Scrubs t (nextCell ⟨.palletSlot, 17 * i + j⟩) := by
  refine scrubber_repairs live quiet walk lost (fun d hd => ?_) ?_
  · obtain ⟨n, hn, rfl⟩ := List.mem_map.mp hd
    exact s.needs_holder i small (holders n hn)
  · have ranked : ∀ {a b : Nat}, a ≤ b → cellRank ⟨.palletSlot, 17 * i + a⟩ ≤ cellRank ⟨.palletSlot, 17 * i + b⟩ :=
      fun h => Nat.add_le_add_left (Nat.add_le_add_left h (17 * i)) _
    exact (List.pairwise_map (R := fun a b => cellRank a ≤ cellRank b)).mpr (sorted.imp ranked)

theorem not_mem_slotPart {x : Region} (n : Nat) (other : x ≠ .palletSlot) (js : List Nat) : (⟨x, n⟩ : Cell) ∉ slotPart i js :=
  fun h => other (mem_slotPart_region h)

/-- Cells of a slot are no schedule entries and no settings. -/
theorem State.afterRepairs_slot (s : State) (r : Rst) (js : List Nat) :
    s.afterRepairs r (slotPart i js) = s.repairQueue r (slotPart i js) := by
  rw [s.afterRepairs_lists r (not_mem_slotPart 8 (by decide) js), State.repairSchedule_still _ fun n => not_mem_slotPart n (by decide) js]

/-- Cells of a slot that keeps its number close up no list. -/
theorem State.repairAll_slot (s : State) {js : List Nat} (small : ∀ n ∈ js, n < 17) (numbered : ¬(0 ∈ js ∧ 1 ∈ js ∧ 2 ∈ js)) :
    s.repairAll (slotPart i js) false = (slotPart i js).foldl (State.repairCell (slotPart i js) false) s := by
  have keeps : ∀ x, slotLost (slotPart i js) x = false := fun x =>
    Bool.eq_false_iff.mpr fun h => numbered ((slotLost_slotPart small x).mp h).2
  rw [State.repairAll, State.afterRepairs_slot, State.repairQueue_still _ _ (fun n => not_mem_slotPart n (by decide) js) keeps]

/-- The scrubber at one lost cell of a slot, whose repair rewrites the record. -/
theorem scrubber_rewrites_slot (live : s.Live) (quiet : s.Quiet) {j : Nat} (small : j < 17)
    (walk : s.rst.walk = ⟨.palletSlot, 17 * i + j⟩) (lost : s.Lost (slotPart i [j])) {p : Pallet}
    (held : s.rst.slots[i]? = some (some p)) {f : Pallet → Pallet}
    (repairs : ∀ u : State, u.rst.geometry = s.rst.geometry → u.repairSlot (slotPart i [j]) i j = u.onSlot i f) :
    ∃ t, exec (.scrubberRead []) s = .next t ∧ s.ScrubbedTo t (s.rst.inSlot i (some (f p))) := by
  obtain ⟨t, next, scrubs⟩ := scrubber_repairs_slot live quiet small (by simp) (List.pairwise_singleton _ j) walk lost
  refine ⟨t, next, scrubs.rewritten ?_⟩
  rw [s.mended.repairAll_slot (by simpa using small) (by simp; omega)]
  change s.Rewrites (State.repairCell (slotPart i [j]) false s.mended ⟨.palletSlot, 17 * i + j⟩) _
  rw [State.repairCell_slot _ _ _ small, repairs (s.mended.noteDamaged ⟨.palletSlot, 17 * i + j⟩) rfl]
  exact State.onSlot_rewrites held _ f

/-- The scrubber at lost workpiece and serial cells: a block of pass 2 is taken to be present (R161). -/
theorem scrubber_assumes_workpiece (live : s.Live) (quiet : s.Quiet) (walk : s.rst.walk = ⟨.palletSlot, 17 * i + 1⟩)
    (lost : s.Lost (slotPart i [1, 2])) {p : Pallet} (held : s.rst.slots[i]? = some (some p)) :
    ∃ t, exec (.scrubberRead []) s = .next t ∧ s.ScrubbedTo t (s.rst.inSlot i (some { p with workpiece := some p.assumed })) := by
  obtain ⟨t, next, scrubs⟩ := scrubber_repairs_slot live quiet (by omega) (by simp) (by simp) walk lost
  refine ⟨t, next, scrubs.rewritten ?_⟩
  have small : ∀ n ∈ [1, 2], n < 17 := by simp
  have first := fun u : State => u.repairSlot_assumes (contains_slotPart (i := i) small (n := 2) (by omega))
  have second := fun u : State => u.repairSlot_stands (contains_slotPart (i := i) small (n := 1) (by omega))
  rw [s.mended.repairAll_slot small (by simp)]
  change s.Rewrites (State.repairCell (slotPart i [1, 2]) false (State.repairCell (slotPart i [1, 2]) false s.mended
    ⟨.palletSlot, 17 * i + 1⟩) ⟨.palletSlot, 17 * i + 2⟩) _
  rw [State.repairCell_slot _ _ _ (by omega), State.repairCell_slot _ _ _ (by omega), first, second]
  exact (State.onSlot_rewrites held _ _).noteDamaged _

end slot

/-! ### A slot that is freed (R12, R161) -/

/-- An entry from which pallet `n` is taken. -/
def Position.vacated (n : Nat) (p : Position) : Position :=
  { p with occupant := if p.occupant = .pallet n then .unknown else p.occupant }

/-- The positions with pallet `n` taken from position `k`. -/
def vacate (n : Nat) (ps : List Position) (k : Nat) : List Position :=
  if (ps.getD k Position.reset).occupant == .pallet n then ps.modify k fun p => { p with occupant := .unknown } else ps

theorem length_vacate (n : Nat) (ps : List Position) (k : Nat) : (vacate n ps k).length = ps.length := by
  unfold vacate; split <;> [exact List.length_modify _ _ _; rfl]

theorem vacate_self (n : Nat) {ps : List Position} {k : Nat} (hk : k < ps.length) :
    (vacate n ps k).getD k Position.reset = (ps.getD k Position.reset).vacated n := by
  unfold vacate Position.vacated
  by_cases stands : (ps.getD k Position.reset).occupant = .pallet n
  · rw [if_pos (by simpa using stands), if_pos stands, getD_modify_self _ _ _ _ hk]
  · rw [if_neg (by simpa using stands), if_neg stands]

theorem vacate_other (n : Nat) (ps : List Position) {j k : Nat} (h : j ≠ k) :
    (vacate n ps k).getD j Position.reset = ps.getD j Position.reset := by
  unfold vacate; split <;> [exact getD_modify_ne _ _ _ h; rfl]

/-- A pallet that is taken from every position stands at none. -/
theorem foldl_vacate (n : Nat) {ps : List Position} (length : ps.length = 16) {k : Nat} (hk : k < 16) :
    ((List.range 16).foldl (vacate n) ps).getD k Position.reset = (ps.getD k Position.reset).vacated n := by
  have each := foldl_pointwise (step := vacate n) (·.length = 16) (fun ps k => ps.getD k Position.reset) (fun _ => Position.vacated n)
    (fun u k h => (length_vacate n u k).trans h) (fun u k hk h => vacate_self n (h ▸ hk)) (fun u j k h => vacate_other n u h)
    (List.range 16) List.nodup_range (fun x hx => List.mem_range.mp hx) ps length k
  rwa [if_pos (List.mem_range.mpr hk)] at each

theorem State.setOccupant_vacates (s : State) (n k : Nat) :
    (if (s.pos k).occupant == .pallet n then s.setOccupant k .unknown else s) = s.onRst fun r => { r with positions := vacate n r.positions k } := by
  cases stands : (s.pos k).occupant == .pallet n with
  | true =>
    have vacated : vacate n s.rst.positions k = s.rst.positions.modify k fun p => { p with occupant := .unknown } := if_pos stands
    rw [if_pos rfl, State.onRst, vacated]; rfl
  | false =>
    have kept : vacate n s.rst.positions k = s.rst.positions := if_neg (by rw [← State.pos, stands]; nofun)
    rw [if_neg nofun, State.onRst, kept]

/-- A freed slot holds nothing, and its pallet stands at no position; nothing else changes. -/
theorem State.freeSlot_eq {s : State} {i : Nat} {p : Pallet} (held : s.rst.slots[i]? = some (some p)) (length : s.rst.positions.length = 16) :
    ∃ ps : List Position, (∀ k, k < 16 → ps.getD k Position.reset = (s.pos k).vacated p.number) ∧
      s.freeSlot i = s.onRst fun r => { r with slots := r.slots.set i none, positions := ps } := by
  have occupied : s.rst.slots.getD i none = some p := by rw [List.getD_eq_getElem?_getD, held]; rfl
  have vacates : ∀ (xs : List Nat) (u : State),
      xs.foldl (fun u k => if (u.pos k).occupant == .pallet p.number then u.setOccupant k .unknown else u) u =
        u.onRst fun r => { r with positions := xs.foldl (vacate p.number) r.positions } := by
    intro xs
    induction xs with
    | nil => exact fun _ => rfl
    | cons x xs ih => exact fun u => by rw [List.foldl_cons, ih, u.setOccupant_vacates]; rfl
  refine ⟨_, fun k hk => foldl_vacate p.number length hk, ?_⟩
  rw [State.freeSlot, occupied]
  exact vacates _ _

/-- A slot that holds nothing has no record to rewrite. -/
theorem State.onSlot_free {s : State} {i : Nat} (free : s.rst.slots[i]? = some none) (f : Pallet → Pallet) : s.onSlot i f = s := by
  have same : s.rst.slots.modify i (fun o => o.map f) = s.rst.slots := by
    obtain ⟨bound, here⟩ := List.getElem?_eq_some_iff.mp free
    rw [List.modify_eq_set_getElem?, free]
    exact (congrArg _ here.symm).trans (List.set_getElem_self bound)
  rw [State.onSlot, State.onRst, same]

/-- The pallet of slot `i` leaves the return queue where the slot's number is lost (R161). -/
theorem State.repairQueue_freed (s : State) (r : Rst) {i : Nat} {p : Pallet} (hi : i < 64) (held : r.slots[i]? = some (some p)) :
    s.repairQueue r (slotPart i [0, 1, 2]) = s.onRst fun x => { x with returnQueue := x.returnQueue.filter (· != p.number) } := by
  have small : ∀ n ∈ [0, 1, 2], n < 17 := by simp
  have freed : ∀ n, r.freed (slotPart i [0, 1, 2]) n = (p.number == n) := fun n => by
    rw [Bool.eq_iff_iff, Rst.freed, List.any_eq_true]
    simp only [List.mem_range, Bool.and_eq_true, slotLost_slotPart small]
    constructor
    · rintro ⟨x, -, ⟨rfl, -⟩, named⟩
      simpa [List.getD_eq_getElem?_getD, held] using named
    · exact fun named => ⟨i, hi, by simp, by simpa [List.getD_eq_getElem?_getD, held] using named⟩
  have filtered := dropPlaces_filter s.rst.returnQueue
    (fun x n => (slotPart i [0, 1, 2]).contains ⟨.returnQueue, x⟩ || r.freed (slotPart i [0, 1, 2]) n) (· != p.number)
    fun x n => by simp [not_mem_slotPart, freed, bne, Bool.beq_comm (a := n)]
  rw [State.repairQueue, State.onRst, filtered]
  rfl

/-- What the repairs leave where the number of a slot is lost (R12, R161). -/
theorem State.repairAll_frees {s : State} {i : Nat} {p : Pallet} (hi : i < 64) (held : s.rst.slots[i]? = some (some p))
    (length : s.rst.positions.length = 16) :
    ∃ ps x a, (∀ k, k < 16 → ps.getD k Position.reset = (s.pos k).vacated p.number) ∧
      s.repairAll (slotPart i [0, 1, 2]) false = { s with
        rst := { s.rst with
          slots := s.rst.slots.set i none, positions := ps, returnQueue := s.rst.returnQueue.filter (· != p.number)
          damages := countUp 65535 (countUp 65535 (countUp 65535 s.rst.damages)), lastDamaged := x }
        liu := { s.liu with attentions := a } } := by
  have small : ∀ n ∈ [0, 1, 2], n < 17 := by simp
  have one := contains_slotPart (i := i) small (n := 1) (by omega)
  have two := contains_slotPart (i := i) small (n := 2) (by omega)
  let n := s.noteDamaged ⟨.palletSlot, 17 * i + 0⟩
  obtain ⟨ps, vacated, freed⟩ := State.freeSlot_eq (s := n) held length
  let f := n.onRst fun r => { r with slots := r.slots.set i none, positions := ps }
  let u := f.noteDamaged ⟨.palletSlot, 17 * i + 1⟩
  have free : u.rst.slots[i]? = some none := by
    obtain ⟨bound, -⟩ := List.getElem?_eq_some_iff.mp held
    exact List.getElem?_set_self bound
  have header : State.repairCell (slotPart i [0, 1, 2]) false s ⟨.palletSlot, 17 * i + 0⟩ = f := by
    rw [State.repairCell_slot _ _ _ (by omega), State.repairSlot_frees _ one two, freed]
  have workpiece : State.repairCell (slotPart i [0, 1, 2]) false f ⟨.palletSlot, 17 * i + 1⟩ = u :=
    (f.repairCell_slot _ i (by omega)).trans ((u.repairSlot_assumes two).trans (State.onSlot_free free _))
  have serial : State.repairCell (slotPart i [0, 1, 2]) false u ⟨.palletSlot, 17 * i + 2⟩ = u.noteDamaged ⟨.palletSlot, 17 * i + 2⟩ :=
    (u.repairCell_slot _ i (by omega)).trans (State.repairSlot_stands _ one)
  have repaired : (slotPart i [0, 1, 2]).foldl (State.repairCell (slotPart i [0, 1, 2]) false) s =
      u.noteDamaged ⟨.palletSlot, 17 * i + 2⟩ := by
    rw [← serial, ← workpiece, ← header]; rfl
  rw [State.repairAll, repaired, State.afterRepairs_slot, State.repairQueue_freed _ _ hi held]
  exact ⟨ps, _, _, vacated, rfl⟩

/-- The lowest of the variants 1 to 8 in a mask, or variant 1 where it holds none (R161). -/
theorem lowestVariant_eq {m : Mask} {v : Nat} (h : (1 ≤ v ∧ v ≤ 8 ∧ member m v = true ∧ ∀ x, 1 ≤ x → x < v → member m x = false) ∨
    (v = 1 ∧ ∀ x, 1 ≤ x → x ≤ 8 → member m x = false)) : lowestVariant m = v := by
  unfold lowestVariant
  rcases h with ⟨low, high, held, least⟩ | ⟨rfl, empty⟩
  · have found : (List.range 9).find? (fun x => decide (1 ≤ x) && member m x) = some v := by
      rw [List.find?_range_eq_some]
      refine ⟨by simp [low, held], List.mem_range.mpr (by omega), fun x hx => ?_⟩
      by_cases first : 1 ≤ x
      · simp [least x first hx]
      · simp [first]
    rw [found]; rfl
  · have none_found : (List.range 9).find? (fun x => decide (1 ≤ x) && member m x) = none := by
      rw [List.find?_range_eq_none]
      intro x hx
      by_cases first : 1 ≤ x
      · simp [empty x first (by omega)]
      · simp [first]
    rw [none_found]; rfl

/-- Settles O26: lost cells of a pallet slot are rewritten as doubtful, and a slot that has lost its number is freed. -/
theorem lostPalletCellsAreRewrittenSafely : Obligations.LostPalletCellsAreRewrittenSafely := by
  intro i p s live quiet hi held lost kept becomes doubt
  have lost_of : ∀ {js}, lost js → s.Lost (slotPart i js) := fun {js} h => by
    rw [State.Lost, slotPart, List.map_map]; exact h.2
  have becomes_of : ∀ {q}, (∃ t, exec (.scrubberRead []) s = .next t ∧ s.ScrubbedTo t (s.rst.inSlot i (some q))) → becomes q := fun h => by
    obtain ⟨t, next, ⟨d, x, w, store⟩, ixc, btk, wlu, ctm, aar, links⟩ := h
    refine ⟨t, next, ⟨?_, ixc, btk, wlu, ctm, aar, ?_, ?_, links⟩, ?_, ?_, ?_⟩ <;> rw [store] <;> rfl
  have rewrites : ∀ {j f}, j < 17 → lost [j] → (∀ u : State, u.rst.geometry = s.rst.geometry →
      u.repairSlot (slotPart i [j]) i j = u.onSlot i f) → becomes (f p) :=
    fun small h repairs => becomes_of (scrubber_rewrites_slot live quiet small h.1 (lost_of h) held repairs)
  have alone : ∀ {j n : Nat}, j < 17 → n < 17 → n ≠ j → (slotPart i [j]).contains ⟨.palletSlot, 17 * i + n⟩ = false :=
    fun hj hn other => (contains_slotPart (by simpa using hj) hn).trans (by simpa using other)
  refine ⟨fun h => ?_, fun h => ?_, fun h => ?_, fun n hn h => ?_, fun v h lowest => ?_, fun h shape => ?_⟩
  · refine rewrites (f := fun p => p.safeHeader s.rst.geometry) (by omega) h fun u geometry => ?_
    rw [u.repairSlot_header (alone (by omega) (by omega) (by omega)), geometry]
  · exact rewrites (by omega) h fun u _ => u.repairSlot_workpiece (alone (by omega) (by omega) (by omega))
  · exact rewrites (by omega) h fun u _ => u.repairSlot_serial (alone (by omega) (by omega) (by omega))
  · exact rewrites (by omega) h fun u _ => u.repairSlot_history n
  · rw [← lowestVariant_eq lowest]
    exact becomes_of (scrubber_assumes_workpiece live quiet h.1 (lost_of h) held)
  · obtain ⟨t, next, scrubs⟩ := scrubber_repairs_slot live quiet (j := 0) (js := [1, 2]) (by omega) (by simp) (by simp) h.1 (lost_of h)
    obtain ⟨ps, x, a, vacated, freed⟩ := State.repairAll_frees (s := s.mended) hi held shape.1
    rw [freed] at scrubs
    obtain ⟨rst, ixc, btk, wlu, ctm, aar, -, links⟩ := scrubs
    refine ⟨t, next, ⟨by rw [rst]; rfl, ixc, btk, wlu, ctm, aar, by rw [rst]; rfl, by rw [rst]; rfl, links.after rfl⟩, by rw [rst]; rfl,
      by rw [rst]; rfl, by rw [rst]; rfl, fun k hk => ?_⟩
    rw [State.pos, rst]
    exact vacated k hk

end Sys2Proof.Machine
end

section
/-! SUPPORT. The scrubber on lost cells of the return queue, the load schedule and the completion log (O29). -/

namespace Sys2Proof.Machine

/-! ### A lost place of the return queue or of the schedule (R98, R164) -/

/-- A list that loses one place. -/
theorem dropPlaces_eraseIdx {α : Type} (xs : List α) (gone : Nat → α → Bool) {i : Nat} (h : ∀ j x, gone j x = decide (j = i)) :
    dropPlaces xs gone = xs.eraseIdx i := by
  have shifted : ∀ n i, ((xs.zipIdx n).filter fun x => !decide (x.2 = n + i)).map (·.1) = xs.eraseIdx i := by
    induction xs with
    | nil => exact fun _ _ => rfl
    | cons x xs ih =>
      intro n i
      rw [List.zipIdx_cons]
      cases i with
      | zero =>
        have behind : (xs.zipIdx (n + 1)).filter (fun y => !decide (y.2 = n + 0)) = xs.zipIdx (n + 1) :=
          List.filter_eq_self.mpr fun y hy => by
            have := List.le_snd_of_mem_zipIdx hy
            simp; omega
        rw [List.filter_cons_of_neg (by simp), behind, List.zipIdx_map_fst]; rfl
      | succ i =>
        rw [List.filter_cons_of_pos (by simp), List.map_cons, List.eraseIdx_cons_succ, ← ih (n + 1) i, show n + 1 + i = n + (i + 1) by omega]
  simpa [dropPlaces, h] using shifted 0 i

/-- The scrubber at a lost place of the return queue. -/
theorem scrubber_drops_queue_place {s : State} (live : s.Live) (quiet : s.Quiet) {i : Nat} (walk : s.rst.walk = ⟨.returnQueue, i⟩)
    (lost : s.Lost [⟨.returnQueue, i⟩]) : ∃ t, exec (.scrubberRead []) s = .next t ∧
      s.ScrubbedTo t { s.rst with returnQueue := s.rst.returnQueue.eraseIdx i } := by
  obtain ⟨t, next, scrubs⟩ := scrubber_repairs live quiet walk lost nofun (List.pairwise_singleton _ _)
  refine ⟨t, next, scrubs.rewritten ?_⟩
  let n := s.mended.noteDamaged ⟨.returnQueue, i⟩
  have slots : ∀ x, slotLost [⟨.returnQueue, i⟩] x = false := fun x => by simp [slotLost, List.range_succ]
  have dropped := dropPlaces_eraseIdx n.rst.returnQueue
    (fun x m => [(⟨.returnQueue, i⟩ : Cell)].contains ⟨.returnQueue, x⟩ || s.mended.rst.freed [⟨.returnQueue, i⟩] m) (i := i)
    fun x m => by simp [Rst.freed, slots]
  have repaired : s.mended.repairAll [⟨.returnQueue, i⟩] false = n.onRst fun r => { r with returnQueue := r.returnQueue.eraseIdx i } := by
    rw [State.repairAll, State.afterRepairs_lists _ _ (by simp), State.repairSchedule_still _ (by simp), State.repairQueue, State.onRst]
    exact congrArg (fun q => n.onRst fun r => { r with returnQueue := q }) dropped
  rw [repaired]
  exact ⟨_, _, _, rfl⟩

/-- The scrubber at a lost entry of the load schedule, which may leave the schedule empty (R98). -/
theorem scrubber_drops_schedule_entry {s : State} (live : s.Live) (quiet : s.Quiet) {i : Nat} (walk : s.rst.walk = ⟨.schedule, i⟩)
    (lost : s.Lost [⟨.schedule, i⟩]) : ∃ t, exec (.scrubberRead []) s = .next t ∧
      s.ScrubbedTo t { s.rst with schedule := s.rst.schedule.eraseIdx i } ∧ t.liu.attentions.scheduleEmpty =
        (s.liu.attentions.scheduleEmpty || ((s.rst.schedule.eraseIdx i).isEmpty && !s.rst.schedule.isEmpty)) := by
  obtain ⟨t, next, scrubs⟩ := scrubber_repairs live quiet walk lost nofun (List.pairwise_singleton _ _)
  let n := s.mended.noteDamaged ⟨.schedule, i⟩
  have slots : ∀ x, slotLost [⟨.schedule, i⟩] x = false := fun x => by simp [slotLost, List.range_succ]
  have dropped := dropPlaces_eraseIdx n.rst.schedule (fun x _ => [(⟨.schedule, i⟩ : Cell)].contains ⟨.schedule, x⟩) (i := i) fun x m => by simp
  have repaired : s.mended.repairAll [⟨.schedule, i⟩] false =
      State.noteSchedule n (n.onRst fun r => { r with schedule := r.schedule.eraseIdx i }) := by
    rw [State.repairAll, State.afterRepairs_lists _ _ (by simp), State.repairQueue_still _ _ (by simp) slots, State.repairSchedule]
    exact congrArg (fun q => State.noteSchedule n (n.onRst fun r => { r with schedule := q })) dropped
  rw [repaired, State.noteSchedule_eq] at scrubs
  exact ⟨t, next, scrubs.rewritten ⟨_, _, _, rfl⟩, congrArg Attentions.scheduleEmpty scrubs.attentions⟩

/-! ### The cells of a log place (R158) -/

/-- Cells of log place `p`, by their place in it. -/
def logPart (p : Nat) (js : List Nat) : List Cell := js.map fun j => ⟨.log, 1 + 17 * p + j⟩

theorem mem_logPart {p x n : Nat} {js : List Nat} (small : ∀ j ∈ js, j < 17) (hn : n < 17) :
    (⟨.log, 1 + 17 * x + n⟩ : Cell) ∈ logPart p js ↔ x = p ∧ n ∈ js := by
  constructor
  · intro h
    obtain ⟨j, hj, e⟩ := List.mem_map.mp h
    have := small j hj
    have same : 1 + 17 * p + j = 1 + 17 * x + n := congrArg Cell.index e
    obtain ⟨rfl, rfl⟩ : x = p ∧ n = j := by omega
    exact ⟨rfl, hj⟩
  · rintro ⟨rfl, hj⟩
    exact List.mem_map.mpr ⟨n, hj, rfl⟩

/-- A place has lost its header exactly where both its header cells are lost (R164). -/
theorem bothHeaders_logPart {p : Nat} {js : List Nat} (small : ∀ j ∈ js, j < 17) (x : Nat) :
    bothHeaders (logPart p js) x = decide (x = p ∧ 0 ∈ js ∧ 1 ∈ js) := by
  have header : (⟨.log, 1 + 17 * x⟩ : Cell) ∈ logPart p js ↔ x = p ∧ 0 ∈ js := mem_logPart (n := 0) small (by omega)
  have copy : (⟨.log, 2 + 17 * x⟩ : Cell) ∈ logPart p js ↔ x = p ∧ 1 ∈ js := by
    rw [show 2 + 17 * x = 1 + 17 * x + 1 by omega]; exact mem_logPart small (by omega)
  rw [Bool.eq_iff_iff]
  simp [bothHeaders, headerPair, header, copy]
  tauto

theorem control_not_mem_logPart (p : Nat) (js : List Nat) : (⟨.log, 0⟩ : Cell) ∉ logPart p js := fun h => by
  obtain ⟨j, -, e⟩ := List.mem_map.mp h
  have : 1 + 17 * p + j = 0 := congrArg Cell.index e
  omega

/-! ### The repair of a log place (R160, R164) -/

/-- The store with cell `j` of log place `p` repaired, place 32 being the last-fetched copy. -/
def Rst.repairedPlace (r : Rst) (bad : List Cell) (p j : Nat) : Rst :=
  if p = 32 then { r with lastFetched := r.repairFetched bad j }
  else
    let i := r.recordAt p
    { r with log := r.log.modify i fun c => c.repair (bothHeaders bad p) (r.rebuiltNumber (r.recordLost bad) i) j }

theorem Rst.repairedPlace_fetched (r : Rst) (bad : List Cell) (j : Nat) :
    r.repairedPlace bad 32 j = { r with lastFetched := r.repairFetched bad j } := if_pos rfl

theorem Rst.repairedPlace_record (r : Rst) (bad : List Cell) {p : Nat} (record : p ≠ 32) (j : Nat) :
    r.repairedPlace bad p j =
      { r with
        log := r.log.modify (r.recordAt p) fun c =>
          c.repair (bothHeaders bad p) (r.rebuiltNumber (r.recordLost bad) (r.recordAt p)) j } := if_neg record

/-- The number given to a record again rests on the log and the record counter alone. -/
theorem Rst.rebuiltNumber_congr {r u : Rst} (log : u.log = r.log) (counter : u.recordCounter = r.recordCounter) (lost : Nat → Bool) :
    ∀ i, u.rebuiltNumber lost i = r.rebuiltNumber lost i
  | 0 => by rw [Rst.rebuiltNumber, Rst.rebuiltNumber, Rst.rebuiltHead, Rst.rebuiltHead, log, counter]
  | i + 1 => by rw [Rst.rebuiltNumber, Rst.rebuiltNumber, log, Rst.rebuiltNumber_congr log counter lost i]

/-- In a sound store whose control cell is not lost the repair of a log cell writes its place alone. -/
theorem State.repairLogPlace_eq {s : State} (sound : s.rst.errors = []) {bad : List Cell} (control : (⟨.log, 0⟩ : Cell) ∉ bad) (p j : Nat) :
    s.repairLogPlace bad p j = s.onRst fun r => r.repairedPlace bad p j := by
  have stays : ¬(bothHeaders bad p && bad.contains ⟨.log, 0⟩) = true := by simp [control]
  have unsound : (s.rst.repairedPlace bad p j).errors = [] := by
    unfold Rst.repairedPlace; split <;> exact sound
  rw [State.repairLogPlace, if_neg stays]
  exact State.rewriteCells_sound (s := s.onRst fun r => r.repairedPlace bad p j) unsound _

theorem State.repairCell_log (s : State) (bad : List Cell) (p : Nat) {j : Nat} (hj : j < 17) :
    State.repairCell bad false s ⟨.log, 1 + 17 * p + j⟩ = (s.noteDamaged ⟨.log, 1 + 17 * p + j⟩).repairLogPlace bad p j := by
  have place : (1 + 17 * p + j - 1) / 17 = p := by omega
  have part : (1 + 17 * p + j - 1) % 17 = j := by omega
  rw [State.repairCell]
  dsimp only
  rw [if_neg (by omega), place, part]

/-- A log cell is repaired after other repairs. -/
theorem State.Rewrites.repairsPlace {s u : State} {r : Rst} (h : s.Rewrites u r) {bad : List Cell} (control : (⟨.log, 0⟩ : Cell) ∉ bad)
    (p : Nat) {j : Nat} (hj : j < 17) :
    s.Rewrites (State.repairCell bad false u ⟨.log, 1 + 17 * p + j⟩) (r.repairedPlace bad p j) := by
  obtain ⟨d, x, a, rfl⟩ := h
  rw [State.repairCell_log _ _ _ hj, State.repairLogPlace_eq rfl control]
  by_cases copy : p = 32
  · subst copy
    rw [State.onRst, Rst.repairedPlace_fetched, Rst.repairedPlace_fetched]
    exact ⟨_, _, _, rfl⟩
  · rw [State.onRst, Rst.repairedPlace_record _ _ copy, Rst.repairedPlace_record _ _ copy,
      Rst.rebuiltNumber_congr (show (State.noteDamaged _ _).rst.log = r.log from rfl) rfl]
    exact ⟨_, _, _, rfl⟩

/-- The scrubber at lost cells of one log place. -/
theorem scrubber_repairs_log {s : State} (live : s.Live) (quiet : s.Quiet) {p j : Nat} {js : List Nat} (small : ∀ n ∈ j :: js, n < 17)
    (walk : s.rst.walk = ⟨.log, 1 + 17 * p + j⟩) (lost : s.Lost (logPart p (j :: js))) (headers : js = [] ∨ j = 0 ∧ js = [1]) :
    ∃ t, exec (.scrubberRead []) s = .next t ∧
      s.ScrubbedTo t ((j :: js).foldl (fun r n => r.repairedPlace (logPart p (j :: js)) p n) s.rst) := by
  have control := control_not_mem_logPart p (j :: js)
  have needed : ∀ d ∈ logPart p js, d ∈ s.needs ⟨.log, 1 + 17 * p + j⟩ := fun d hd => by
    rcases headers with rfl | ⟨rfl, rfl⟩
    · cases hd
    · obtain rfl : d = ⟨.log, 1 + 17 * p + 1⟩ := List.mem_singleton.mp hd
      have place : (1 + 17 * p + 0 - 1) / 17 = p := by omega
      have copy : 1 + 17 * p + 1 = 2 + 17 * p := by omega
      have needs : s.needs ⟨.log, 1 + 17 * p + 0⟩ = s.logPlaceNeeds p := (if_neg (by dsimp only; omega)).trans (by dsimp only; rw [place])
      rw [needs, copy]
      exact List.mem_append_left _ (by simp [headerPair])
  have sorted : (logPart p (j :: js)).Pairwise (cellRank · ≤ cellRank ·) := by
    rcases headers with rfl | ⟨rfl, rfl⟩
    · exact List.pairwise_singleton _ _
    · simp [logPart, cellRank]
  obtain ⟨t, next, scrubs⟩ := scrubber_repairs live quiet walk lost needed sorted
  refine ⟨t, next, scrubs.rewritten ?_⟩
  have repairs : ∀ (xs : List Nat) (u : State) (r : Rst), (∀ n ∈ xs, n < 17) → s.Rewrites u r →
      s.Rewrites ((logPart p xs).foldl (State.repairCell (logPart p (j :: js)) false) u)
        (xs.foldl (fun r n => r.repairedPlace (logPart p (j :: js)) p n) r) := by
    intro xs
    induction xs with
    | nil => exact fun _ _ _ h => h
    | cons x xs ih => exact fun u r hx h => ih _ _ (fun n hn => hx n (.tail x hn)) (h.repairsPlace control p (hx x (.head xs)))
  have plain : ∀ c ∈ logPart p (j :: js), c.region ∉ [Region.palletSlot, .returnQueue, .schedule, .transfer] := fun c hc => by
    obtain ⟨n, -, rfl⟩ := List.mem_map.mp hc
    simp
  change s.Rewrites (s.mended.repairAll (logPart p (j :: js)) false) _
  rw [State.repairAll, State.afterRepairs_plain _ _ plain]
  exact repairs (j :: js) _ _ small ⟨_, _, _, rfl⟩

/-! ### Lost cells of a record of the log (R164) -/

theorem modify_eq_set {α : Type} {xs : List α} {i : Nat} {x : α} (h : xs[i]? = some x) (f : α → α) : xs.modify i f = xs.set i (f x) := by
  rw [List.modify_eq_set_getElem?, h]; rfl

/-- Two records of the log stand at two places. -/
theorem Rst.logPlace_inj {r : Rst} {i k : Nat} (hi : i < 32) (hk : k < 32) : r.logPlace k = r.logPlace i ↔ k = i := by
  unfold Rst.logPlace; omega

theorem Rst.logPlace_lt (r : Rst) (i : Nat) : r.logPlace i < 32 := Nat.mod_lt _ (by decide)

theorem Rst.recordAt_logPlace {r : Rst} (head : r.logHead < 32) {i : Nat} (hi : i < 32) : r.recordAt (r.logPlace i) = i := by
  unfold Rst.recordAt Rst.logPlace; omega

/-- The repair of a cell of the place of record `i` writes record `i`. -/
theorem Rst.repairedPlace_at {r : Rst} (head : r.logHead < 32) {i : Nat} (hi : i < 32) {c : CompletionRecord} (record : r.log[i]? = some c)
    (bad : List Cell) (j : Nat) : r.repairedPlace bad (r.logPlace i) j =
      { r with log := r.log.set i (c.repair (bothHeaders bad (r.logPlace i)) (r.rebuiltNumber (r.recordLost bad) i) j) } := by
  rw [Rst.repairedPlace_record _ _ (Nat.ne_of_lt (r.logPlace_lt i)), Rst.recordAt_logPlace head hi, modify_eq_set record]

/-- The number of the one record whose header is lost, from its neighbour or the record counter (R164). -/
theorem Rst.rebuiltNumber_alone {r : Rst} {lost : Nat → Bool} {i n : Nat} (length : r.log.length ≤ 32) (hi : i < r.log.length)
    (alone : ∀ k, k < 32 → lost k = decide (k = i))
    (number : (∃ j a, i = j + 1 ∧ r.log[j]? = some a ∧ n = countUp 4294967295 a.number) ∨
      (∃ b, i = 0 ∧ r.log[1]? = some b ∧ n = b.number - 1) ∨ (r.log.length = 1 ∧ n = r.recordCounter)) :
    r.rebuiltNumber lost i = n := by
  rcases number with ⟨j, a, rfl, ahead, rfl⟩ | ⟨b, rfl, behind, rfl⟩ | ⟨single, rfl⟩
  · have kept : lost j = false := by rw [alone j (by omega)]; simp
    rw [Rst.rebuiltNumber, kept, ahead]; rfl
  · have first : (List.range r.log.length).find? (fun j => !lost j) = some 1 := List.find?_range_eq_some.mpr
      ⟨by simp [alone], List.mem_range.mpr (List.getElem?_eq_some_iff.mp behind).1, fun j hj => by
        obtain rfl : j = 0 := by omega
        simp [alone]⟩
    rw [Rst.rebuiltNumber, Rst.rebuiltHead, first]
    dsimp only
    rw [behind]; rfl
  · obtain rfl : i = 0 := by omega
    have none : (List.range r.log.length).find? (fun j => !lost j) = none := by
      rw [single]; simp [alone]
    rw [Rst.rebuiltNumber, Rst.rebuiltHead, none, single]; rfl

/-- The repair of one cell of a record: its serial goes LOST with a header or serial cell, two of its entries with a history cell. -/
theorem CompletionRecord.repair_serial (c : CompletionRecord) (number : Nat) {j : Nat} (hj : j < 3) :
    c.repair false number j = { c with serial := .lost } := by
  match j, hj with
  | 0, _ | 1, _ | 2, _ => rfl

theorem CompletionRecord.repair_history (c : CompletionRecord) (number h : Nat) :
    c.repair false number (3 + h) = { c with history := loseEntries c.history h } := by
  rw [Nat.add_comm]; rfl

/-- A scrubber grant after which the log is `log` and the last-fetched copy `fetched`, all else kept. -/
def State.RecordsBecome (s : State) (log : List CompletionRecord) (fetched : Option CompletionRecord) : Prop :=
  ∃ t, exec (.scrubberRead []) s = .next t ∧ s.ScrubbedTo t { s.rst with log := log, lastFetched := fetched }

/-- The scrubber at one lost cell of the place of a record. -/
theorem scrubber_repairs_record {s : State} (live : s.Live) (quiet : s.Quiet) (head : s.rst.logHead < 32) {i j : Nat} (hi : i < 32)
    (hj : j < 17) {c : CompletionRecord} (record : s.rst.log[i]? = some c)
    (walk : s.rst.walk = ⟨.log, 1 + 17 * s.rst.logPlace i + j⟩) (lost : s.Lost (logPart (s.rst.logPlace i) [j])) :
    ∃ n, s.RecordsBecome (s.rst.log.set i (c.repair false n j)) s.rst.lastFetched := by
  have small : ∀ n ∈ [j], n < 17 := by simpa using hj
  obtain ⟨t, next, ends⟩ := scrubber_repairs_log live quiet small walk lost (.inl rfl)
  have sound : bothHeaders (logPart (s.rst.logPlace i) [j]) (s.rst.logPlace i) = false := by
    rw [bothHeaders_logPart small]; simp; omega
  rw [List.foldl_cons, List.foldl_nil, Rst.repairedPlace_at head hi record, sound] at ends
  exact ⟨_, t, next, ends⟩

/-- The scrubber at a record both of whose header cells are lost: numbered again, with a LOST serial (R164). -/
theorem scrubber_numbers_record {s : State} (live : s.Live) (quiet : s.Quiet) (head : s.rst.logHead < 32) (length : s.rst.log.length ≤ 32)
    {i n : Nat} {c : CompletionRecord} (record : s.rst.log[i]? = some c)
    (walk : s.rst.walk = ⟨.log, 1 + 17 * s.rst.logPlace i + 0⟩) (lost : s.Lost (logPart (s.rst.logPlace i) [0, 1]))
    (number : ∀ missing : Nat → Bool, (∀ k, k < 32 → missing k = decide (k = i)) → s.rst.rebuiltNumber missing i = n) :
    s.RecordsBecome (s.rst.log.set i (c.unread n)) s.rst.lastFetched := by
  obtain ⟨inside, -⟩ := List.getElem?_eq_some_iff.mp record
  have hi : i < 32 := by omega
  have small : ∀ n ∈ [0, 1], n < 17 := by decide
  obtain ⟨t, next, ends⟩ := scrubber_repairs_log live quiet small walk lost (.inr ⟨rfl, rfl⟩)
  have both : bothHeaders (logPart (s.rst.logPlace i) [0, 1]) (s.rst.logPlace i) = true := by
    rw [bothHeaders_logPart small]; simp
  have alone : ∀ k, k < 32 → s.rst.recordLost (logPart (s.rst.logPlace i) [0, 1]) k = decide (k = i) := fun k hk => by
    rw [Rst.recordLost, bothHeaders_logPart small]; simp [Rst.logPlace_inj hi hk]
  let r := { s.rst with log := s.rst.log.set i (c.unread n) }
  have header : s.rst.repairedPlace (logPart (s.rst.logPlace i) [0, 1]) (s.rst.logPlace i) 0 = r := by
    rw [Rst.repairedPlace_at head hi record, both, number _ alone]; rfl
  have copy : r.repairedPlace (logPart (s.rst.logPlace i) [0, 1]) (s.rst.logPlace i) 1 = r := by
    have numbered : r.log[i]? = some (c.unread n) := List.getElem?_set_self inside
    refine (Rst.repairedPlace_at (r := r) head hi numbered _ 1).trans ?_
    rw [show bothHeaders _ (r.logPlace i) = true from both]
    exact congrArg (fun log => { r with log := log }) (List.set_set _)
  rw [List.foldl_cons, List.foldl_cons, List.foldl_nil, header, copy] at ends
  exact ⟨t, next, ends⟩

/-! ### Lost cells of the last-fetched copy (R160, R164) -/

/-- The scrubber at one lost cell of the last-fetched copy. -/
theorem scrubber_repairs_fetched {s : State} (live : s.Live) (quiet : s.Quiet) {j : Nat} (hj : j < 17) {c : CompletionRecord}
    (fetched : s.rst.lastFetched = some c) (walk : s.rst.walk = ⟨.log, 1 + 17 * 32 + j⟩) (lost : s.Lost (logPart 32 [j])) :
    ∃ n, s.RecordsBecome s.rst.log (some (c.repair false n j)) := by
  have small : ∀ n ∈ [j], n < 17 := by simpa using hj
  obtain ⟨t, next, ends⟩ := scrubber_repairs_log live quiet small walk lost (.inl rfl)
  have sound : bothHeaders (logPart 32 [j]) 32 = false := by rw [bothHeaders_logPart small]; simp; omega
  have repaired : s.rst.repairFetched (logPart 32 [j]) j = some (c.repair false c.number j) := by
    rw [Rst.repairFetched, sound, fetched]; rfl
  rw [List.foldl_cons, List.foldl_nil, Rst.repairedPlace_fetched, repaired] at ends
  exact ⟨_, t, next, ends⟩

/-- The scrubber at a last-fetched copy both of whose header cells are lost: it stays when the record counter says that it is in use. -/
theorem scrubber_numbers_fetched {s : State} (live : s.Live) (quiet : s.Quiet) {c : CompletionRecord} (fetched : s.rst.lastFetched = some c)
    (walk : s.rst.walk = ⟨.log, 1 + 17 * 32 + 0⟩) (lost : s.Lost (logPart 32 [0, 1])) :
    s.RecordsBecome s.rst.log (if s.rst.recordCounter ≤ s.rst.log.length then none
      else some (c.unread (match s.rst.log with | [] => s.rst.recordCounter | b :: _ => b.number - 1))) := by
  have small : ∀ n ∈ [0, 1], n < 17 := by decide
  obtain ⟨t, next, ends⟩ := scrubber_repairs_log live quiet small walk lost (.inr ⟨rfl, rfl⟩)
  have both : bothHeaders (logPart 32 [0, 1]) 32 = true := by decide
  have kept : s.rst.recordLost (logPart 32 [0, 1]) 0 = false := by
    rw [Rst.recordLost, bothHeaders_logPart small]; simp [Nat.ne_of_lt (s.rst.logPlace_lt 0)]
  have number : s.rst.rebuiltFetched (s.rst.recordLost (logPart 32 [0, 1])) =
      match s.rst.log with | [] => s.rst.recordCounter | b :: _ => b.number - 1 := by
    rw [Rst.rebuiltFetched, kept]; rfl
  rw [List.foldl_cons, List.foldl_cons, List.foldl_nil, Rst.repairedPlace_fetched, Rst.repairedPlace_fetched, Rst.repairFetched,
    Rst.repairFetched, both, fetched, number] at ends
  refine ⟨t, next, ?_⟩
  split
  · next unused =>
    simp only [unused, ↓reduceIte] at ends
    exact ends
  · next used =>
    simp only [used, ↓reduceIte] at ends
    exact ends

/-! ### The log control cell (R164) -/

/-- The lowest record number of a log. -/
def lowestNumber (log : List CompletionRecord) : Nat := log.foldl (fun m c => min m c.number) ((log.head?.map (·.number)).getD 0)

/-- Which record of the log has the lowest number. -/
def Rst.firstRecord (r : Rst) : Nat := (r.log.findIdx? fun c => c.number == lowestNumber r.log).getD 0

/-- The greatest record number in the log or the last-fetched copy, 0 without any. -/
def Rst.greatestNumber (r : Rst) : Nat := (r.log ++ r.lastFetched.toList).foldl (fun m c => max m c.number) 0

theorem lowestNumber_min {log : List CompletionRecord} (some : log ≠ []) :
    (log.map (·.number)).min? = .some (lowestNumber log) := by
  cases log with
  | nil => exact absurd rfl some
  | cons c cs =>
    rw [List.map_cons, List.min?_cons', List.foldl_map]
    simp [lowestNumber]

theorem Rst.greatestNumber_max (r : Rst) : (0 :: (r.log ++ r.lastFetched.toList).map (·.number)).max? = some r.greatestNumber := by
  rw [List.max?_cons', List.foldl_map, Rst.greatestNumber]

/-- The first record of a log that holds any is one of its records, with the lowest number. -/
theorem Rst.firstRecord_lowest {r : Rst} (some : r.log ≠ []) : ∃ c, r.log[r.firstRecord]? = .some c ∧ c.number = lowestNumber r.log := by
  obtain ⟨member, -⟩ := List.min?_eq_some_iff.mp (lowestNumber_min some)
  obtain ⟨c, hc, number⟩ := List.mem_map.mp member
  cases found : r.log.findIdx? fun c => c.number == lowestNumber r.log with
  | none => exact absurd (List.findIdx?_eq_none_iff.mp found c hc) (by simp [number])
  | some n =>
    obtain ⟨inside, lowest, -⟩ := List.findIdx?_eq_some_iff_getElem.mp found
    rw [Rst.firstRecord, found]
    exact ⟨_, List.getElem?_eq_getElem inside, beq_iff_eq.mp lowest⟩

/-- The log rebuilt from its first record on is headed by the lowest number. -/
theorem Rst.rebuiltHead_lowest {r : Rst} {a b : CompletionRecord}
    (head : (r.log.drop r.firstRecord ++ r.log.take r.firstRecord).head? = some a) (hb : b ∈ r.log) : a.number ≤ b.number := by
  have some := List.ne_nil_of_mem hb
  obtain ⟨c, record, lowest⟩ := Rst.firstRecord_lowest some
  rw [List.head?_append, List.head?_drop, record] at head
  obtain rfl : c = a := Option.some.inj head
  obtain ⟨-, bound⟩ := List.min?_eq_some_iff.mp (lowestNumber_min some)
  exact lowest ▸ bound _ (List.mem_map_of_mem hb)

/-- The numbers that the record counter is rebuilt from. -/
theorem Rst.mem_numbers {r : Rst} {n : Nat} : n ∈ (r.log ++ r.lastFetched.toList).map (·.number) ↔
    ∃ b, (b ∈ r.log ∨ r.lastFetched = some b) ∧ b.number = n := by
  simp [or_and_right, exists_or]

/-- The control cell rebuilt with no other cell of the log lost. -/
theorem State.repairLogControl_alone (s : State) : s.repairLogControl [⟨.log, 0⟩] = s.onRst fun r =>
    { r with log := r.log.drop r.firstRecord ++ r.log.take r.firstRecord, logHead := (r.logHead + r.firstRecord) % 32
             recordCounter := r.greatestNumber } := by
  have sound : ∀ p, bothHeaders [⟨.log, 0⟩] p = false := fun p => by simp [bothHeaders, headerPair]
  have kept : (s.rst.log.zipIdx.filter fun x => !s.rst.recordLost [⟨.log, 0⟩] x.2) = s.rst.log.zipIdx := by
    simp [Rst.recordLost, sound]
  have records : s.rst.log.zipIdx.map (·.1) = s.rst.log := List.zipIdx_map_fst 0 _
  have low : s.rst.log.zipIdx.foldl (fun m x => min m x.1.number) ((s.rst.log.zipIdx.head?.map (·.1.number)).getD 0) =
      lowestNumber s.rst.log := by
    rw [lowestNumber]
    conv_rhs => rw [← records]
    rw [List.foldl_map, List.head?_map, Option.map_map]; rfl
  have first : (s.rst.log.zipIdx.findIdx? fun x => x.1.number == lowestNumber s.rst.log).getD 0 = s.rst.firstRecord := by
    rw [Rst.firstRecord]
    conv_rhs => rw [← records]
    rw [List.findIdx?_map, records]; rfl
  have place : ((s.rst.log.zipIdx[s.rst.firstRecord]?).map (·.2)).getD 0 = s.rst.firstRecord := by
    by_cases some : s.rst.log = []
    · simp [Rst.firstRecord, some]
    · obtain ⟨c, record, -⟩ := Rst.firstRecord_lowest some
      rw [List.getElem?_zipIdx, record]; simp
  rw [State.repairLogControl, State.onRst, State.onRst]
  dsimp only
  rw [kept, low, first, place, sound, List.map_append, List.map_drop, List.map_take, records]
  rfl

/-- The scrubber at a lost log control cell: the log begins at its lowest number, and the record counter is the greatest. -/
theorem scrubber_rebuilds_control {s : State} (live : s.Live) (quiet : s.Quiet) (walk : s.rst.walk = ⟨.log, 0⟩)
    (lost : s.Lost [⟨.log, 0⟩]) : ∃ t, exec (.scrubberRead []) s = .next t ∧ s.ScrubbedTo t { s.rst with
      log := s.rst.log.drop s.rst.firstRecord ++ s.rst.log.take s.rst.firstRecord
      logHead := (s.rst.logHead + s.rst.firstRecord) % 32
      recordCounter := s.rst.greatestNumber } := by
  obtain ⟨t, next, scrubs⟩ := scrubber_repairs live quiet walk lost nofun (List.pairwise_singleton _ _)
  refine ⟨t, next, scrubs.rewritten ?_⟩
  have repaired : s.mended.repairAll [⟨.log, 0⟩] false = (s.mended.noteDamaged ⟨.log, 0⟩).repairLogControl [⟨.log, 0⟩] :=
    State.afterRepairs_plain _ _ (by simp)
  rw [repaired, State.repairLogControl_alone]
  exact ⟨_, _, _, rfl⟩

/-- What every repair of the lists keeps. -/
theorem State.ScrubbedTo.of_lists {s t : State} {queue : List Nat} {schedule : List ScheduleEntry} {log : List CompletionRecord}
    {head counter : Nat} {fetched : Option CompletionRecord} (h : s.ScrubbedTo t { s.rst with
      returnQueue := queue, schedule := schedule, log := log, logHead := head, recordCounter := counter, lastFetched := fetched }) :
    (t.rst.errors = [] ∧ t.rst.slots = s.rst.slots ∧ t.rst.positions = s.rst.positions ∧ t.rst.details = s.rst.details ∧
      t.rst.geometry = s.rst.geometry ∧ t.rst.transfer = s.rst.transfer ∧ t.ixc = s.ixc ∧ t.btk = s.btk ∧ t.wlu = s.wlu ∧
      t.ctm = s.ctm ∧ t.aar = s.aar ∧ s.LinksKept t) ∧
    t.rst.returnQueue = queue ∧ t.rst.schedule = schedule ∧ t.rst.log = log ∧ t.rst.lastFetched = fetched ∧
      t.rst.recordCounter = counter ∧ t.rst.logHead = head := by
  obtain ⟨⟨d, x, w, store⟩, ixc, btk, wlu, ctm, aar, links⟩ := h
  rw [store]
  exact ⟨⟨rfl, rfl, rfl, rfl, rfl, rfl, ixc, btk, wlu, ctm, aar, links⟩, rfl, rfl, rfl, rfl, rfl, rfl⟩

/-- Settles O29: each lost cell of the three lists is rewritten as its place says, and the control cell from the places. -/
theorem lostListCellsAreRewrittenSafely : Obligations.LostListCellsAreRewrittenSafely := by
  intro s live quiet head length lost kept lists cell forget becomes
  have becomes_of {log fetched} (h : s.RecordsBecome log fetched) : becomes log fetched := by
    obtain ⟨t, next, ends⟩ := h
    obtain ⟨same, queue, schedule, log, fetched, counter, head⟩ := State.ScrubbedTo.of_lists ends
    exact ⟨t, next, same, ⟨queue, schedule⟩, log, fetched, counter, head⟩
  have walk_of {c cs} (h : lost (c :: cs)) : s.rst.walk = c := (Option.some.inj h.1).symm
  refine ⟨fun i _ h => ?_, fun i _ h => ?_, fun i c record => ?_, fun c fetched => ?_, fun h => ?_⟩
  · obtain ⟨t, next, ends⟩ := scrubber_drops_queue_place live quiet (walk_of h) h.2
    obtain ⟨same, queue, schedule, log, -⟩ := State.ScrubbedTo.of_lists ends
    exact ⟨t, next, same, queue, schedule, log⟩
  · obtain ⟨t, next, ends, empty⟩ := scrubber_drops_schedule_entry live quiet (walk_of h) h.2
    obtain ⟨same, queue, schedule, log, -⟩ := State.ScrubbedTo.of_lists ends
    exact ⟨t, next, same, schedule, queue, log, by rw [empty, schedule]⟩
  · have inside : i < s.rst.log.length := (List.getElem?_eq_some_iff.mp record).1
    have hi : i < 32 := by omega
    refine ⟨fun j hj h => ?_, fun e he h => ?_, fun n h number => ?_⟩
    · obtain ⟨m, repaired⟩ := scrubber_repairs_record live quiet head hi (by omega) record (walk_of h) h.2
      rw [CompletionRecord.repair_serial _ _ hj] at repaired
      exact becomes_of repaired
    · obtain ⟨m, repaired⟩ := scrubber_repairs_record live quiet head hi (by omega) record (walk_of h) h.2
      rw [CompletionRecord.repair_history] at repaired
      exact becomes_of repaired
    · exact becomes_of (scrubber_numbers_record live quiet head length record (walk_of h) h.2 fun missing alone =>
        Rst.rebuiltNumber_alone length inside alone number)
  · refine ⟨fun j hj h => ?_, fun e he h => ?_, fun h => ?_⟩
    · obtain ⟨m, repaired⟩ := scrubber_repairs_fetched live quiet (by omega) fetched (walk_of h) h.2
      rw [CompletionRecord.repair_serial _ _ hj] at repaired
      exact becomes_of repaired
    · obtain ⟨m, repaired⟩ := scrubber_repairs_fetched live quiet (by omega) fetched (walk_of h) h.2
      rw [CompletionRecord.repair_history] at repaired
      exact becomes_of repaired
    · exact becomes_of (scrubber_numbers_fetched live quiet fetched (walk_of h) h.2)
  · obtain ⟨t, next, ends⟩ := scrubber_rebuilds_control live quiet (walk_of h) h.2
    obtain ⟨same, queue, schedule, log, fetched, counter, head⟩ := State.ScrubbedTo.of_lists ends
    obtain ⟨attained, bounds⟩ := List.max?_eq_some_iff.mp s.rst.greatestNumber_max
    refine ⟨t, s.rst.firstRecord, next, same, ⟨queue, schedule⟩, fetched, log, head, fun a b ha hb => ?_, fun b hb => ?_, ?_⟩
    · exact Rst.rebuiltHead_lowest (log ▸ ha) hb
    · exact counter ▸ bounds _ (.tail _ (Rst.mem_numbers.mpr ⟨b, hb, rfl⟩))
    · rw [counter]
      exact (List.mem_cons.mp attained).imp id Rst.mem_numbers.mp

end Sys2Proof.Machine
end

section
/-! SUPPORT. The scrubber on lost geometry, transfer and position configuration cells (O28). -/

namespace Sys2Proof.Machine

/-! ### What the IXC does after a configuration repair (R165) -/

theorem State.configRepaired_stays {s : State} (h : s.ixc.state = .halt ∨ s.ixc.state = .fault) : s.configRepaired = s := by
  unfold State.configRepaired; rcases h with h | h <;> rw [h]

theorem State.configRepaired_remembers {s : State} (h : s.ixc.state = .advance) :
    s.configRepaired = s.onIxc fun i => { i with configDue := true } := by
  unfold State.configRepaired; rw [h]

theorem State.configRepaired_faults {s : State} (h : s.ixc.state = .collect ∨ s.ixc.state.moving = true) :
    s.configRepaired = s.enterFault .config := by
  unfold State.configRepaired
  cases state : s.ixc.state with
  | halt | advance | fault => rw [state] at h; simp [IxcState.moving] at h
  | collect | permit | carry | sweep | reseat | settle => rfl

/-- A configuration repair leaves the IXC, remembers the fault, or enters it. -/
theorem IxcState.config_cases (x : IxcState) : (x = .halt ∨ x = .fault) ∨ x = .advance ∨ (x = .collect ∨ x.moving = true) := by
  cases x <;> simp [IxcState.moving]

theorem State.enterFault_counter (s : State) (c : Cause) (x : Option SeatCheck) : (s.enterFault c x).btk.counter = s.btk.counter ∧
    (s.enterFault c x).btk.captures.length = s.btk.captures.length := by
  have closed : s.closeCaptures.btk.captures.length = s.btk.captures.length := List.length_map _
  unfold State.enterFault
  dsimp only
  split_ifs <;> [exact ⟨rfl, closed⟩; exact ⟨rfl, rfl⟩; exact ⟨rfl, closed⟩; exact ⟨rfl, rfl⟩]

/-- What a configuration repair leaves as it was beside the store: the timers, the links, the bar's counter and the captures in number. -/
theorem State.configRepaired_keeps (s : State) : s.configRepaired.ctm = s.ctm ∧ s.configRepaired.liu.links = s.liu.links ∧
    s.configRepaired.btk.counter = s.btk.counter ∧ s.configRepaired.btk.captures.length = s.btk.captures.length := by
  rcases s.ixc.state.config_cases with rests | advance | aborts
  · rw [State.configRepaired_stays rests]; exact ⟨rfl, rfl, rfl, rfl⟩
  · rw [State.configRepaired_remembers advance]; exact ⟨rfl, rfl, rfl, rfl⟩
  · rw [State.configRepaired_faults aborts]
    exact ⟨s.enterFault_ctm _ _, s.enterFault_links _ _, s.enterFault_counter _ _⟩

/-- What the IXC does when configuration cells have been repaired (R165). -/
structure State.ConfigActs (s t : State) : Prop where
  stays : s.ixc.state = .halt ∨ s.ixc.state = .fault → t.ixc = s.ixc
  remembers : s.ixc.state = .advance → t.ixc = { s.ixc with configDue := true }
  faults : s.ixc.state = .collect ∨ s.ixc.state.moving = true → t.ixc.state = .fault ∧ t.ixc.motion = s.ixc.motion ∧
    t.liu.attentions.fault = some .config ∧ ∃ f, t.ixc.currentFault = some f ∧ f.cause = .config

/-- The first repair of a grant acts on the IXC as it was. -/
theorem State.configRepaired_acts {s u : State} (ixc : u.ixc = s.ixc) : s.ConfigActs u.configRepaired := by
  refine ⟨fun h => ?_, fun h => ?_, fun h => ?_⟩
  · rw [State.configRepaired_stays (by rwa [ixc]), ixc]
  · rw [State.configRepaired_remembers (by rwa [ixc]), State.onIxc, ixc]
  · rw [State.configRepaired_faults (by rwa [ixc])]
    have entered := u.enterFault_enters .config none
    exact ⟨entered.state, entered.motion.trans (congrArg Ixc.motion ixc), entered.attention, _, entered.current, rfl⟩

theorem State.ConfigActs.of_same {s t u : State} (h : s.ConfigActs t) (ixc : u.ixc = t.ixc)
    (fault : u.liu.attentions.fault = t.liu.attentions.fault) : s.ConfigActs u := by
  obtain ⟨stays, remembers, faults⟩ := h
  rw [← ixc] at stays remembers faults
  rw [← fault] at faults
  exact ⟨stays, remembers, faults⟩

/-- A second repair of a grant adds nothing to what the first has done. -/
theorem State.ConfigActs.again {s t : State} (h : s.ConfigActs t) : s.ConfigActs t.configRepaired := by
  rcases s.ixc.state.config_cases with rests | advance | aborts
  · rw [State.configRepaired_stays (by rwa [h.stays rests])]; exact h
  · have due := h.remembers advance
    rw [State.configRepaired_remembers (by rwa [due])]
    refine ⟨fun x => ?_, fun _ => ?_, fun x => ?_⟩
    · rw [advance] at x; simp at x
    · rw [State.onIxc, due]
    · rw [advance] at x; simp [IxcState.moving] at x
  · rw [State.configRepaired_stays (.inr (h.faults aborts).1)]; exact h

/-! ### What the repairs of a grant leave (R160, R165) -/

/-- The configuration repairs of a grant have led from `s` to `t` with the store `r` and no cell in error. -/
structure State.Reconfigures (s t : State) (r : Rst) : Prop where
  store : ∃ d x w, t.rst = { r with errors := [], damages := d, lastDamaged := x, walk := w }
  acts : s.ConfigActs t
  counter : t.btk.counter = s.btk.counter
  links : s.LinksKept t

theorem State.Scrubs.reconfigures {s u t : State} {c : Cell} {r : Rst} (h : u.Scrubs t c) (led : s.Reconfigures u r) :
    s.Reconfigures t r := by
  obtain ⟨⟨d, x, w, store⟩, acts, counter, links⟩ := led
  exact ⟨⟨d, x, c, by rw [h.rst, store]⟩, acts.of_same h.ixc (congrArg Attentions.fault h.attentions),
    (congrArg Btk.counter h.btk).trans counter, links.trans h.links⟩

/-- The first repair of a grant: a state that the cell's rewriting has led to, then what the IXC does. -/
theorem State.Reconfigures.first {s u : State} {r : Rst} (store : ∃ d x w, u.rst = { r with errors := [], damages := d, lastDamaged := x, walk := w })
    (ixc : u.ixc = s.ixc) (counter : u.btk.counter = s.btk.counter) (links : u.liu.links = s.liu.links) :
    s.Reconfigures u.configRepaired r := by
  obtain ⟨-, links', counter', -⟩ := u.configRepaired_keeps
  obtain ⟨d, x, w, store⟩ := store
  exact ⟨⟨d, x, w, u.configRepaired_rst.trans store⟩, State.configRepaired_acts ixc, counter'.trans counter, .of_links (links'.trans links)⟩

/-- A further lost cell that is rewritten from what the first repair has written. -/
theorem State.Reconfigures.again {s t : State} {r : Rst} (h : s.Reconfigures t r) (c : Cell) :
    s.Reconfigures (t.noteDamaged c).configRepaired r := by
  obtain ⟨⟨d, x, w, store⟩, acts, counter, links⟩ := h
  obtain ⟨-, links', counter', -⟩ := (t.noteDamaged c).configRepaired_keeps
  have noted : ∃ d x w, (t.noteDamaged c).rst = { r with errors := [], damages := d, lastDamaged := x, walk := w } := by
    rw [State.noteDamaged, State.attend, State.onLiu, State.onRst]
    dsimp only
    rw [store]
    exact ⟨_, _, _, rfl⟩
  exact ⟨by rwa [State.configRepaired_rst], (State.ConfigActs.of_same (u := t.noteDamaged c) acts rfl rfl).again,
    counter'.trans counter, links.trans (.of_links links')⟩

/-- What every repair of the configuration keeps, and what its store holds. -/
theorem State.Reconfigures.of_config {s t : State} {g : Option Geometry} {unconfirmed : Bool} {x : Option Transfer} {ps : List Position}
    {ws : List (Option Window)} (h : s.Reconfigures t { s.rst with
      geometry := g, unconfirmed := unconfirmed, transfer := x, positions := ps, windows := ws }) :
    ((s.ixc.state = .halt ∨ s.ixc.state = .fault → t.ixc = s.ixc) ∧
      (s.ixc.state = .advance → t.ixc = { s.ixc with configDue := true }) ∧
      (s.ixc.state = .collect ∨ s.ixc.state.moving = true → t.ixc.state = .fault ∧ t.ixc.motion = s.ixc.motion ∧
        t.liu.attentions.fault = some .config ∧ ∃ f, t.ixc.currentFault = some f ∧ f.cause = .config)) ∧
    (t.rst.errors = [] ∧ t.rst.slots = s.rst.slots ∧ t.rst.details = s.rst.details ∧ s.SameLists t ∧
      s.LinksKept t ∧ t.btk.counter = s.btk.counter) ∧
    t.rst.geometry = g ∧ t.rst.unconfirmed = unconfirmed ∧ t.rst.transfer = x ∧ t.rst.positions = ps ∧ t.rst.windows = ws := by
  obtain ⟨⟨d, y, w, store⟩, ⟨stays, remembers, faults⟩, counter, links⟩ := h
  rw [State.SameLists, store]
  exact ⟨⟨stays, remembers, faults⟩, ⟨rfl, rfl, rfl, ⟨rfl, rfl, rfl, rfl⟩, links, counter⟩, rfl, rfl, rfl, rfl, rfl⟩

/-! ### One lost geometry cell, or one position configuration cell (R162, R165) -/

theorem scrubber_repairs_geometry_copy {s : State} (live : s.Live) (quiet : s.Quiet) {c : Nat} (walk : s.rst.walk = ⟨.geometry, c⟩)
    (lost : s.Lost [⟨.geometry, c⟩]) : ∃ t, exec (.scrubberRead []) s = .next t ∧ s.Reconfigures t s.rst := by
  obtain ⟨t, next, scrubs⟩ := scrubber_repairs live quiet walk lost nofun (List.pairwise_singleton _ _)
  have one : ([(⟨.geometry, c⟩ : Cell)].contains ⟨.geometry, 0⟩ && [(⟨.geometry, c⟩ : Cell)].contains ⟨.geometry, 1⟩) = false := by
    simp; omega
  have repaired : s.mended.repairAll [⟨.geometry, c⟩] false = (s.mended.noteDamaged ⟨.geometry, c⟩).configRepaired := by
    rw [State.repairAll, State.afterRepairs_plain _ _ (by simp), List.foldl_cons, List.foldl_nil, State.repairCell]
    dsimp only
    rw [one, Bool.false_and, if_neg Bool.false_ne_true]
  rw [repaired] at scrubs
  exact ⟨t, next, scrubs.reconfigures (.first ⟨_, _, _, rfl⟩ rfl rfl rfl)⟩

theorem scrubber_repairs_config {s : State} (live : s.Live) (quiet : s.Quiet) {k : Nat} (walk : s.rst.walk = ⟨.positionConfig, k⟩)
    (lost : s.Lost [⟨.positionConfig, k⟩]) : ∃ t, exec (.scrubberRead []) s = .next t ∧ s.Reconfigures t (s.repairConfig k).rst := by
  obtain ⟨t, next, scrubs⟩ := scrubber_repairs live quiet walk lost nofun (List.pairwise_singleton _ _)
  have repaired : s.mended.repairAll [⟨.positionConfig, k⟩] false =
      ((s.mended.noteDamaged ⟨.positionConfig, k⟩).repairConfig k).configRepaired := State.afterRepairs_plain _ _ (by simp)
  rw [repaired] at scrubs
  exact ⟨t, next, scrubs.reconfigures (.first ⟨_, _, _, rfl⟩ rfl rfl rfl)⟩

/-! ### A lost transfer cell (R7, R9, R165) -/

/-- Of the repairs of a transfer cell only that of the direct settings acts further. -/
theorem State.afterRepairs_transfer (s : State) (r : Rst) (i : Nat) :
    s.afterRepairs r [⟨.transfer, i⟩] = if i = 8 ∧ s.rst.transfer.isSome = true then s.directWritten else s := by
  have slots : ∀ x, slotLost [⟨.transfer, i⟩] x = false := fun x => by simp [slotLost, List.range_succ]
  rw [State.afterRepairs, State.repairQueue_still _ _ (by simp) slots, State.repairSchedule_still _ (by simp)]
  have cell : [(⟨.transfer, i⟩ : Cell)].contains ⟨.transfer, 8⟩ = decide (i = 8) := by
    rw [Bool.eq_iff_iff]
    simp only [List.contains_iff_mem, List.mem_singleton, Cell.mk.injEq, true_and, decide_eq_true_eq]
    exact eq_comm
  rw [cell]
  simp only [Bool.and_eq_true, decide_eq_true_eq]

theorem State.directWritten_fault (s : State) : s.directWritten.liu.attentions.fault = s.liu.attentions.fault := by
  have reform : ∀ (u : State) k, (u.reformLimit k).liu.attentions.fault = u.liu.attentions.fault := fun u k => by
    have raise : ∀ v : State, (v.checkOverrun k).liu.attentions.fault = v.liu.attentions.fault := fun v => by
      unfold State.checkOverrun State.raiseOverrun
      split
      · split
        · split <;> rfl
        · rfl
      · rfl
    unfold State.reformLimit
    split
    · exact raise _
    · rfl
  have late : ∀ (u : State) k, (u.expireLate k).liu.attentions.fault = u.liu.attentions.fault := fun u k => by
    unfold State.expireLate
    split
    · split <;> rfl
    · rfl
  rw [State.directWritten, foldl_keeps (g := (State.liu · |>.attentions.fault)) late, State.reformLimits,
    foldl_keeps (g := (State.liu · |>.attentions.fault)) reform]

theorem State.Reconfigures.directWritten {s t : State} {r : Rst} (h : s.Reconfigures t r) : s.Reconfigures t.directWritten r := by
  obtain ⟨⟨d, x, w, store⟩, acts, counter, links⟩ := h
  have direct := t.directWritten_direct
  exact ⟨⟨d, x, w, direct.rst.trans store⟩, acts.of_same direct.ixc t.directWritten_fault,
    (congrArg Btk.counter direct.btk).trans counter, links.trans (.of_links direct.links)⟩

/-- A group of settings that is lost holds the defaults of R7. -/
theorem Staged.defaultGroup_eq (y : Staged) (g : Geometry) (i : Nat) : y.defaultGroup g.defaults i = match i with
    | 0 => { y with target := g.place g.pitch, stopBand := 40, overtravel := (g.pitch : Int) / 20, sweepMargin := (g.pitch : Int) / 8 }
    | 1 => { y with bias := 0, minWidth := 100, driftLimit := 200, entryTolerance := 150 }
    | 2 => { y with homeTolerance := 50, extend := false, settleTime := 100, liftTimeout := 3000 }
    | _ => { y with carryTimeout := 8000, sweepTimeout := 60000, homeTimeout := 8000 } := by
  match i with
  | 0 | 1 | 2 | _ + 3 => rfl

/-- The settings with transfer cell `i` at its defaults (R7, R165). -/
def Transfer.defaultCell (g : Geometry) (i : Nat) (x : Transfer) : Transfer :=
  if i < 4 then { x with pending := x.pending.defaultGroup g.defaults i }
  else if i < 8 then { x with working := x.working.defaultGroup g.defaults (i - 4) }
  else { x with startTimeout := 2000, budgetTolerance := 10 }

theorem State.repairTransfer_placed {s : State} {g : Geometry} {x : Transfer} (geometry : s.rst.geometry = some g)
    (settings : s.rst.transfer = some x) (i : Nat) : s.repairTransfer i = s.withTransfer (x.defaultCell g i) := by
  rw [State.repairTransfer, geometry]
  dsimp only
  rw [State.onRst, settings]; rfl

/-- The repairs of a lost transfer cell: its settings, what the IXC does, and what new direct settings bring about. -/
theorem scrubber_repairs_transfer {s : State} (live : s.Live) (quiet : s.Quiet) {i : Nat} (walk : s.rst.walk = ⟨.transfer, i⟩)
    (lost : s.Lost [⟨.transfer, i⟩]) : ∃ t u, exec (.scrubberRead []) s = .next t ∧
      u = ((s.mended.noteDamaged ⟨.transfer, i⟩).repairTransfer i).configRepaired ∧
      (if i = 8 ∧ u.rst.transfer.isSome = true then u.directWritten else u).Scrubs t (nextCell ⟨.transfer, i⟩) := by
  obtain ⟨t, next, scrubs⟩ := scrubber_repairs live quiet walk lost nofun (List.pairwise_singleton _ _)
  rw [State.repairAll, State.afterRepairs_transfer] at scrubs
  exact ⟨t, _, next, rfl, scrubs⟩

/-- While the geometry is absent a lost transfer cell is rewritten empty. -/
theorem scrubber_repairs_transfer_absent {s : State} (live : s.Live) (quiet : s.Quiet) {i : Nat} (walk : s.rst.walk = ⟨.transfer, i⟩)
    (lost : s.Lost [⟨.transfer, i⟩]) (absent : s.rst.geometry = none) : ∃ t, exec (.scrubberRead []) s = .next t ∧ s.Reconfigures t s.rst := by
  obtain ⟨t, u, next, repaired, scrubs⟩ := scrubber_repairs_transfer live quiet walk lost
  have still : (s.mended.noteDamaged ⟨.transfer, i⟩).repairTransfer i = s.mended.noteDamaged ⟨.transfer, i⟩ := by
    rw [State.repairTransfer, show (s.mended.noteDamaged ⟨.transfer, i⟩).rst.geometry = none from absent]
  have led : s.Reconfigures u s.rst := by rw [repaired, still]; exact .first ⟨_, _, _, rfl⟩ rfl rfl rfl
  refine ⟨t, next, scrubs.reconfigures ?_⟩
  split
  · exact led.directWritten
  · exact led

/-- What a direct setting at its defaults does to the timers (R9, R171). -/
theorem State.directWritten_timers {s u : State} {x : Transfer} (shape : u.Shaped) (settings : u.rst.transfer = some x)
    (timeout : x.startTimeout = 2000) (tolerance : x.budgetTolerance = 10) (positions : u.rst.positions = s.rst.positions)
    (budgets : u.rst.budgets = s.rst.budgets) (ctm : u.ctm = s.ctm) {k : Nat} (hk : k < 16) :
    u.directWritten.startTimer k = lateStopped 2000 (s.startTimer k) ∧ (u.directWritten.work k).running = (s.work k).running ∧
      ((s.work k).running.isSome = true → (u.directWritten.work k).limit = s.limitUnder 10 k) := by
  have start : u.startTimer k = s.startTimer k := by rw [State.startTimer, ctm]; rfl
  have work : u.work k = s.work k := by rw [State.work, ctm]; rfl
  have pos : u.pos k = s.pos k := by rw [State.pos, positions]; rfl
  have budget : ∀ n, u.budget k n = s.budget k n := fun n => by rw [State.budget, budgets]; rfl
  have limit : u.tolerance = some 10 := by rw [State.tolerance, settings, Option.map_some, tolerance]
  obtain ⟨timers, -⟩ := u.directWritten_startTimers shape settings
  obtain ⟨running, formed, -⟩ := WorkTimer.reformed_spec (s.work k) (u.orderLimit k)
  rw [timers k hk, start, timeout, u.directWritten_work shape hk, work]
  refine ⟨rfl, running, fun runs => ?_⟩
  rw [formed, if_pos runs, State.orderLimit_eq, State.limitUnder, pos, limit]
  cases (s.pos k).program with
  | none => rfl
  | some n => dsimp only; rw [budget]

/-- A lost transfer cell takes its defaults; the cell of the direct settings acts on the timers (R9, R165). -/
theorem scrubber_defaults_transfer {s : State} (live : s.Live) (quiet : s.Quiet) (shape : s.Shaped) {i : Nat}
    (walk : s.rst.walk = ⟨.transfer, i⟩) (lost : s.Lost [⟨.transfer, i⟩]) {g : Geometry} {x : Transfer}
    (geometry : s.rst.geometry = some g) (settings : s.rst.transfer = some x) : ∃ t, exec (.scrubberRead []) s = .next t ∧
      s.Reconfigures t { s.rst with transfer := some (x.defaultCell g i) } ∧ (i < 8 → t.ctm = s.ctm) ∧
      (i = 8 → ∀ k, k < 16 → t.startTimer k = lateStopped 2000 (s.startTimer k) ∧ (t.work k).running = (s.work k).running ∧
        ((s.work k).running.isSome = true → (t.work k).limit = s.limitUnder 10 k)) := by
  obtain ⟨t, u, next, repaired, scrubs⟩ := scrubber_repairs_transfer live quiet walk lost
  rw [State.repairTransfer_placed (s := s.mended.noteDamaged ⟨.transfer, i⟩) geometry settings] at repaired
  obtain ⟨ctm, -, -, captures⟩ := ((s.mended.noteDamaged ⟨.transfer, i⟩).withTransfer (x.defaultCell g i)).configRepaired_keeps
  have led : s.Reconfigures u { s.rst with transfer := some (x.defaultCell g i) } := by
    rw [repaired]; exact .first ⟨_, _, _, rfl⟩ rfl rfl rfl
  rw [← repaired] at ctm captures
  obtain ⟨d, y, w, store⟩ := led.store
  have written : u.rst.transfer = some (x.defaultCell g i) := by rw [store]
  by_cases direct : i = 8
  · subst direct
    rw [if_pos ⟨rfl, by rw [written]; rfl⟩] at scrubs
    refine ⟨t, next, scrubs.reconfigures led.directWritten, fun h => absurd h (by decide), fun _ k hk => ?_⟩
    obtain ⟨positions, details, starts, work, stats, length⟩ := shape
    have shaped : u.Shaped := by
      rw [State.Shaped, store, ctm]
      exact ⟨positions, details, starts, work, stats, captures.trans length⟩
    rw [State.startTimer, State.work, scrubs.ctm]
    exact State.directWritten_timers (s := s) shaped written rfl rfl (by rw [store]) (by rw [store]) ctm hk
  · rw [if_neg fun h => direct h.1] at scrubs
    exact ⟨t, next, scrubs.reconfigures led, fun _ => scrubs.ctm.trans ctm, fun h => absurd h direct⟩

/-! ### Both geometry cells lost (R165) -/

/-- Both geometry cells. -/
def geometryCells : List Cell := [⟨.geometry, 0⟩, ⟨.geometry, 1⟩]

/-- The scrubber at a geometry cell with the other lost too: one repair of both, then the second cell is rewritten. -/
theorem scrubber_repairs_geometry {s : State} (live : s.Live) (quiet : s.Quiet) (walk : s.rst.walk = ⟨.geometry, 0⟩)
    (lost : s.Lost geometryCells) : ∃ t u, exec (.scrubberRead []) s = .next t ∧
      u = ((s.mended.noteDamaged ⟨.geometry, 0⟩).repairBothGeometry geometryCells).configRepaired ∧
      (u.noteDamaged ⟨.geometry, 1⟩).configRepaired.Scrubs t ⟨.geometry, 1⟩ := by
  have needed : ∀ d ∈ [(⟨.geometry, 1⟩ : Cell)], d ∈ s.needs ⟨.geometry, 0⟩ := fun d hd => by
    rw [List.mem_singleton.mp hd]; exact .head _
  obtain ⟨t, next, scrubs⟩ := scrubber_repairs live quiet walk lost needed (by decide)
  have repaired : s.mended.repairAll geometryCells false =
      ((((s.mended.noteDamaged ⟨.geometry, 0⟩).repairBothGeometry geometryCells).configRepaired).noteDamaged ⟨.geometry, 1⟩).configRepaired :=
    State.afterRepairs_plain _ _ (by decide)
  rw [show [(⟨.geometry, 0⟩ : Cell), ⟨.geometry, 1⟩] = geometryCells from rfl, repaired] at scrubs
  exact ⟨t, _, next, rfl, scrubs⟩

theorem State.readableKind_geometry (s : State) (k : Nat) : s.readableKind geometryCells k = some (s.pos k).kind :=
  if_neg (by simp [geometryCells])

theorem State.allUnused_iff (s : State) :
    (allBelow 16 fun k => s.readableKind geometryCells k == some .unused) = true ↔ ∀ k, k < 16 → (s.pos k).kind = .unused := by
  simp [allBelow_iff, State.readableKind_geometry]

/-- Without a position in use the geometry stays absent. -/
theorem scrubber_loses_geometry {s : State} (live : s.Live) (quiet : s.Quiet) (walk : s.rst.walk = ⟨.geometry, 0⟩)
    (lost : s.Lost geometryCells) (unused : ∀ k, k < 16 → (s.pos k).kind = .unused) :
    ∃ t, exec (.scrubberRead []) s = .next t ∧ s.Reconfigures t { s.rst with geometry := none } := by
  obtain ⟨t, u, next, repaired, scrubs⟩ := scrubber_repairs_geometry live quiet walk lost
  rw [State.repairBothGeometry, if_pos ((State.allUnused_iff (s.mended.noteDamaged ⟨.geometry, 0⟩)).mpr unused)] at repaired
  have led : s.Reconfigures u { s.rst with geometry := none } := by rw [repaired]; exact .first ⟨_, _, _, rfl⟩ rfl rfl rfl
  exact ⟨t, next, scrubs.reconfigures (led.again _)⟩

/-! #### The geometry rebuilt from the kinds -/

/-- The highest place is reached by a place without the property, or is the first value. -/
theorem foldl_highest_attained (p : Nat → Bool) (xs : List Nat) (a : Nat) :
    let n := xs.foldl (fun n k => if p k then n else max n (k + 1)) a
    n = a ∨ ∃ k ∈ xs, p k = false ∧ n = k + 1 := by
  induction xs generalizing a with
  | nil => exact .inl rfl
  | cons x xs ih =>
    rcases ih (if p x then a else max a (x + 1)) with first | ⟨k, hk, property, last⟩
    · dsimp only
      rw [List.foldl_cons, first]
      cases property : p x with
      | true => exact .inl rfl
      | false =>
        rcases Nat.le_total a (x + 1) with low | high
        · exact .inr ⟨x, .head xs, property, Nat.max_eq_right low⟩
        · exact .inl (Nat.max_eq_left high)
    · exact .inr ⟨k, .tail x hk, property, last⟩

/-- The last position of a rebuilt line of more than three is in use. -/
theorem State.rebuiltCount_last (s : State) (more : 3 < s.rebuiltCount geometryCells) :
    (s.pos (s.rebuiltCount geometryCells - 1)).kind ≠ .unused := by
  rcases foldl_highest_attained (fun k => s.readableKind geometryCells k == some .unused) (List.range 16) 3 with low | ⟨k, -, used, last⟩
  · exact absurd (show s.rebuiltCount geometryCells = 3 from low) (Nat.ne_of_gt more)
  · rw [show s.rebuiltCount geometryCells = k + 1 from last, Nat.add_sub_cancel]
    simpa [State.readableKind_geometry] using used

/-- The kinds of a rebuilt line: its ends, and between them CHECK where a position read it. -/
theorem State.kindOf_rebuilt (s : State) (k : Nat) : kindOf (some (s.rebuiltGeometry geometryCells)) k =
    if s.rebuiltCount geometryCells ≤ k then .unused else if k = 0 then .load else if k + 1 = s.rebuiltCount geometryCells then .unload
      else if (s.pos k).kind = .check then .check else .process := by
  unfold kindOf State.rebuiltGeometry
  dsimp only
  split_ifs with out first last check
  · rfl
  · rfl
  · rfl
  all_goals
    have between : k - 1 < s.rebuiltCount geometryCells - 2 := by omega
    have behind : k - 1 + 1 = k := by omega
    simp [List.getD_eq_getElem?_getD, between, behind, State.readableKind_geometry, check]

theorem State.emptyWindows_errors {s : State} (sound : s.rst.errors = []) : s.emptyWindows.rst.errors = [] := by
  rw [State.emptyWindows, State.foldl_setWindow_rewriteCells]
  dsimp only
  rw [sound]; rfl

/-- What the repair of both geometry cells writes into a store with no cell in error, some position being in use. -/
theorem State.repairBothGeometry_rebuilds {s : State} (sound : s.rst.errors = []) (used : ∃ k, k < 16 ∧ (s.pos k).kind ≠ .unused) :
    ∃ g w c, g = s.rebuiltGeometry geometryCells ∧ (∀ j, j < 15 → w.getD j none = none) ∧ s.repairBothGeometry geometryCells = { s with
      rst := { s.rst with
        geometry := some g, unconfirmed := true, positions := s.rst.positions.mapIdx fun k p => { p with kind := kindOf (some g) k }
        transfer := some (Transfer.rebuild g s.rst.transfer), windows := w }
      btk := { s.btk with captures := c }
      wlu := { s.wlu with record := { s.wlu.record with
        state := if s.wlu.record.state = .held then .discarded else s.wlu.record.state } } } := by
  obtain ⟨k, hk, kind⟩ := used
  rw [State.repairBothGeometry, if_neg fun all => kind ((State.allUnused_iff _).mp all k hk)]
  generalize s.rebuiltGeometry geometryCells = g
  let t := s.onRst fun r =>
    { r with
      geometry := some g, unconfirmed := true, positions := r.positions.mapIdx fun k p => { p with kind := kindOf (some g) k }
      transfer := some (Transfer.rebuild g r.transfer) }
  have whole : (if s.rst.transfer.isNone then t.rewriteCells transferCells else t) = t := by
    split
    · exact State.rewriteCells_sound (s := t) sound _
    · rfl
  obtain ⟨w, c, e, -, empty, emptied⟩ := t.emptyWindows_frame
  obtain rfl : e = [] := (congrArg (fun u : State => u.rst.errors) emptied).symm.trans (State.emptyWindows_errors sound)
  refine ⟨g, w, c, rfl, empty, ?_⟩
  change State.discardHeld (State.emptyWindows (if s.rst.transfer.isNone then t.rewriteCells transferCells else t)) = _
  rw [whole, State.discardHeld_eq, emptied, ← sound]
  rfl

/-! #### The learn record (R140, R146) -/

theorem IxcState.early_iff (x : IxcState) : x.early = true ↔ x = .permit ∨ x = .carry ∨ x = .sweep := by
  cases x <;> simp [IxcState.early]

/-- A configuration repair aborts a learn in the motion's first states. -/
theorem State.configRepaired_record (s : State) : s.configRepaired.ixc.state.early = false ∧ s.configRepaired.wlu.record.state =
    if s.ixc.state.early = true ∧ s.motionKind = some .learn then .aborted else s.wlu.record.state := by
  rcases s.ixc.state.config_cases with rests | advance | aborts
  · rw [State.configRepaired_stays rests]
    have late : s.ixc.state.early = false := by rcases rests with h | h <;> rw [h] <;> rfl
    rw [late, if_neg (by simp)]
    exact ⟨rfl, rfl⟩
  · rw [State.configRepaired_remembers advance, advance, if_neg (by simp [IxcState.early])]
    exact ⟨by rw [State.onIxc, advance]; rfl, rfl⟩
  · rw [State.configRepaired_faults aborts, (s.enterFault_enters .config none).state, State.enterFault_wlu]
    refine ⟨rfl, ?_⟩
    split <;> rfl

/-- With a position in use the geometry is rebuilt, and a learn record that was HELD or IN_PROGRESS is closed. -/
theorem scrubber_rebuilds_geometry {s : State} (live : s.Live) (quiet : s.Quiet) (walk : s.rst.walk = ⟨.geometry, 0⟩)
    (lost : s.Lost geometryCells) (unheld : s.LearnUnheld) (used : ∃ k, k < 16 ∧ (s.pos k).kind ≠ .unused) :
    ∃ t g w, exec (.scrubberRead []) s = .next t ∧ g = s.rebuiltGeometry geometryCells ∧ (∀ j, j < 15 → w.getD j none = none) ∧
      s.Reconfigures t { s.rst with
        geometry := some g, unconfirmed := true, transfer := some (Transfer.rebuild g s.rst.transfer)
        positions := s.rst.positions.mapIdx fun k p => { p with kind := kindOf (some g) k }, windows := w } ∧
      t.wlu.record.state = (if s.wlu.record.state = .held then .discarded
        else if (s.ixc.state = .permit ∨ s.ixc.state = .carry ∨ s.ixc.state = .sweep) ∧ s.motionKind = some .learn then .aborted
        else s.wlu.record.state) := by
  obtain ⟨t, u, next, repaired, scrubs⟩ := scrubber_repairs_geometry live quiet walk lost
  let n := s.mended.noteDamaged ⟨.geometry, 0⟩
  obtain ⟨g, w, c, rebuilt, empty, written⟩ := State.repairBothGeometry_rebuilds (s := n) rfl used
  have led : s.Reconfigures u { s.rst with
      geometry := some g, unconfirmed := true, transfer := some (Transfer.rebuild g s.rst.transfer)
      positions := s.rst.positions.mapIdx fun k p => { p with kind := kindOf (some g) k }, windows := w } := by
    rw [repaired, written]; exact .first ⟨_, _, _, rfl⟩ rfl rfl rfl
  refine ⟨t, g, w, next, rebuilt, empty, scrubs.reconfigures (led.again _), ?_⟩
  obtain ⟨late, aborts⟩ := (n.repairBothGeometry geometryCells).configRepaired_record
  obtain ⟨-, still⟩ := (u.noteDamaged ⟨.geometry, 1⟩).configRepaired_record
  rw [← repaired] at late aborts
  rw [if_neg (by rw [show (u.noteDamaged ⟨.geometry, 1⟩).ixc.state.early = false from late]; simp)] at still
  have ixc : (n.repairBothGeometry geometryCells).ixc = s.ixc := by rw [written]; rfl
  have discards : (n.repairBothGeometry geometryCells).wlu.record.state =
      if s.wlu.record.state = .held then .discarded else s.wlu.record.state := by rw [written]; rfl
  rw [State.motionKind, ixc, discards, ← State.motionKind] at aborts
  rw [scrubs.wlu, still, show (u.noteDamaged ⟨.geometry, 1⟩).wlu = u.wlu from rfl, aborts]
  simp only [IxcState.early_iff]
  by_cases held : s.wlu.record.state = .held
  · rw [if_neg fun learns => unheld learns.1 learns.2 held, if_pos held, if_pos held]
  · rw [if_neg held, if_neg held]

/-- The copies of the settings under the pitch that a rebuilt geometry has (R6, R165). -/
theorem Transfer.rebuild_of_pitch {g : Geometry} (pitch : g.pitch = 1000) (x : Transfer) : Transfer.rebuild g (some x) =
    let refit (y : Staged) : Staged := { y with
      target := g.place 1000, overtravel := min (max y.overtravel 10) 250, sweepMargin := min (max y.sweepMargin 50) 250 }
    { x with pending := refit x.pending, working := refit x.working } := by
  simp [Transfer.rebuild, Staged.refit, clampInt, pitch]

/-- Settles O28: each lost cell is rewritten as its region says, and the IXC enters, remembers or omits FAULT(CONFIG). -/
theorem lostSettingsEnterConfigFault : Obligations.LostSettingsEnterConfigFault := by
  intro s live quiet shape lost acts kept group
  have walk_of {c cs} (h : lost (c :: cs)) : s.rst.walk = c := (Option.some.inj h.1).symm
  refine ⟨fun c _ h => ?_, fun h unused => ?_, fun h unheld used => ?_, fun i _ h absent => ?_, fun i g x _ h geometry settings => ?_,
    fun k hk h => ?_⟩
  · obtain ⟨t, next, led⟩ := scrubber_repairs_geometry_copy live quiet (walk_of h) h.2
    obtain ⟨acted, same, geometry, unconfirmed, settings, positions, windows⟩ := State.Reconfigures.of_config led
    exact ⟨t, next, acted, same, geometry, unconfirmed, positions, settings, windows⟩
  · obtain ⟨t, next, led⟩ := scrubber_loses_geometry live quiet (walk_of h) h.2 unused
    obtain ⟨acted, same, geometry, -, settings, positions, windows⟩ := State.Reconfigures.of_config led
    exact ⟨t, next, acted, same, geometry, positions, settings, windows⟩
  · obtain ⟨t, g, w, next, rebuilt, empty, led, record⟩ := scrubber_rebuilds_geometry live quiet (walk_of h) h.2 unheld used
    obtain ⟨acted, same, geometry, unconfirmed, settings, positions, windows⟩ := State.Reconfigures.of_config led
    obtain ⟨low, high, out⟩ := s.rebuiltCount_covers geometryCells
    refine ⟨t, g, next, acted, same, geometry, unconfirmed, ?_⟩
    subst rebuilt
    refine ⟨rfl, rfl, rfl, low, high, fun k above hk => out k hk above, s.rebuiltCount_last, fun k hk => ?_, fun x hx => ?_,
      fun _ k hk => ?_, record⟩
    · rw [State.pos, positions, getD_mapIdx _ _ _ _ Position.reset (shape.position hk), State.kindOf_rebuilt]; rfl
    · rw [settings, hx, Transfer.rebuild_of_pitch rfl]
    · rw [State.window, windows]
      split
      · rfl
      · exact empty _ (by omega)
  · obtain ⟨t, next, led⟩ := scrubber_repairs_transfer_absent live quiet (walk_of h) h.2 absent
    obtain ⟨acted, same, -, -, settings, positions, -⟩ := State.Reconfigures.of_config led
    exact ⟨t, next, acted, same, settings, positions⟩
  · obtain ⟨t, next, led, ctm, timers⟩ := scrubber_defaults_transfer live quiet shape (walk_of h) h.2 geometry settings
    obtain ⟨acted, same, geometry', -, settings', positions, -⟩ := State.Reconfigures.of_config led
    refine ⟨t, next, acted, same, geometry'.trans geometry, positions, ?_, ctm, timers⟩
    rw [settings', Transfer.defaultCell, Staged.defaultGroup_eq, Staged.defaultGroup_eq] <;> rfl
  · obtain ⟨t, next, led⟩ := scrubber_repairs_config live quiet (walk_of h) h.2
    obtain ⟨acted, same, geometry, -, settings, positions, -⟩ := State.Reconfigures.of_config led
    refine ⟨t, next, acted, same, ?_, fun j hj => ?_, geometry, settings⟩
    · rw [State.pos, positions]
      exact (s.pos_onPos_self _ (shape.position hk)).trans rfl
    · rw [State.pos, positions]
      exact s.pos_onPos_ne _ hj

end Sys2Proof.Machine
end
